-- ==== Sys2Proof/Word.lean ====
section
/-!
DEFINITION. The word types of the DXP-4810 (R8: every register is 32 bits, little-endian) and their plainest
arithmetic. Samples, gains and coefficients (R32 to R34) are two's complement integers; they are carried as `Int`
while they are computed with, and become words only where a register or a memory word holds them.
-/

namespace Sys2Proof

/-- A 32-bit register or memory word (R8). -/
abbrev Word := BitVec 32

/-- A byte of addressed memory. -/
abbrev Byte := BitVec 8

/-- The bits `[lo + len - 1 : lo]` of a word, as a number. -/
def Word.fld (w : Word) (lo len : Nat) : Nat := (w.toNat >>> lo) % 2 ^ len

/-- Bit `i` of a word. -/
def Word.bit (w : Word) (i : Nat) : Bool := w.getLsbD i

/-- The word with bits `[lo + len - 1 : lo]` replaced by `v` (its low `len` bits). -/
def Word.setFld (w : Word) (lo len v : Nat) : Word :=
  BitVec.ofNat 32 (w.toNat % 2 ^ lo + (v % 2 ^ len) * 2 ^ lo + (w.toNat >>> (lo + len)) * 2 ^ (lo + len))

/-- The word with bit `i` set to `b`. -/
def Word.setBit (w : Word) (i : Nat) (b : Bool) : Word := w.setFld i 1 b.toNat

/-- A natural number as a word, modulo 2^32. -/
def Word.ofNat (n : Nat) : Word := BitVec.ofNat 32 n

/-- A two's complement integer as a word, modulo 2^32. -/
def Word.ofInt (x : Int) : Word := BitVec.ofInt 32 x

end Sys2Proof
end

