-- ==== Sys2Proof/Kinds.lean ====
section
/-!
DEFINITION. The kinds of operands that commands carry: the units the strip sequencer processes, the requests a
host window brings, the frames that lanes and MACs bring, and the facts a boot finds.
-/

namespace Sys2Proof

/-- A fabric initiator (R523): one of the sixteen initiator ports. -/
abbrev Init := Fin 16

/-- A unit that the strip sequencer, the rate bridges or the Tally clusters process in a block (R11, R14). -/
inductive StripUnit where
  | inStrip (i : Fin 2048)
  | outStrip (k : Fin 1024)
  | rawTap (t : Fin 1280)
  | rateBridge (n : Fin 512)
  | player (p : Fin 512)
  | generator (g : Fin 256)
  | meterTable
  deriving DecidableEq, Repr

/-- What starts a check (R105): the KIND written with ABX_COMMIT.CHECK. 0: the FULL image, 1: an AMEND image. -/
inductive PageKind where
  | full
  | amend
  deriving DecidableEq, Repr

/-- A request frame as a window brings it (R455) together with its origin (R458). -/
structure Req where
  /-- window 0 to 3 -/
  win : Fin 4
  /-- node whose window it is (R31) -/
  node : Nat := 0
  /-- W3 source address and port, 0 elsewhere -/
  ip : Word := 0
  port : Nat := 0
  seq : Word
  args : List Word
  deriving DecidableEq, Repr

/-- The answer a node gives to PREPARE (R129, R411), coded as in CSC_CMT_ANS. -/
structure CommitAnswer where
  tag : Nat
  ans : Nat
  deriving DecidableEq, Repr

/-- A received Ethernet frame (R365): its bytes from the destination address to the last byte of the FCS, whether that
FCS is right, and whether the PHY signalled a receive error. -/
structure EthFrame where
  bytes : List Byte
  fcsOk : Bool
  rxErr : Bool := false
  deriving DecidableEq, Repr

/-- A request with its GROUP × 256 + OPCODE (R455). -/
structure Cmd where
  op : Nat
  req : Req
  deriving DecidableEq, Repr

/-- What the cascade message channel carries (R407). The spec gives no byte format; log entry 40. -/
inductive CscMsg where
  /-- an event of a node, for every window of every node (R474) -/
  | event (code node payload sctrLo : Nat)
  /-- a request for a node, and the answer on its way to the window it came from, with the opcode of the one request it answers or
  none for a write (R31, R407, R458) -/
  | request (target : Nat) (c : Cmd)
  | response (target : Nat) (q : Req) (op : Option Nat) (words : List Word)
  /-- the owner word, the bound W3 source and port, for every node (R445) -/
  | owner (word src : Word) (port : Nat)
  /-- a plan's trigger that began or ended at a worker, for the manager (R497): one of a command or an instant has no end of
  its own; an instant has its C; `acc` is the SCTR of acceptance -/
  | trigger (plan : Nat) (defn : List Word) (on moment : Bool) (c : Option Nat) (acc : Nat)
  /-- a plan as the manager's service has it, for every node: its definition, whether it is active and silenced, and since
  which block and with which SCTR of acceptance (R497, R505, R506); the commit it belongs to has this TAG and C -/
  | plan (plan : Nat) (defn : List Word) (active silenced : Bool) (since acc tag c : Nat)
  /-- a plan of one node alone has become active or has ended (R505): its definition says what it targets -/
  | active (plan : Nat) (defn : List Word) (on : Bool)
  /-- a SILENCE or RESET of a scope beyond its node: kind, word, reset -/
  | scope (kind word : Nat) (reset : Bool)
  /-- the open faults of a node by event code and payload, for the manager (R509), and ALARM ACK of one of them (R507) -/
  | faults (node : Nat) (list : List (Nat × Nat))
  | ack (target code payload : Nat)
  /-- the state of the node that has the battery, for every node (R323): state, mains lost, steps in force -/
  | reserve (state : Nat) (lost : Bool) (steps : Nat)
  /-- the part of a change that a node of several prepares under a TAG (R465, R482) -/
  | part (target tag : Nat) (c : Cmd)
  /-- what a node answers to the manager about its part: a status, 0 where its image is ready, a reason and ARG -/
  | partDone (node tag status reason arg : Nat)
  /-- a roll as its node has it, for every node: members, GAIN, MUTE; none where it was deleted (R463) -/
  | roll (ledger : Nat) (val : Option (List Nat × Word × Bool))
  deriving DecidableEq, Repr

/-- A frame on a cascade link (R396, R398), and what its receiver sees of its arrival. -/
structure CascadeFrame where
  node : Nat := 0
  /-- DIR: sent upstream -/
  up : Bool := false
  grade : Nat := 0
  depth : Nat := 0
  version : Nat := 1
  sctr : Nat := 0
  /-- N, SUBDEPTH, MEAS and MAP of words 2 and 3 -/
  n : Nat := 0
  sub : Nat := 0
  meas : Nat := 0
  map : Nat := 0
  /-- the commit words (R410) -/
  w4 : Nat := 0
  w5 : Nat := 0
  /-- the message header and the segment; none is an empty one -/
  mseq : Nat := 0
  mack : Nat := 0
  msg : Option CscMsg := none
  /-- payload channels; an unlisted one below `n` is zeros -/
  chans : List (Nat × List Int) := []
  /-- HCRC is good; PCRC: 0 good, 1 bad, 2 inverted -/
  hcrc : Bool := true
  pcrc : Nat := 0
  /-- arrival of word 0 after the receiver's boundary, in 1/16 AUDIO periods, and whether the end word met R399 -/
  t0 : Nat := 0
  inTime : Bool := true
  deriving DecidableEq, Repr

/-- What a device that boots or resumes has received by then for its custody decision and its SCTR (R422, R425). -/
structure TakeSignals where
  /-- the last time marks on CUSTMI, oldest first: the level of each cell of 2 AUDIO periods from the boundary (R423) -/
  marks : List (List Bool) := []
  /-- the newest frame from upstream that a worker receives through the lane switch -/
  frame : Option CascadeFrame := none
  /-- milliseconds for which the partner has shown 00 without a break -/
  absent : Nat := 0
  deriving DecidableEq, Repr

/-- The end of a control line's pulse (R358): the line, and the PTP ticks since the command before that brought them. -/
structure PulseEnd where
  line : Fin 64
  dt : Nat
  deriving DecidableEq, Repr

/-- A reference event (R329, R351): where the converter places it, and the PTP ticks since the command before that brought them. -/
structure RefEdge where
  phase : Int
  dt : Nat
  deriving DecidableEq, Repr

/-- A staging of a plan's first 2 s (R501): of MSG2 and not of MSG, and whether it succeeds. -/
structure Staging where
  second : Bool
  ok : Bool
  deriving DecidableEq, Repr

/-- A 66-bit block that a lane receives (R391): the sync header and the block after it, descrambled. -/
structure LaneBlock where
  lane : Fin 14
  hdr : BitVec 2
  bits : BitVec 64
  deriving DecidableEq, Repr

end Sys2Proof
end

