-- ==== Sys2Proof/Machine/RegTable.lean ====
section
/-!
DEFINITION. The register maps of the chapters as one table: name, place, stride, the bits software writes and reads
back (RW), and the reset value. W1C, W1S and SC bits and read-only fields are not in the RW mask.
-/

namespace Sys2Proof.Machine

open Sys2Proof

/-- A register or an array of registers: entry (i, j) lies at `base + i * s1 + j * s2`. -/
structure RegDef where
  name : String
  base : Nat
  c1 : Nat
  s1 : Nat
  c2 : Nat
  s2 : Nat
  rw : Nat
  rst : Nat
  deriving DecidableEq, Repr

/-- Whether the register array has an entry at the address. -/
def RegDef.hits (r : RegDef) (addr : Nat) : Bool :=
  if addr < r.base then false
  else
    let off := addr - r.base
    if r.s1 = 0 then decide (off = 0)
    else if r.s2 = 0 then decide (off % r.s1 = 0 ∧ off / r.s1 < r.c1)
    else decide (off / r.s1 < r.c1 ∧ off % r.s1 % r.s2 = 0 ∧ off % r.s1 / r.s2 < r.c2)

/-- The register map at 0x1000_0000. -/
def regMap1000 : List RegDef := [
  ⟨"SYS_SCTR_LO", 0x10000100, 1, 0x0, 1, 0x0, 0x00000000, 0x00000000⟩,
  ⟨"SYS_SCTR_HI", 0x10000104, 1, 0x0, 1, 0x0, 0x00000000, 0x00000000⟩,
  ⟨"SYS_DOMAIN", 0x10000110, 1, 0x0, 1, 0x0, 0x00000001, 0x00000000⟩,
  ⟨"SYS_SAT_FLAGS", 0x10000120, 1, 0x0, 1, 0x0, 0x00000000, 0x00000000⟩,
  ⟨"SYS_RB_CTL", 0x10001000, 512, 0x4, 1, 0x0, 0x80005FFF, 0x00000000⟩]

/-- The register map at 0x1001_0000. -/
def regMap1001 : List RegDef := [
  ⟨"ABX_STAT", 0x10010000, 1, 0x0, 1, 0x0, 0x00000000, 0x00000000⟩,
  ⟨"ABX_COMMIT", 0x10010004, 1, 0x0, 1, 0x0, 0x00000001, 0x00000000⟩,
  ⟨"ABX_CHK_RESULT", 0x10010008, 1, 0x0, 1, 0x0, 0x00000000, 0x00000000⟩,
  ⟨"ABX_CHK_INDEX", 0x1001000C, 1, 0x0, 1, 0x0, 0x00000000, 0x00000000⟩,
  ⟨"ABX_CHK_UNITS", 0x10010010, 1, 0x0, 1, 0x0, 0x00000000, 0x00000000⟩,
  ⟨"ABX_CHK_CYCLES", 0x10010014, 1, 0x0, 1, 0x0, 0x00000000, 0x00000000⟩,
  ⟨"ABX_CHK_PIECES", 0x10010018, 1, 0x0, 1, 0x0, 0x00000000, 0x00000000⟩,
  ⟨"ABX_LIVE_UNITS", 0x10010020, 1, 0x0, 1, 0x0, 0x00000000, 0x00000000⟩,
  ⟨"ABX_LIVE_CYCLES", 0x10010024, 1, 0x0, 1, 0x0, 0x00000000, 0x00000000⟩,
  ⟨"ABX_LIVE_PIECES", 0x10010028, 1, 0x0, 1, 0x0, 0x00000000, 0x00000000⟩,
  ⟨"ABX_WRDROP", 0x10010030, 1, 0x0, 1, 0x0, 0x00000000, 0x00000000⟩,
  ⟨"ABX_DOMERR", 0x10010034, 1, 0x0, 1, 0x0, 0x00000000, 0x00000000⟩,
  ⟨"ABX_SATMAP", 0x10010100, 128, 0x4, 1, 0x0, 0x00000000, 0x00000000⟩]

/-- The register map at 0x1002_0000. -/
def regMap1002 : List RegDef := [
  ⟨"RMP_CFG", 0x10020000, 4096, 0x4, 1, 0x0, 0x0FFFFF17, 0x00000000⟩,
  ⟨"RMP_START", 0x10024000, 4096, 0x4, 1, 0x0, 0xFFFFFFFF, 0x00000000⟩,
  ⟨"RMP_SSEL", 0x10028000, 1, 0x0, 1, 0x0, 0x00000FFF, 0x00000000⟩,
  ⟨"RMP_WSTAT", 0x10028004, 1, 0x0, 1, 0x0, 0x00000000, 0x00000002⟩,
  ⟨"RMP_WVAL", 0x10028008, 1, 0x0, 1, 0x0, 0x00000000, 0x40000000⟩,
  ⟨"RMP_WSTART_LO", 0x1002800C, 1, 0x0, 1, 0x0, 0x00000000, 0x00000000⟩,
  ⟨"RMP_WSTART_HI", 0x10028010, 1, 0x0, 1, 0x0, 0x00000000, 0x00000000⟩,
  ⟨"RMP_WCFG", 0x10028014, 1, 0x0, 1, 0x0, 0x00000000, 0x00000000⟩,
  ⟨"RMP_CMT_TGT_LO", 0x1002C000, 1, 0x0, 1, 0x0, 0xFFFFFFFF, 0x00000000⟩,
  ⟨"RMP_CMT_TGT_HI", 0x1002C004, 1, 0x0, 1, 0x0, 0xFFFFFFFF, 0x00000000⟩,
  ⟨"RMP_CMT_CTL", 0x1002C008, 1, 0x0, 1, 0x0, 0x00000003, 0x00000000⟩,
  ⟨"RMP_CMT_STAT", 0x1002C00C, 1, 0x0, 1, 0x0, 0x00000000, 0x00000000⟩,
  ⟨"RMP_NEXT_BAD", 0x1002C010, 1, 0x0, 1, 0x0, 0x00000000, 0x00000000⟩,
  ⟨"RMP_SWAP_EPOCH", 0x1002C018, 1, 0x0, 1, 0x0, 0x00000000, 0x00000000⟩,
  ⟨"RMP_WEPOCH", 0x1002C01C, 1, 0x0, 1, 0x0, 0x00000000, 0x00000000⟩,
  ⟨"RMP_CMT_LAST_LO", 0x1002C020, 1, 0x0, 1, 0x0, 0x00000000, 0x00000000⟩,
  ⟨"RMP_CMT_LAST_HI", 0x1002C024, 1, 0x0, 1, 0x0, 0x00000000, 0x00000000⟩]

/-- The register map at 0x1003_0000. -/
def regMap1003 : List RegDef := [
  ⟨"SEC_XSEL", 0x10030000, 1, 0x0, 1, 0x0, 0x0000FFFF, 0x00000000⟩,
  ⟨"SEC_XB0", 0x10030004, 1, 0x0, 1, 0x0, 0xFFFFFFFF, 0x20000000⟩,
  ⟨"SEC_XB1", 0x10030008, 1, 0x0, 1, 0x0, 0xFFFFFFFF, 0x00000000⟩,
  ⟨"SEC_XB2", 0x1003000C, 1, 0x0, 1, 0x0, 0xFFFFFFFF, 0x00000000⟩,
  ⟨"SEC_XA1", 0x10030010, 1, 0x0, 1, 0x0, 0xFFFFFFFF, 0x00000000⟩,
  ⟨"SEC_XA2", 0x10030014, 1, 0x0, 1, 0x0, 0xFFFFFFFF, 0x00000000⟩,
  ⟨"SEC_XCTL", 0x10030018, 1, 0x0, 1, 0x0, 0x0FFF0003, 0x00000000⟩,
  ⟨"SEC_XPART", 0x1003001C, 1, 0x0, 1, 0x0, 0x0000FFFF, 0x00000000⟩,
  ⟨"SEC_XSTAT", 0x10030020, 1, 0x0, 1, 0x0, 0x00000000, 0x00000000⟩,
  ⟨"SEC_BUDGET_LIVE", 0x10030040, 1, 0x0, 1, 0x0, 0x00000000, 0x00000000⟩,
  ⟨"SEC_BUDGET_NEXT", 0x10030044, 1, 0x0, 1, 0x0, 0x00000000, 0x00000000⟩,
  ⟨"SEC_NEXT_BAD", 0x10030048, 1, 0x0, 1, 0x0, 0x00000000, 0x00000000⟩,
  ⟨"SEC_SATMAP", 0x10030100, 2048, 0x4, 1, 0x0, 0x00000000, 0x00000000⟩,
  ⟨"SEC_SSEL", 0x10038000, 1, 0x0, 1, 0x0, 0x03FF07FF, 0x00000000⟩,
  ⟨"SEC_DLYCFG", 0x10038008, 1, 0x0, 1, 0x0, 0x8000001F, 0x00000000⟩,
  ⟨"SEC_METER", 0x1003800C, 1, 0x0, 1, 0x0, 0x007FFFC1, 0x00000000⟩,
  ⟨"IS_CTL", 0x10038100, 1, 0x0, 1, 0x0, 0xFFFF037F, 0x00F00040⟩,
  ⟨"IS_FEED", 0x10038104, 1, 0x0, 1, 0x0, 0x7FFF7FFF, 0x00000000⟩,
  ⟨"IS_TRIM", 0x10038108, 1, 0x0, 1, 0x0, 0xFFFFFFFF, 0x08000000⟩,
  ⟨"IS_FADER", 0x1003810C, 1, 0x0, 1, 0x0, 0xFFFFFFFF, 0x08000000⟩,
  ⟨"IS_RAMP", 0x10038110, 1, 0x0, 1, 0x0, 0x0FFF0FFF, 0x00000000⟩,
  ⟨"IS_MUTE", 0x10038114, 1, 0x0, 1, 0x0, 0x0FFF0001, 0x00000001⟩,
  ⟨"IS_SECT", 0x10038118, 1, 0x0, 1, 0x0, 0x00F3FFFF, 0x00000000⟩,
  ⟨"IS_DYN", 0x1003811C, 1, 0x0, 1, 0x0, 0xFFFF0F7F, 0x00000000⟩,
  ⟨"IS_DLY", 0x10038120, 1, 0x0, 1, 0x0, 0x3FFF07FF, 0x00000000⟩,
  ⟨"IS_STAT", 0x1003813C, 1, 0x0, 1, 0x0, 0x00000000, 0x00000000⟩,
  ⟨"OS_CTL", 0x10038200, 1, 0x0, 1, 0x0, 0x0FFF000F, 0x00000000⟩,
  ⟨"OS_SECT", 0x10038204, 1, 0x0, 1, 0x0, 0x001FFFFF, 0x00000000⟩,
  ⟨"OS_DYN", 0x10038208, 1, 0x0, 1, 0x0, 0xFFFF0F7F, 0x00000000⟩,
  ⟨"OS_DLY", 0x1003820C, 1, 0x0, 1, 0x0, 0x0001FFFF, 0x00000000⟩,
  ⟨"OS_GAIN", 0x10038210, 1, 0x0, 1, 0x0, 0xFFFFFFFF, 0x08000000⟩,
  ⟨"OS_RAMP", 0x10038214, 1, 0x0, 1, 0x0, 0x8FFF0FFF, 0x80000000⟩,
  ⟨"OS_DEST", 0x10038218, 1, 0x0, 1, 0x0, 0x7FFF0007, 0x00000000⟩,
  ⟨"OS_STAT", 0x1003823C, 1, 0x0, 1, 0x0, 0x00000000, 0x00000000⟩,
  ⟨"SEC_RAWTAP", 0x10039000, 1280, 0x4, 1, 0x0, 0x80007FFF, 0x00000000⟩]

/-- The register map at 0x1004_0000. -/
def regMap1004 : List RegDef := [
  ⟨"TLY_CTL", 0x10040000, 64, 0x100, 1, 0x0, 0x000000F0, 0x00000000⟩,
  ⟨"TLY_STAT", 0x10040004, 64, 0x100, 1, 0x0, 0x00000000, 0x00000000⟩,
  ⟨"TLY_IVEC", 0x10040008, 64, 0x100, 1, 0x0, 0x00001FFF, 0x00000000⟩,
  ⟨"TLY_DBELL", 0x1004000C, 64, 0x100, 1, 0x0, 0x00000000, 0x00000000⟩,
  ⟨"TLY_QSEL", 0x10040010, 64, 0x100, 1, 0x0, 0x800000FF, 0x00000000⟩,
  ⟨"TLY_MARK", 0x10040014, 64, 0x100, 1, 0x0, 0x0007FFFF, 0x00000000⟩,
  ⟨"TLY_IRQMAX", 0x10040018, 64, 0x100, 1, 0x0, 0x0000FFFF, 0x00000400⟩,
  ⟨"TLY_FAULT", 0x1004001C, 64, 0x100, 1, 0x0, 0x00000000, 0x00000000⟩,
  ⟨"TLY_LASTCYC", 0x10040020, 64, 0x100, 1, 0x0, 0x00000000, 0x00000000⟩,
  ⟨"TLY_SUM", 0x10040024, 64, 0x100, 1, 0x0, 0x00000000, 0x00000420⟩,
  ⟨"TLY_DROP", 0x10040028, 64, 0x100, 1, 0x0, 0x00000000, 0x00000000⟩,
  ⟨"TLY_CLU", 0x10048000, 4, 0x10, 1, 0x0, 0x00000000, 0x00000000⟩,
  ⟨"TLY_NEXT_BAD", 0x10049000, 1, 0x0, 1, 0x0, 0x00000000, 0x00000000⟩]

/-- The register map at 0x1005_0000. -/
def regMap1005 : List RegDef := [
  ⟨"FDC_CTL", 0x10050000, 48, 0x40, 1, 0x0, 0x01FF007F, 0x00400000⟩,
  ⟨"FDC_SCALE", 0x10050004, 48, 0x40, 1, 0x0, 0xFFFFFFFF, 0x80000000⟩,
  ⟨"FDC_SHIFT", 0x10050008, 48, 0x40, 1, 0x0, 0x0000003F, 0x0000001C⟩,
  ⟨"FDC_STAT", 0x1005000C, 48, 0x40, 1, 0x0, 0x00000000, 0x00000000⟩,
  ⟨"FDC_PKCFG", 0x10050010, 48, 0x40, 1, 0x0, 0x000FFFFF, 0x00000000⟩,
  ⟨"FDC_PKDK", 0x10050014, 48, 0x40, 1, 0x0, 0xFFFFFFFF, 0xFFFF0000⟩,
  ⟨"FDC_PEAK", 0x10050018, 48, 0x40, 1, 0x0, 0x00000000, 0x00000000⟩,
  ⟨"FDC_RMSWIN", 0x1005001C, 48, 0x40, 1, 0x0, 0x003FFFFF, 0x0000BB80⟩,
  ⟨"FDC_MS", 0x10050020, 48, 0x40, 1, 0x0, 0x00000000, 0x00000000⟩,
  ⟨"FDC_MSSEQ", 0x10050024, 48, 0x40, 1, 0x0, 0x00000000, 0x00000000⟩,
  ⟨"FDC_ENVATT", 0x10050028, 48, 0x40, 1, 0x0, 0xFFFFFFFF, 0x05473599⟩,
  ⟨"FDC_ENVREL", 0x1005002C, 48, 0x40, 1, 0x0, 0xFFFFFFFF, 0x05473599⟩,
  ⟨"FDC_ENV", 0x10050030, 48, 0x40, 1, 0x0, 0x00000000, 0x00000000⟩,
  ⟨"FDC_FSET", 0x10051000, 8, 0x10, 1, 0x0, 0x000001FF, 0x00000001⟩,
  ⟨"FDC_DROP", 0x10051100, 1, 0x0, 1, 0x0, 0x00000000, 0x00000000⟩,
  ⟨"FDC_COEF", 0x10052000, 8, 0x400, 192, 0x4, 0xFFFFFFFF, 0x00000000⟩]

/-- The register map at 0x1006_0000. -/
def regMap1006 : List RegDef := [
  ⟨"APT_P_CFG", 0x10060000, 16, 0x80, 1, 0x0, 0x0F07FFFF, 0x00044FB4⟩,
  ⟨"APT_P_CTL", 0x10060004, 16, 0x80, 1, 0x0, 0x0000003F, 0x00000000⟩,
  ⟨"APT_P_STAT", 0x10060008, 16, 0x80, 1, 0x0, 0x00000000, 0x00000000⟩,
  ⟨"APT_P_MASK_NEXT", 0x1006000C, 16, 0x80, 1, 0x0, 0xFFFFFFFF, 0xFFFFFFFF⟩,
  ⟨"APT_P_MASK_NEXT_TX", 0x10060010, 16, 0x80, 1, 0x0, 0xFFFFFFFF, 0xFFFFFFFF⟩,
  ⟨"APT_P_MASK_CTL", 0x10060014, 16, 0x80, 1, 0x0, 0x00000001, 0x00000000⟩,
  ⟨"APT_P_MASK_ACTIVE", 0x10060018, 16, 0x80, 1, 0x0, 0x00000000, 0x00000000⟩,
  ⟨"APT_P_MASK_FROM", 0x1006001C, 16, 0x80, 1, 0x0, 0x00000000, 0x00000000⟩,
  ⟨"APT_P_MASK_LIVE", 0x10060020, 16, 0x80, 1, 0x0, 0x00000000, 0xFFFFFFFF⟩,
  ⟨"APT_P_MASK_LIVE_TX", 0x10060024, 16, 0x80, 1, 0x0, 0x00000000, 0xFFFFFFFF⟩,
  ⟨"APT_P_SLIP", 0x10060028, 16, 0x80, 1, 0x0, 0x00000000, 0x00000000⟩,
  ⟨"APT_P_ERR", 0x1006002C, 16, 0x80, 1, 0x0, 0x00000000, 0x00000000⟩,
  ⟨"APT_P_CLIP", 0x10060030, 16, 0x80, 1, 0x0, 0x00000000, 0x00000000⟩,
  ⟨"APT_P_TS_SEQ", 0x10060040, 16, 0x80, 1, 0x0, 0x00000000, 0x00000000⟩,
  ⟨"APT_P_TS_BLOCK", 0x10060044, 16, 0x80, 1, 0x0, 0x00000000, 0x00000000⟩,
  ⟨"APT_P_TS_OFS", 0x10060048, 16, 0x80, 1, 0x0, 0x00000000, 0x00000000⟩,
  ⟨"APT_GRP_TOL", 0x10060800, 1, 0x0, 1, 0x0, 0x00003FFF, 0x00000040⟩,
  ⟨"APT_TSQ", 0x10060804, 1, 0x0, 1, 0x0, 0x8000007F, 0x00000000⟩,
  ⟨"APT_PDM_CTL", 0x10061000, 1, 0x0, 1, 0x0, 0x0000FF0F, 0x00001400⟩,
  ⟨"APT_PDM_STUCK", 0x10061004, 1, 0x0, 1, 0x0, 0x00000000, 0x00000000⟩]

/-- The register map at 0x1007_0000. -/
def regMap1007 : List RegDef := [
  ⟨"BRG_CH_CTL", 0x10070000, 64, 0x40, 1, 0x0, 0x00FFFF3F, 0x00323202⟩,
  ⟨"BRG_CH_FS", 0x10070004, 64, 0x40, 1, 0x0, 0x00000FFF, 0x00000000⟩,
  ⟨"BRG_CH_STAT", 0x10070008, 64, 0x40, 1, 0x0, 0x00000000, 0x00000000⟩,
  ⟨"BRG_CH_VERDICT", 0x1007000C, 64, 0x40, 1, 0x0, 0x00000000, 0x00000000⟩,
  ⟨"BRG_CH_OCCNT", 0x10070010, 64, 0x40, 1, 0x0, 0x00000000, 0x00000000⟩,
  ⟨"BRG_CH_CLIPCNT", 0x10070014, 64, 0x40, 1, 0x0, 0x00000000, 0x00000000⟩,
  ⟨"BRG_B_CTL", 0x10071000, 8, 0x20, 1, 0x0, 0x0000001F, 0x0000001A⟩,
  ⟨"BRG_B_RAIL", 0x10071004, 8, 0x20, 1, 0x0, 0x0FFF0FFF, 0x0FFF0000⟩,
  ⟨"BRG_B_RSTAT", 0x10071008, 8, 0x20, 1, 0x0, 0x00000000, 0x00000000⟩,
  ⟨"BRG_GCTL", 0x10072000, 1, 0x0, 1, 0x0, 0x03FF001F, 0x00FA0004⟩,
  ⟨"BRG_RETRY_LVL", 0x10072004, 1, 0x0, 1, 0x0, 0x0001FFFF, 0x00001999⟩,
  ⟨"BRG_CLKSTAT", 0x10072008, 1, 0x0, 1, 0x0, 0x00000000, 0x00000000⟩]

/-- The register map at 0x1008_0000. -/
def regMap1008 : List RegDef := [
  ⟨"MON_TONE", 0x10080000, 1, 0x0, 1, 0x0, 0xFFFFFFFF, 0x0040C371⟩,
  ⟨"MON_PROGMIN", 0x10080004, 1, 0x0, 1, 0x0, 0xFFFFFFFF, 0x0000068E⟩,
  ⟨"MON_G", 0x10080100, 16, 0x4, 1, 0x0, 0x00000007, 0x00000000⟩,
  ⟨"MON_CH_CTL", 0x10081000, 64, 0x80, 1, 0x0, 0x00000003, 0x00000001⟩,
  ⟨"MON_CH_STAT", 0x10081004, 64, 0x80, 1, 0x0, 0x00000000, 0x00000000⟩,
  ⟨"MON_CH_SVR_LO", 0x10081008, 64, 0x80, 1, 0x0, 0x00000000, 0x00000000⟩,
  ⟨"MON_CH_SVR_HI", 0x1008100C, 64, 0x80, 1, 0x0, 0x00000000, 0x00000000⟩,
  ⟨"MON_CH_SIR_LO", 0x10081010, 64, 0x80, 1, 0x0, 0x00000000, 0x00000000⟩,
  ⟨"MON_CH_SIR_HI", 0x10081014, 64, 0x80, 1, 0x0, 0x00000000, 0x00000000⟩,
  ⟨"MON_CH_SRR_LO", 0x10081018, 64, 0x80, 1, 0x0, 0x00000000, 0x00000000⟩,
  ⟨"MON_CH_SRR_HI", 0x1008101C, 64, 0x80, 1, 0x0, 0x00000000, 0x00000000⟩,
  ⟨"MON_CH_SVV_LO", 0x10081020, 64, 0x80, 1, 0x0, 0x00000000, 0x00000000⟩,
  ⟨"MON_CH_SVV_HI", 0x10081024, 64, 0x80, 1, 0x0, 0x00000000, 0x00000000⟩,
  ⟨"MON_CH_VC_LO", 0x10081028, 64, 0x80, 1, 0x0, 0x00000000, 0x00000000⟩,
  ⟨"MON_CH_VC_HI", 0x1008102C, 64, 0x80, 1, 0x0, 0x00000000, 0x00000000⟩,
  ⟨"MON_CH_VS_LO", 0x10081030, 64, 0x80, 1, 0x0, 0x00000000, 0x00000000⟩,
  ⟨"MON_CH_VS_HI", 0x10081034, 64, 0x80, 1, 0x0, 0x00000000, 0x00000000⟩,
  ⟨"MON_CH_IC_LO", 0x10081038, 64, 0x80, 1, 0x0, 0x00000000, 0x00000000⟩,
  ⟨"MON_CH_IC_HI", 0x1008103C, 64, 0x80, 1, 0x0, 0x00000000, 0x00000000⟩,
  ⟨"MON_CH_IS_LO", 0x10081040, 64, 0x80, 1, 0x0, 0x00000000, 0x00000000⟩,
  ⟨"MON_CH_IS_HI", 0x10081044, 64, 0x80, 1, 0x0, 0x00000000, 0x00000000⟩,
  ⟨"MON_CH_TA_LO", 0x10081048, 64, 0x80, 1, 0x0, 0x00000000, 0x00000000⟩,
  ⟨"MON_CH_TA_HI", 0x1008104C, 64, 0x80, 1, 0x0, 0x00000000, 0x00000000⟩,
  ⟨"MON_CH_TB_LO", 0x10081050, 64, 0x80, 1, 0x0, 0x00000000, 0x00000000⟩,
  ⟨"MON_CH_TB_HI", 0x10081054, 64, 0x80, 1, 0x0, 0x00000000, 0x00000000⟩,
  ⟨"MON_CH_PMS", 0x10081058, 64, 0x80, 1, 0x0, 0x00000000, 0x00000000⟩,
  ⟨"MON_SIN_CFG", 0x10084000, 1, 0x0, 1, 0x0, 0xFFFFFFFF, 0x08140000⟩,
  ⟨"MON_SIN_THR1", 0x10084004, 1, 0x0, 1, 0x0, 0x0FFF0FFF, 0x03B30051⟩,
  ⟨"MON_SIN_THR2", 0x10084008, 1, 0x0, 1, 0x0, 0x00000FFF, 0x00000CCE⟩,
  ⟨"MON_SIN", 0x10084010, 16, 0x4, 1, 0x0, 0x00000000, 0x0000F000⟩]

/-- The register map at 0x1009_0000. -/
def regMap1009 : List RegDef := [
  ⟨"RSV_CTL", 0x10090000, 1, 0x0, 1, 0x0, 0x00000007, 0x00000001⟩,
  ⟨"RSV_IOFS", 0x10090004, 1, 0x0, 1, 0x0, 0x00000FFF, 0x00000800⟩,
  ⟨"RSV_VLOW", 0x10090008, 1, 0x0, 1, 0x0, 0x00000FFF, 0x00000000⟩,
  ⟨"RSV_QACC_LO", 0x1009000C, 1, 0x0, 1, 0x0, 0x00000000, 0x00000000⟩,
  ⟨"RSV_QACC_HI", 0x10090010, 1, 0x0, 1, 0x0, 0x00000000, 0x00000000⟩,
  ⟨"RSV_QCNT", 0x10090014, 1, 0x0, 1, 0x0, 0x00000000, 0x00000000⟩,
  ⟨"RSV_IN", 0x10090020, 24, 0x4, 1, 0x0, 0x00000000, 0x00000000⟩,
  ⟨"RSV_DMS", 0x10090100, 64, 0x4, 1, 0x0, 0x00000000, 0x00000000⟩,
  ⟨"RSV_DMSSEQ", 0x10090200, 1, 0x0, 1, 0x0, 0x00000000, 0x00000000⟩,
  ⟨"RSV_THMFLT", 0x10090204, 1, 0x0, 1, 0x0, 0x00000000, 0x00000000⟩,
  ⟨"RSV_STATE", 0x10090208, 1, 0x0, 1, 0x0, 0x0000003F, 0x00000000⟩]

/-- The register map at 0x100A_0000. -/
def regMap100A : List RegDef := [
  ⟨"REF_CTL", 0x100A0000, 1, 0x0, 1, 0x0, 0x0000000F, 0x00000003⟩,
  ⟨"REF_LOOP", 0x100A0004, 1, 0x0, 1, 0x0, 0x3FFF03FF, 0x03E8000A⟩,
  ⟨"REF_QUAL", 0x100A0008, 1, 0x0, 1, 0x0, 0x7FFFFFFF, 0x30A0C350⟩,
  ⟨"REF_QUAL2", 0x100A000C, 1, 0x0, 1, 0x0, 0x00FFFFFF, 0x001E1388⟩,
  ⟨"REF_AGREE", 0x100A0010, 1, 0x0, 1, 0x0, 0xFFFFFFFF, 0x012C07D0⟩,
  ⟨"REF_GRADE", 0x100A0014, 1, 0x0, 1, 0x0, 0x000000FF, 0x000000EB⟩,
  ⟨"REF_STAT", 0x100A0018, 1, 0x0, 1, 0x0, 0x00000000, 0x0000E000⟩,
  ⟨"REF_FREQ", 0x100A001C, 1, 0x0, 1, 0x0, 0xFFFFFFFF, 0x00000000⟩,
  ⟨"REF_RES", 0x100A0020, 1, 0x0, 1, 0x0, 0x00000000, 0x00000000⟩,
  ⟨"REF_UPD", 0x100A0024, 1, 0x0, 1, 0x0, 0x00000000, 0x00000000⟩,
  ⟨"REF_PRIO", 0x100A0040, 8, 0x4, 1, 0x0, 0x80000077, 0x00000000⟩,
  ⟨"REF_SLOT_CTL", 0x100A0100, 8, 0x20, 1, 0x0, 0x00000FFF, 0x0000000F⟩,
  ⟨"REF_SLOT_STAT", 0x100A0104, 8, 0x20, 1, 0x0, 0x00000000, 0x00000000⟩,
  ⟨"REF_SLOT_OFS", 0x100A0108, 8, 0x20, 1, 0x0, 0x00000000, 0x00000000⟩,
  ⟨"REF_SLOT_RAW", 0x100A010C, 8, 0x20, 1, 0x0, 0x00000000, 0x00000000⟩,
  ⟨"REF_SLOT_PHASE", 0x100A0110, 8, 0x20, 1, 0x0, 0x00000000, 0x00000000⟩]

/-- The register map at 0x100B_0000. -/
def regMap100B : List RegDef := [
  ⟨"TBS_TB_CTL", 0x100B0000, 4, 0x40, 1, 0x0, 0x0001FF01, 0x00000001⟩,
  ⟨"TBS_TB_INC", 0x100B0004, 4, 0x40, 1, 0x0, 0xFFFFFFFF, 0x0411AAAA⟩,
  ⟨"TBS_TB_NS", 0x100B0008, 4, 0x40, 1, 0x0, 0x00000000, 0x00000000⟩,
  ⟨"TBS_TB_SEC_LO", 0x100B000C, 4, 0x40, 1, 0x0, 0x00000000, 0x00000000⟩,
  ⟨"TBS_TB_SEC_HI", 0x100B0010, 4, 0x40, 1, 0x0, 0x00000000, 0x00000000⟩,
  ⟨"TBS_TB_FRAC", 0x100B0014, 4, 0x40, 1, 0x0, 0x00000000, 0x00000000⟩,
  ⟨"TBS_TB_SET_SEC_LO", 0x100B0018, 4, 0x40, 1, 0x0, 0xFFFFFFFF, 0x00000000⟩,
  ⟨"TBS_TB_SET_SEC_HI", 0x100B001C, 4, 0x40, 1, 0x0, 0x0000FFFF, 0x00000000⟩,
  ⟨"TBS_TB_SET_NS", 0x100B0020, 4, 0x40, 1, 0x0, 0x3FFFFFFF, 0x00000000⟩,
  ⟨"TBS_TB_ADJ", 0x100B0024, 4, 0x40, 1, 0x0, 0xFFFFFFFF, 0x00000000⟩,
  ⟨"TBS_TB_INCF", 0x100B0028, 4, 0x40, 1, 0x0, 0x0000FFFF, 0x0000AAAB⟩,
  ⟨"TBS_MAC_ING_LAT", 0x100B0800, 4, 0x20, 1, 0x0, 0xFFFFFFFF, 0x00000000⟩,
  ⟨"TBS_MAC_EGR_LAT", 0x100B0804, 4, 0x20, 1, 0x0, 0xFFFFFFFF, 0x00000000⟩,
  ⟨"TBS_MAC_ASYM", 0x100B0808, 4, 0x20, 1, 0x0, 0xFFFFFFFF, 0x00000000⟩,
  ⟨"TBS_MAC_PCTL", 0x100B080C, 4, 0x20, 1, 0x0, 0x00000001, 0x00000000⟩,
  ⟨"TBS_TXQ_E0", 0x100B0C00, 4, 0x20, 1, 0x0, 0x00000000, 0x00000000⟩,
  ⟨"TBS_TXQ_E1", 0x100B0C04, 4, 0x20, 1, 0x0, 0x00000000, 0x00000000⟩,
  ⟨"TBS_TXQ_E2", 0x100B0C08, 4, 0x20, 1, 0x0, 0x00000000, 0x00000000⟩,
  ⟨"TBS_TXQ_E3", 0x100B0C0C, 4, 0x20, 1, 0x0, 0x00000000, 0x00000000⟩,
  ⟨"TBS_TXQ_STAT", 0x100B0C10, 4, 0x20, 1, 0x0, 0x00000000, 0x00000000⟩,
  ⟨"TBS_TRG_CTL", 0x100B1000, 16, 0x20, 1, 0x0, 0xFFFFFDFC, 0x00010000⟩,
  ⟨"TBS_TRG_SEC_LO", 0x100B1004, 16, 0x20, 1, 0x0, 0xFFFFFFFF, 0x00000000⟩,
  ⟨"TBS_TRG_SEC_HI", 0x100B1008, 16, 0x20, 1, 0x0, 0x0000FFFF, 0x00000000⟩,
  ⟨"TBS_TRG_NS", 0x100B100C, 16, 0x20, 1, 0x0, 0x3FFFFFFF, 0x00000000⟩,
  ⟨"TBS_TRG_PERIOD", 0x100B1010, 16, 0x20, 1, 0x0, 0xFFFFFFFF, 0x00000000⟩,
  ⟨"TBS_TRG_MASK", 0x100B1014, 16, 0x20, 1, 0x0, 0xFFFFFFFF, 0x00000000⟩,
  ⟨"TBS_TRG_MISSED", 0x100B1018, 16, 0x20, 1, 0x0, 0x00000000, 0x00000000⟩,
  ⟨"TBS_CAP_CTL", 0x100B2000, 16, 0x20, 1, 0x0, 0x000007FF, 0x00000000⟩,
  ⟨"TBS_CAP_SEC_LO", 0x100B2004, 16, 0x20, 1, 0x0, 0x00000000, 0x00000000⟩,
  ⟨"TBS_CAP_SEC_HI", 0x100B2008, 16, 0x20, 1, 0x0, 0x00000000, 0x00000000⟩,
  ⟨"TBS_CAP_NS", 0x100B200C, 16, 0x20, 1, 0x0, 0x00000000, 0x00000000⟩,
  ⟨"TBS_CAP_FRAC", 0x100B2010, 16, 0x20, 1, 0x0, 0x00000000, 0x00000000⟩,
  ⟨"TBS_EPOCH_SEQ", 0x100B3000, 1, 0x0, 1, 0x0, 0x00000000, 0x00000000⟩,
  ⟨"TBS_EPOCH_SCTR_LO", 0x100B3004, 1, 0x0, 1, 0x0, 0x00000000, 0x00000000⟩,
  ⟨"TBS_EPOCH_SCTR_HI", 0x100B3008, 1, 0x0, 1, 0x0, 0x00000000, 0x00000000⟩,
  ⟨"TBS_EPOCH_SEC_LO", 0x100B300C, 1, 0x0, 1, 0x0, 0x00000000, 0x00000000⟩,
  ⟨"TBS_EPOCH_SEC_HI", 0x100B3010, 1, 0x0, 1, 0x0, 0x00000000, 0x00000000⟩,
  ⟨"TBS_EPOCH_NS", 0x100B3014, 1, 0x0, 1, 0x0, 0x00000000, 0x00000000⟩,
  ⟨"TBS_EPOCH_FRAC", 0x100B3018, 1, 0x0, 1, 0x0, 0x00000000, 0x00000000⟩,
  ⟨"TBS_EPOCH_PER", 0x100B301C, 1, 0x0, 1, 0x0, 0x00000000, 0x00000000⟩]

/-- The register map at 0x100C_0000. -/
def regMap100C : List RegDef := [
  ⟨"MAC_CTL", 0x100C0000, 4, 0x4000, 1, 0x0, 0x00000FFF, 0x00000008⟩,
  ⟨"MAC_ADDR_LO", 0x100C0004, 4, 0x4000, 1, 0x0, 0xFFFFFFFF, 0x00000000⟩,
  ⟨"MAC_ADDR_HI", 0x100C0008, 4, 0x4000, 1, 0x0, 0x0000FFFF, 0x00000000⟩,
  ⟨"MAC_RXMAX", 0x100C000C, 4, 0x4000, 1, 0x0, 0x00003FFF, 0x000005EE⟩,
  ⟨"MAC_QCFG", 0x100C0010, 4, 0x4000, 1, 0x0, 0x0FFFFFFF, 0x00000000⟩,
  ⟨"MAC_BUF", 0x100C0014, 4, 0x4000, 1, 0x0, 0x000000FF, 0x00000020⟩,
  ⟨"MAC_EEE", 0x100C0018, 4, 0x4000, 1, 0x0, 0xFFFF0001, 0x64110000⟩,
  ⟨"MAC_PAUSE", 0x100C001C, 4, 0x4000, 1, 0x0, 0x0000FFFF, 0x0000FFFF⟩,
  ⟨"MAC_STAT", 0x100C0020, 4, 0x4000, 1, 0x0, 0x00000000, 0x00000000⟩,
  ⟨"MAC0_MDIO", 0x100C0024, 1, 0x0, 1, 0x0, 0x07FFFFFF, 0x00000000⟩,
  ⟨"MAC_CNT", 0x100C0100, 4, 0x4000, 13, 0x4, 0x00000000, 0x00000000⟩,
  ⟨"SRX_CTL", 0x100C2000, 4, 0x4000, 32, 0x40, 0x07FFFFFF, 0x000000B8⟩,
  ⟨"SRX_DST", 0x100C2004, 4, 0x4000, 32, 0x40, 0xFFFFFFFF, 0x00000000⟩,
  ⟨"SRX_PORT", 0x100C2008, 4, 0x4000, 32, 0x40, 0x007FFFFF, 0x00600000⟩,
  ⟨"SRX_SRC", 0x100C200C, 4, 0x4000, 32, 0x40, 0xFFFFFFFF, 0x00000000⟩,
  ⟨"SRX_LINK", 0x100C2010, 4, 0x4000, 32, 0x40, 0x000003FF, 0x00000000⟩,
  ⟨"SRX_OFS", 0x100C2014, 4, 0x4000, 32, 0x40, 0xFFFFFFFF, 0x00000000⟩,
  ⟨"SRX_SSRC", 0x100C2018, 4, 0x4000, 32, 0x40, 0xFFFFFFFF, 0x00000000⟩,
  ⟨"SRX_CNT0", 0x100C201C, 4, 0x4000, 32, 0x40, 0x00000000, 0x00000000⟩,
  ⟨"SRX_CNT1", 0x100C2020, 4, 0x4000, 32, 0x40, 0x00000000, 0x00000000⟩,
  ⟨"SRX_CNT2", 0x100C2024, 4, 0x4000, 32, 0x40, 0x00000000, 0x00000000⟩,
  ⟨"STX_CTL", 0x100C3000, 4, 0x4000, 32, 0x40, 0x03FFFFFF, 0x010000B8⟩,
  ⟨"STX_DST", 0x100C3004, 4, 0x4000, 32, 0x40, 0xFFFFFFFF, 0x00000000⟩,
  ⟨"STX_PORT", 0x100C3008, 4, 0x4000, 32, 0x40, 0xFFFFFFFF, 0x00000000⟩,
  ⟨"STX_HDR", 0x100C300C, 4, 0x4000, 32, 0x40, 0x007FFF3F, 0x00601022⟩,
  ⟨"STX_DMAC_LO", 0x100C3010, 4, 0x4000, 32, 0x40, 0xFFFFFFFF, 0x00000000⟩,
  ⟨"STX_DMAC_HI", 0x100C3014, 4, 0x4000, 32, 0x40, 0x0FFFFFFF, 0x00000000⟩,
  ⟨"STX_SSRC", 0x100C3018, 4, 0x4000, 32, 0x40, 0xFFFFFFFF, 0x00000000⟩,
  ⟨"STX_OFS", 0x100C301C, 4, 0x4000, 32, 0x40, 0xFFFFFFFF, 0x00000000⟩,
  ⟨"STX_CNT", 0x100C3020, 4, 0x4000, 32, 0x40, 0x00000000, 0x00000000⟩]

/-- The register map at 0x100D_0000. -/
def regMap100D : List RegDef := [
  ⟨"LAN_L_CTL", 0x100D0000, 14, 0x40, 1, 0x0, 0x00000F77, 0x00000400⟩,
  ⟨"LAN_L_STAT", 0x100D0004, 14, 0x40, 1, 0x0, 0x00000000, 0x00000000⟩,
  ⟨"LAN_L_ERR", 0x100D0008, 14, 0x40, 1, 0x0, 0x00000000, 0x00000000⟩,
  ⟨"LAN_L_EQ", 0x100D000C, 14, 0x40, 1, 0x0, 0x00000000, 0x00000000⟩]

/-- The register map at 0x100E_0000. -/
def regMap100E : List RegDef := [
  ⟨"CSC_CTL", 0x100E0000, 1, 0x0, 1, 0x0, 0x00FF00FF, 0x000A0000⟩,
  ⟨"CSC_TOPO", 0x100E0004, 1, 0x0, 1, 0x0, 0x00000000, 0x00000000⟩,
  ⟨"CSC_MAP_LO", 0x100E0010, 1, 0x0, 1, 0x0, 0x00000000, 0x00000000⟩,
  ⟨"CSC_MAP_HI", 0x100E0014, 1, 0x0, 1, 0x0, 0x00000000, 0x00000000⟩,
  ⟨"CSC_CP_CTL", 0x100E0100, 3, 0x40, 1, 0x0, 0x00007FFF, 0x00000000⟩,
  ⟨"CSC_CP_STAT", 0x100E0104, 3, 0x40, 1, 0x0, 0x00000000, 0x00000000⟩,
  ⟨"CSC_CP_ERR", 0x100E0108, 3, 0x40, 1, 0x0, 0x00000000, 0x00000000⟩,
  ⟨"CSC_CP_LINK_OWN", 0x100E010C, 3, 0x40, 1, 0x0, 0x00000000, 0x00000000⟩,
  ⟨"CSC_CP_LINK_PEER", 0x100E0110, 3, 0x40, 1, 0x0, 0x00000000, 0x00000000⟩,
  ⟨"CSC_CP_ASYM", 0x100E0114, 3, 0x40, 1, 0x0, 0xFFFFFFFF, 0x00000000⟩,
  ⟨"CSC_CP_MAP_LO", 0x100E0118, 3, 0x40, 1, 0x0, 0x00000000, 0x00000000⟩,
  ⟨"CSC_CP_MAP_HI", 0x100E011C, 3, 0x40, 1, 0x0, 0x00000000, 0x00000000⟩,
  ⟨"CSC_CP_RET", 0x100E0120, 3, 0x40, 1, 0x0, 0x0FFFDFFF, 0x00000000⟩,
  ⟨"CSC_TR_A", 0x100E1000, 64, 0x8, 1, 0x0, 0x7FFFFFFF, 0x00000000⟩,
  ⟨"CSC_TR_B", 0x100E1004, 64, 0x8, 1, 0x0, 0x00003FFF, 0x00000000⟩,
  ⟨"CSC_CMT_ANS", 0x100E2000, 1, 0x0, 1, 0x0, 0x000003FF, 0x00000000⟩,
  ⟨"CSC_CMT_STAT", 0x100E2004, 1, 0x0, 1, 0x0, 0x00000000, 0x00000000⟩]

/-- The register map at 0x100F_0000. -/
def regMap100F : List RegDef := [
  ⟨"CUS_CTL", 0x100F0000, 1, 0x0, 1, 0x0, 0x0000FF0F, 0x00001800⟩,
  ⟨"CUS_STAT", 0x100F0004, 1, 0x0, 1, 0x0, 0x00000000, 0x00000000⟩,
  ⟨"CUS_CAUSE", 0x100F0008, 1, 0x0, 1, 0x0, 0x00000000, 0x00000000⟩,
  ⟨"CUS_HOLD0", 0x100F000C, 1, 0x0, 1, 0x0, 0xFFFFFFFF, 0xFFFFFFFF⟩,
  ⟨"CUS_HOLD1", 0x100F0010, 1, 0x0, 1, 0x0, 0xFFFFFFFF, 0x7FFFFFFF⟩,
  ⟨"CUS_WAKECNT", 0x100F0014, 1, 0x0, 1, 0x0, 0x00000000, 0x00000000⟩,
  ⟨"CUS_CNT", 0x100F0018, 1, 0x0, 1, 0x0, 0x00000000, 0x00000000⟩]

/-- The register map at 0x1010_0000. -/
def regMap1010 : List RegDef := [
  ⟨"TLR_OWN", 0x10100000, 1, 0x0, 1, 0x0, 0x00000000, 0x00000000⟩,
  ⟨"TLR_OWN_SRC", 0x10100004, 1, 0x0, 1, 0x0, 0x00000000, 0x00000000⟩,
  ⟨"TLR_OWN_PORT", 0x10100008, 1, 0x0, 1, 0x0, 0x00000000, 0x00000000⟩,
  ⟨"TLR_W3", 0x1010000C, 1, 0x0, 1, 0x0, 0x8000FFFF, 0x800012CA⟩,
  ⟨"TLR_BOOT", 0x10100010, 1, 0x0, 1, 0x0, 0x00000000, 0x00000000⟩,
  ⟨"TLR_AUDIT", 0x10100014, 1, 0x0, 1, 0x0, 0x00000000, 0x00000000⟩,
  ⟨"TLR_W_CTL", 0x10100100, 4, 0x20, 1, 0x0, 0x00000003, 0x00000003⟩,
  ⟨"TLR_W_STAT", 0x10100104, 4, 0x20, 1, 0x0, 0x00000000, 0x40000000⟩,
  ⟨"TLR_W_DB", 0x10100108, 4, 0x20, 1, 0x0, 0x00000000, 0x00000000⟩,
  ⟨"TLR_W_CNT", 0x1010010C, 4, 0x20, 1, 0x0, 0x00000000, 0x00000000⟩]

/-- The register map at 0x1011_0000. -/
def regMap1011 : List RegDef := [
  ⟨"QUE_Q_CFG", 0x10110000, 128, 0x20, 1, 0x0, 0x01FFFFFF, 0x00000020⟩,
  ⟨"QUE_Q_THR", 0x10110004, 128, 0x20, 1, 0x0, 0x0001FFFF, 0x00000000⟩,
  ⟨"QUE_Q_STAT", 0x10110008, 128, 0x20, 1, 0x0, 0x00000000, 0x00000000⟩,
  ⟨"QUE_Q_COUNT", 0x1011000C, 128, 0x20, 1, 0x0, 0x00000000, 0x00000000⟩,
  ⟨"QUE_Q_RD", 0x10110010, 128, 0x20, 1, 0x0, 0x00000000, 0x00000000⟩,
  ⟨"QUE_Q_WR", 0x10110014, 128, 0x20, 1, 0x0, 0x00000000, 0x00000000⟩,
  ⟨"QUE_Q_POP", 0x10110018, 128, 0x20, 1, 0x0, 0x00000000, 0x00000000⟩,
  ⟨"QUE_Q_OVF", 0x1011001C, 128, 0x20, 1, 0x0, 0x00000000, 0x00000000⟩,
  ⟨"QUE_PSEL", 0x10112000, 1, 0x0, 1, 0x0, 0x0000007F, 0x00000000⟩,
  ⟨"QUE_PGO", 0x10112004, 1, 0x0, 1, 0x0, 0x00000000, 0x00000000⟩,
  ⟨"QUE_PDATA", 0x10112040, 16, 0x4, 1, 0x0, 0xFFFFFFFF, 0x00000000⟩]

/-- The register map at 0x1012_0000. -/
def regMap1012 : List RegDef := [
  ⟨"DMA_STAT", 0x10120000, 1, 0x0, 1, 0x0, 0x00000000, 0x00000000⟩,
  ⟨"DMA_IRQ", 0x10120004, 1, 0x0, 1, 0x0, 0x00000000, 0x00000000⟩,
  ⟨"DMA_IRQEN", 0x10120008, 1, 0x0, 1, 0x0, 0xFFFFFFFF, 0x00000000⟩,
  ⟨"DMA_CH_DESC", 0x10120100, 32, 0x20, 1, 0x0, 0xFFFFFFE0, 0x00000000⟩,
  ⟨"DMA_CH_CTL", 0x10120104, 32, 0x20, 1, 0x0, 0x00000002, 0x00000000⟩,
  ⟨"DMA_CH_STAT", 0x10120108, 32, 0x20, 1, 0x0, 0x00000000, 0x00000000⟩,
  ⟨"DMA_CH_SRC", 0x1012010C, 32, 0x20, 1, 0x0, 0x00000000, 0x00000000⟩,
  ⟨"DMA_CH_DST", 0x10120110, 32, 0x20, 1, 0x0, 0x00000000, 0x00000000⟩,
  ⟨"DMA_CH_REMAIN", 0x10120114, 32, 0x20, 1, 0x0, 0x00000000, 0x00000000⟩,
  ⟨"DMA_CH_LAST", 0x10120118, 32, 0x20, 1, 0x0, 0x00000000, 0x00000000⟩,
  ⟨"DMA_CH_DB", 0x1012011C, 32, 0x20, 1, 0x0, 0x00000000, 0x00000000⟩]

/-- The register map at 0x1013_0000. -/
def regMap1013 : List RegDef := [
  ⟨"MEM_CTL", 0x10130000, 1, 0x0, 1, 0x0, 0xFFFF0003, 0x36B00003⟩,
  ⟨"MEM_ECC_CORR", 0x10130004, 1, 0x0, 1, 0x0, 0x00000000, 0x00000000⟩,
  ⟨"MEM_ECC_UNC", 0x10130008, 1, 0x0, 1, 0x0, 0x00000000, 0x00000000⟩,
  ⟨"MEM_ECC_ADDR", 0x1013000C, 1, 0x0, 1, 0x0, 0x00000000, 0x00000000⟩,
  ⟨"MEM_ECC_SRC", 0x10130010, 1, 0x0, 1, 0x0, 0x00000000, 0x00000000⟩,
  ⟨"MEM_BGT_STAT", 0x10130020, 1, 0x0, 1, 0x0, 0x00000000, 0x00000000⟩,
  ⟨"MEM_BGT_FAIL", 0x10130024, 1, 0x0, 1, 0x0, 0x00000000, 0x00000000⟩,
  ⟨"MEM_SPARE_USED", 0x10130040, 12, 0x4, 1, 0x0, 0x00000000, 0x00000000⟩,
  ⟨"MEM_DRAM", 0x10130080, 1, 0x0, 1, 0x0, 0x00000003, 0x00000000⟩]

/-- The register map at 0x1014_0000. -/
def regMap1014 : List RegDef := [
  ⟨"FAB_ERR", 0x10140000, 1, 0x0, 1, 0x0, 0x00000000, 0x00000000⟩,
  ⟨"FAB_ERR_ADDR", 0x10140004, 1, 0x0, 1, 0x0, 0x00000000, 0x00000000⟩,
  ⟨"FAB_ERR_SRC", 0x10140008, 1, 0x0, 1, 0x0, 0x00000000, 0x00000000⟩,
  ⟨"FAB_WDOG", 0x1014000C, 1, 0x0, 1, 0x0, 0x0000FFFF, 0x000003E8⟩,
  ⟨"FAB_INIT", 0x10140100, 16, 0x4, 1, 0x0, 0x00000000, 0x00000000⟩]

/-- The register map at 0x1015_0000. -/
def regMap1015 : List RegDef := [
  ⟨"PWR_CTL", 0x10150000, 1, 0x0, 1, 0x0, 0x0000007A, 0x00000030⟩,
  ⟨"PWR_TIMER", 0x10150004, 1, 0x0, 1, 0x0, 0x00FFFFFF, 0x00000000⟩,
  ⟨"PWR_RSTCAUSE", 0x10150008, 1, 0x0, 1, 0x0, 0x00000000, 0x00000001⟩,
  ⟨"PWR_SUP", 0x1015000C, 1, 0x0, 1, 0x0, 0x00000000, 0x00000000⟩,
  ⟨"PWR_ISL", 0x10150010, 1, 0x0, 1, 0x0, 0x00000000, 0x00000001⟩,
  ⟨"PWR_BOOT", 0x10150014, 1, 0x0, 1, 0x0, 0x00000000, 0x00000000⟩,
  ⟨"PWR_RET", 0x10150100, 64, 0x4, 1, 0x0, 0xFFFFFFFF, 0x00000000⟩]

/-- The register map at 0x1016_0000. -/
def regMap1016 : List RegDef := [
  ⟨"CTL_LEVEL0", 0x10160000, 1, 0x0, 1, 0x0, 0xFFFFFFFF, 0x00000000⟩,
  ⟨"CTL_LEVEL1", 0x10160004, 1, 0x0, 1, 0x0, 0xFFFFFFFF, 0x00000000⟩,
  ⟨"CTL_OD0", 0x10160008, 1, 0x0, 1, 0x0, 0xFFFFFFFF, 0x00000000⟩,
  ⟨"CTL_OD1", 0x1016000C, 1, 0x0, 1, 0x0, 0xFFFFFFFF, 0x00000000⟩,
  ⟨"CTL_ACT0", 0x10160010, 1, 0x0, 1, 0x0, 0xFFFFFFFF, 0xFFFFFFFF⟩,
  ⟨"CTL_ACT1", 0x10160014, 1, 0x0, 1, 0x0, 0xFFFFFFFF, 0xFFFFFFFF⟩,
  ⟨"CTL_PINLVL0", 0x10160018, 1, 0x0, 1, 0x0, 0x00000000, 0x00000000⟩,
  ⟨"CTL_PINLVL1", 0x1016001C, 1, 0x0, 1, 0x0, 0x00000000, 0x00000000⟩,
  ⟨"CTL_INLVL", 0x10160020, 1, 0x0, 1, 0x0, 0x00000000, 0x00000000⟩,
  ⟨"CTL_INDEB", 0x10160024, 1, 0x0, 1, 0x0, 0x000000FF, 0x0000000A⟩,
  ⟨"CTL_INCHG", 0x10160028, 1, 0x0, 1, 0x0, 0x00000000, 0x00000000⟩]

/-- The register map of a block, by the high half-word of the address. -/
def regBlock : Nat → List RegDef
  | 0x1000 => regMap1000
  | 0x1001 => regMap1001
  | 0x1002 => regMap1002
  | 0x1003 => regMap1003
  | 0x1004 => regMap1004
  | 0x1005 => regMap1005
  | 0x1006 => regMap1006
  | 0x1007 => regMap1007
  | 0x1008 => regMap1008
  | 0x1009 => regMap1009
  | 0x100A => regMap100A
  | 0x100B => regMap100B
  | 0x100C => regMap100C
  | 0x100D => regMap100D
  | 0x100E => regMap100E
  | 0x100F => regMap100F
  | 0x1010 => regMap1010
  | 0x1011 => regMap1011
  | 0x1012 => regMap1012
  | 0x1013 => regMap1013
  | 0x1014 => regMap1014
  | 0x1015 => regMap1015
  | 0x1016 => regMap1016
  | _ => []

/-- The register at an address. -/
def regDef (addr : Nat) : Option RegDef := (regBlock (addr / 0x10000)).find? (·.hits addr)

/-- The bits of a register that software writes and reads back. -/
def regMask (addr : Nat) : Nat := match regDef addr with | some r => r.rw | none => 0

/-- The reset values that differ from entry to entry of an array: BRG_CH STAGGER = n mod 16, REF_PRIO SLOT = e,
REF_SLOT7 ALIGN = 0, TBS_TB DOMAIN = n, FDC_COEF tap 0 = 0x40_0000. -/
def regResetFix (addr rst : Nat) : Nat :=
  if 0x10070000 ≤ addr ∧ addr < 0x10071000 ∧ addr % 0x40 = 0 then rst + (addr - 0x10070000) / 0x40 % 16 * 4
  else if 0x100A0040 ≤ addr ∧ addr < 0x100A0060 then rst + (addr - 0x100A0040) / 4
  else if 0x100A0100 ≤ addr ∧ addr < 0x100A0200 ∧ addr % 0x20 = 0 then
    (if addr = 0x100A01E0 then rst else rst + 0x20)
  else if 0x100B0000 ≤ addr ∧ addr < 0x100B0100 ∧ addr % 0x40 = 0 then rst + (addr - 0x100B0000) / 0x40 * 0x100
  else if 0x10052000 ≤ addr ∧ addr < 0x10054000 ∧ addr % 0x400 = 0 then 0x400000
  else rst

/-- The reset value of the register at an address; 0 where none lies. -/
def regReset (addr : Nat) : Word :=
  match regDef addr with
  | some r => Word.ofNat (regResetFix addr r.rst)
  | none => 0

end Sys2Proof.Machine
end

