-- ==== Sys2Proof/Machine/Tbl.lean ====
section
/-!
DEFINITION. Sparse tables in one canonical form: keys strictly rising, and no entry that equals what an unlisted key
reads as. Register files, arrays of units and addressed memory are such tables, so that equal contents are equal data.
-/

namespace Sys2Proof.Machine

/-- A sparse table: (key, value) pairs with strictly rising keys. -/
abbrev Tbl (α : Type) := List (Nat × α)

/-- The entry at key `k`, where one is listed. -/
def Tbl.find {α : Type} : Tbl α → Nat → Option α
  | [], _ => none
  | (j, v) :: t, k => if j = k then some v else Tbl.find t k

/-- What key `k` reads as, where an unlisted key reads as `d`. -/
def Tbl.getD {α : Type} (t : Tbl α) (k : Nat) (d : α) : α := (Tbl.find t k).getD d

/-- The table with `k` listed as `v`, at its place in the rising order. -/
def Tbl.put {α : Type} : Tbl α → Nat → α → Tbl α
  | [], k, v => [(k, v)]
  | (j, w) :: t, k, v =>
    if k < j then (k, v) :: (j, w) :: t
    else if k = j then (k, v) :: t
    else (j, w) :: Tbl.put t k v

/-- The table without entries at `k`. -/
def Tbl.del {α : Type} : Tbl α → Nat → Tbl α
  | [], _ => []
  | (j, w) :: t, k => if j = k then Tbl.del t k else (j, w) :: Tbl.del t k

/-- The table after writing `v` at `k`, where an unlisted key reads as `d`: writing `d` removes the entry. -/
def Tbl.set {α : Type} [DecidableEq α] (t : Tbl α) (k : Nat) (v d : α) : Tbl α :=
  if v = d then Tbl.del t k else Tbl.put t k v

/-- The keys rise strictly, and are above `lo`. -/
def Tbl.risesFrom {α : Type} : Nat → Tbl α → Bool
  | _, [] => true
  | lo, (k, _) :: t => decide (lo ≤ k) && Tbl.risesFrom (k + 1) t

/-- The canonical form over the constant default `d`: keys strictly rising and no entry equal to `d`. -/
def Tbl.wf {α : Type} [DecidableEq α] (t : Tbl α) (d : α) : Bool :=
  Tbl.risesFrom 0 t && t.all (fun e => decide (e.2 ≠ d))

/-- The first `n` keys' readings, in order. -/
def Tbl.toList {α : Type} (t : Tbl α) (d : α) (n : Nat) : List α :=
  (List.range n).map (fun k => Tbl.getD t k d)

end Sys2Proof.Machine
end

