-- ==== Sys2Proof/Machine/Parts.lean ====
section
/-!
DEFINITION. The parts of the block as plain data: what hardware and Zekor compute or maintain in each, and what escrow
memory holds of them. A RESUME brings escrow memory as the partner left it, so these types come before the commands.
-/

namespace Sys2Proof.Machine

open Sys2Proof

/-! ## Windows and events (R435, R442, R472) -/

/-- One entry of a window's event queue (R472); the fourth word is the window's event sequence. -/
structure EvEntry where
  code : Nat
  node : Nat
  payload : Nat
  sctrLo : Nat
  seq : Nat
  deriving DecidableEq, Repr

/-- A window's event queue of 256 entries, or one W3 subscriber's (R435, R441). -/
structure EvQueue where
  entries : List EvEntry := []
  /-- sequence of the next queued entry (R472) -/
  seq : Nat := 1
  /-- events dropped since the last 0x0909 was queued (R442) -/
  lost : Nat := 0
  deriving DecidableEq, Repr

/-! ## Tally cores (R155 to R183) -/

/-- The states of a Tally core. -/
inductive TState where
  | stopped
  | waitRel
  | dispatch
  | run
  | handler
  deriving DecidableEq, Repr

/-- One bank of a core's registers (R159); an unlisted register is 0. -/
structure TBank where
  d : Tbl Word := []
  a : Tbl (BitVec 72) := []
  p : Tbl Word := []
  m : Tbl Word := []
  /-- circular lengths, 17 bits -/
  l : Tbl Word := []
  /-- the status word (R205) -/
  st : Word := 0
  /-- passes remaining, the one in progress included; 0: no loop runs (R193, R194) -/
  loopN : Nat := 0
  loopLo : Nat := 0
  loopHi : Nat := 0
  deriving DecidableEq, Repr

/-- A result in flight (R161, R162, R195). -/
inductive TResult where
  /-- a value for a D register -/
  | d (r : Nat) (v : Word)
  /-- a value for an accumulator, from AMV -/
  | acc (r : Nat) (v : BitVec 72)
  /-- an addend for an accumulator; `clr` replaces, `lead` sets AZ and AN, `src` adds that accumulator (AADD) -/
  | addend (r : Nat) (v : Int) (clr lead : Bool) (src : Option Nat)
  /-- flags of the status word under a mask -/
  | flags (mask v : Word)
  deriving DecidableEq, Repr

/-- A result in flight with the cycle from which it is readable and the bank it retires into (R166). -/
structure TFlight where
  due : Nat
  shadow : Bool
  res : TResult
  deriving DecidableEq, Repr

/-- The delay slots of a control transfer (R163). -/
structure TDelay where
  left : Nat
  target : Nat
  rti : Bool
  deriving DecidableEq, Repr

/-- One Tally core. -/
structure TCore where
  st : TState := .stopped
  /-- the state a handler returns to -/
  back : TState := .stopped
  startReq : Bool := false
  /-- started from STOPPED; no release since (R181) -/
  fresh : Bool := false
  stopReq : Bool := false
  main : TBank := {}
  shadow : TBank := {}
  pc : Nat := 0
  iret : Nat := 0
  delay : Option TDelay := none
  flight : List TFlight := []
  /-- issue cycles since reset, the time base of `flight` -/
  cyc : Nat := 0
  /-- cycles since the release of the list in progress -/
  relCyc : Nat := 0
  taskCyc : Nat := 0
  handCyc : Nat := 0
  /-- the task running or last dispatched -/
  task : Nat := 0
  /-- the next descriptor to consider -/
  nextTask : Nat := 0
  pend : Nat := 0
  /-- a main-bank instruction must issue before the next interrupt (R165) -/
  hold : Bool := false
  done : Bool := false
  marked : Bool := false
  cause : Nat := 0
  faultIrq : Bool := false
  faultTask : Nat := 0
  faultCount : Nat := 0
  faultArmed : Bool := true
  lastCyc : Nat := 0
  dropCount : Nat := 0
  dropArmed : Bool := true
  /-- tasks of this block whose instances deliver the fixed output of R172 -/
  fixedOut : List Nat := []
  /-- tasks of this block that have ended with TEND -/
  ended : List Nat := []
  /-- tasks dispatched in this block -/
  ran : List Nat := []
  deriving DecidableEq, Repr

/-- The clusters: which marks have been sent for the block (R174). -/
structure Tally where
  cores : Tbl TCore := []
  marks : List Nat := []
  /-- LIVE instance entries whose RESET bit is set: 64 × core + entry (R173) -/
  resets : List Nat := []
  /-- those a swap has set whose block has not reached the processing stage -/
  fresh : List Nat := []
  deriving DecidableEq, Repr

/-! ## Memory, fabric, mover and queues (R514 to R540) -/

/-- ECC, background test and fabric error records. -/
structure MemCtl where
  /-- 64-bit words (byte address / 8) that hold an error: true for an uncorrectable one -/
  ecc : Tbl Bool := []
  corr : Nat := 0
  unc : Nat := 0
  corrArmed : Bool := true
  eccAddr : Word := 0
  eccSrc : Word := 0
  /-- corrected words that wait for their write-back (R516) -/
  writeback : List Nat := []
  region : Nat := 0
  sweeps : Nat := 0
  /-- a sweep has started a region since reset -/
  started : Bool := false
  /-- banks whose current region is under test -/
  testing : List Nat := []
  fail : Word := 0
  /-- regions mapped to a repair spare: bank × 4096 + region -/
  repaired : List Nat := []
  fabErr : Nat := 0
  fabArmed : Bool := true
  fabAddr : Word := 0
  fabSrc : Word := 0
  /-- the initiator of the last CAUSE 4 give-up (R526) -/
  wdogInit : Nat := 0
  deriving DecidableEq, Repr

/-- The states of a mover channel. -/
inductive DmaState where
  | idle
  | active
  | done
  | error
  deriving DecidableEq, Repr

/-- One mover channel (R527 to R532). -/
structure DmaCh where
  st : DmaState := .idle
  paused : Bool := false
  code : Nat := 0
  src : Word := 0
  dst : Word := 0
  remain : Nat := 0
  last : Word := 0
  db : Nat := 0
  cons : Nat := 0
  /-- word 3 of the descriptor in progress -/
  ctl : Word := 0
  /-- a descriptor is loaded and its words move -/
  loaded : Bool := false
  /-- the descriptor completed while paused and its LINK is still to be read (R531) -/
  linkPending : Bool := false
  aborting : Bool := false
  deriving DecidableEq, Repr

structure Mover where
  chans : Tbl DmaCh := []
  irq : Word := 0
  /-- the channel whose descriptor runs -/
  cur : Option Nat := none
  deriving DecidableEq, Repr

/-- One hardware queue (R533 to R536). -/
structure Queue where
  count : Nat := 0
  rd : Nat := 0
  wr : Nat := 0
  flags : Word := 0
  ovf : Nat := 0
  ovfArmed : Bool := true
  cfgErr : Bool := false
  deriving DecidableEq, Repr

/-! ## Custody (R417 to R430) -/

/-- The custody controller in the VAULT island. -/
structure Custody where
  own : Nat := 0
  partner : Nat := 0
  roleB : Bool := false
  paired : Bool := false
  escDrive : Bool := false
  escFail : Bool := false
  tmSeen : Bool := false
  sctrSrc : Nat := 0
  cause : Nat := 0
  fwcode : Nat := 0
  /-- SCTR at each self-restart of the last 600 s -/
  restarts : List Nat := []
  /-- a fourth give-up within 600 s: the device stays in reset (R427) -/
  held : Bool := false
  /-- CUS_WAKECNT counts since a wake: the counter of the free value that it has where `TimeBases.now` is the second -/
  wakeAt : Option (Nat × Nat) := none
  conflicts : Nat := 0
  visits : Nat := 0
  giveUps : Nat := 0
  /-- the give-up hold latches hold the CTL_OUT lines with HOLD = 1 (R420) -/
  latch : Bool := false
  /-- the 2 µs guard before showing 10 runs -/
  guard : Bool := false
  /-- this device has seen the partner leave 10 or 11 for 00 (R422) -/
  sawLeave : Bool := false
  /-- the device at 01 must yield and return to 00 after 100 ms -/
  yielding : Bool := false
  /-- the resume state is ready, so the device may show 01 (R424) -/
  ready : Bool := false
  /-- a self-restart or take-over is to be reported when the device seats -/
  selfRestarted : Bool := false
  conflictPending : Bool := false
  /-- the SCTR of the time mark on CUSTMO in this block (R423) -/
  tmSent : Option Nat := none
  /-- SCTR when the device seated (R434) -/
  seatAt : Nat := 0
  /-- SCTR when the device seated, at the last presence visit, or when its absence was told (R419) -/
  visitAt : Nat := 0
  deriving DecidableEq, Repr

/-! ## The engine: feeds, slots, strips, sections, ramps, commit, Abacus (R56 to R154) -/

/-- A gain stage (R65): FROM, TO, its ramp slot, and the gain applied at the last sample. -/
structure GainSt where
  frm : Int := 0x08000000
  tgt : Int := 0x08000000
  slot : Nat := 0
  last : Int := 0x08000000
  deriving DecidableEq, Repr

/-- A mute stage at reset: MUTE = 1, so TO is 0 (R66). -/
def GainSt.muted : GainSt := { frm := 0, tgt := 0, slot := 0, last := 0 }

/-- A ramp slot's LIVE definition (R114): RMP_CFG as taken, and S. -/
structure SlotDef where
  cfg : Word := 0
  start : Int := 0
  deriving DecidableEq, Repr

/-- Where a strip stands in the processing stage of the block. -/
inductive StripPhase where
  | waiting
  /-- the block is with the strip's Tally task -/
  | delivered
  | done
  deriving DecidableEq, Repr

/-- An input strip's own state (R64 to R76). -/
structure InStrip where
  c : Nat := 0
  trim : GainSt := {}
  fader : GainSt := {}
  mute : GainSt := .muted
  /-- samples written to the delay buffer since it was cleared (R70) -/
  fill : Nat := 0
  /-- 0x0C41 has been raised since the last commit -/
  errShown : Bool := false
  /-- the block from which AUTO does not act yet: its commit changed SEL (R76) -/
  selBlock : Option Nat := none
  phase : StripPhase := .waiting
  /-- the block given to the Tally task -/
  given : List Int := []
  dout : List Int := []
  pkPre : Nat := 0
  pkDyn : Nat := 0
  deriving DecidableEq, Repr

/-- An output strip's own state (R77 to R81). -/
structure OutStrip where
  gain : GainSt := {}
  mute : GainSt := .muted
  /-- samples written to the delay buffer since it was cleared (R79) -/
  fill : Nat := 0
  errShown : Bool := false
  phase : StripPhase := .waiting
  given : List Int := []
  out : List Int := []
  pkPre : Nat := 0
  pkPost : Nat := 0
  deriving DecidableEq, Repr

/-- The four histories of a section (R137). -/
structure SecHist where
  x1 : Int := 0
  x2 : Int := 0
  y1 : Int := 0
  y2 : Int := 0
  deriving DecidableEq, Repr

/-- The five coefficients of a section (R137). -/
structure Coefs where
  b0 : Int := 0x20000000
  b1 : Int := 0
  b2 : Int := 0
  a1 : Int := 0
  a2 : Int := 0
  deriving DecidableEq, Repr

/-- A running crossfade of a section (R148): its partner, which holds the old coefficients, and the ramp slot. -/
structure Fade where
  partner : Nat
  coefs : Coefs
  ramp : Nat
  deriving DecidableEq, Repr

/-- The section pool beyond its parameter sets. -/
structure Sections where
  hist : Tbl SecHist := []
  /-- running crossfades by section -/
  fades : Tbl Fade := []
  satmap : Tbl Word := []
  satArmed : Bool := true
  deriving DecidableEq, Repr

/-- An armed commit (R125). -/
structure Armed where
  c : Nat
  page : Bool
  cond : Bool
  deriving DecidableEq, Repr

/-- The commit unit (R125 to R127): state 0 IDLE, 1 ARMED, 2 SWAPPED, 3 REFUSED. -/
structure Commit where
  armed : Option Armed := none
  confirm : Bool := false
  cancelled : Bool := false
  state : Nat := 0
  armIgn : Bool := false
  status : Nat := 0
  reason : Nat := 0
  epoch : Nat := 0
  lastC : Nat := 0
  /-- an accepted swap whose block has not reached the processing stage (R113): its boundary -/
  swapped : Option Nat := none
  deriving DecidableEq, Repr

/-- The state of the half of a page that is not LIVE (R94). -/
inductive Half where
  | building
  | frozen
  | draining
  deriving DecidableEq, Repr

/-- The Abacus matrix and its collector. -/
structure Abacus where
  mainLive : Nat := 0
  amdLive : Nat := 0
  mainOther : Half := .building
  amdOther : Half := .building
  /-- halves the processing stage reads -/
  mainEng : Nat := 0
  amdEng : Nat := 0
  /-- a check is waiting or running (CHK_BUSY); `chkRun`: it has started -/
  chkBusy : Bool := false
  chkRun : Bool := false
  chkKind : Nat := 0
  /-- the frozen image passed its check -/
  accepted : Bool := false
  chkIgn : Bool := false
  status : Nat := 0
  reason : Nat := 0
  rod : Nat := 0
  done : Bool := false
  index : Nat := 0
  area : Nat := 0
  units : Nat := 0
  cycles : Nat := 0
  pieces : Nat := 0
  liveUnits : Nat := 0
  liveCycles : Nat := 0
  livePieces : Nat := 0
  wrDrop : Nat := 0
  wrArmed : Bool := true
  domErr : Bool := false
  /-- lowest rod with a mismatched bead in the last block, and in the block in progress -/
  domRod : Option Nat := none
  domNow : Option Nat := none
  domArmed : Bool := true
  satmap : Tbl Word := []
  satArmed : Bool := true
  /-- pieces done in this block: rod × 128 + piece -/
  doneP : List Nat := []
  /-- finished partials that wait for the collector -/
  waiting : Tbl (List Int) := []
  /-- the collector's running sums of split rods, modulo 2^72 -/
  sums : Tbl (List Int) := []
  /-- partials of a split rod the collector has added -/
  added : Tbl Nat := []
  /-- rods of this block in which an uncorrectable error was read (R111) -/
  badRods : List Nat := []
  tiers : List Nat := []
  /-- the block in the processing stage has been released (R103) -/
  released : Bool := true
  deriving DecidableEq, Repr

/-- A rate-bridge channel's own state (R51 to R53). -/
structure RBridge where
  /-- past inputs at the input rate, newest first -/
  hist : List Int := []
  done : Bool := false
  deriving DecidableEq, Repr

/-- The engine's blocks in passage. -/
structure Engine where
  /-- feeds of the block in the processing stage; an unlisted feed is zeros -/
  feeds : Tbl (List Int) := []
  /-- feeds of the block being received -/
  rx : Tbl (List Int) := []
  /-- port-slot, rate-bridge, network and cascade feeds with a valid block, of the block in process and being received -/
  okFeeds : List Nat := []
  okRx : List Nat := []
  /-- feeds judged invalid for the block in process and the one being received, among those valid by default -/
  badFeeds : List Nat := []
  /-- source slots complete in this block -/
  slots : Tbl (List Int) := []
  /-- destination blocks of the block processed, and of the block in the transmit stage -/
  outs : Tbl (List Int) := []
  tx : Tbl (List Int) := []
  /-- the block transmitted before -/
  txPrev : Tbl (List Int) := []
  ins : Tbl InStrip := []
  ous : Tbl OutStrip := []
  bridges : Tbl RBridge := []
  secs : Sections := {}
  /-- ramp definitions LIVE, those of the processing stage, and those of the last processed block (R114) -/
  ramps : Tbl SlotDef := []
  rampsEng : Tbl SlotDef := []
  rampsShown : Tbl SlotDef := []
  /-- last sample of the last processed block -/
  shownAt : Option Nat := none
  cmt : Commit := {}
  abx : Abacus := {}
  /-- the domain of each player that is not M (R486) -/
  playerDom : Tbl Nat := []
  /-- the meter table of this block is written -/
  metered : Bool := false
  /-- the sample of the block at which SCTR was served last (R42) -/
  pos : Nat := 0
  deriving DecidableEq, Repr


/-! ## Decimation chains (R207 to R223) -/

/-- One decimation chain with its three detectors. -/
structure Chain where
  /-- inputs as ±1, newest first, 4(L − 1) + 1 of them -/
  ins : List Int := []
  /-- decimator outputs, newest first -/
  xs : List Int := []
  /-- input periods since the restart -/
  age : Nat := 0
  settling : Bool := false
  /-- the PDM clock of the chain has started and WAKE has not ended (R255) -/
  wake : Bool := false
  /-- index, counted from SCTR 0, of the next input (R207) -/
  idx : Nat := 0
  /-- the input at which a FIR output has fallen due -/
  firDue : Option Nat := none
  sat : Bool := false
  pk : Nat := 0
  hold : Nat := 0
  acc : Nat := 0
  cnt : Nat := 0
  ms : Nat := 0
  seq : Nat := 0
  env : Int := 0
  deriving DecidableEq, Repr

structure Chains where
  ch : Tbl Chain := []
  /-- index of the next input that no chain has taken yet -/
  now : Nat := 0
  /-- FDC_DROP.CNT -/
  drop : Nat := 0
  deriving DecidableEq, Repr

/-! ## Bridge channels (R259 to R286) -/

/-- The states of a bridge channel (R269). -/
inductive BrState where
  | parked
  | cmUp
  | lvlUp
  | run
  | lvlDn
  | cmDn
  | trip
  | retry
  | latched
  deriving DecidableEq, Repr

/-- The steps of a retry (R280). -/
inductive RetryStep where
  | cm
  | lvl
  | dwell
  deriving DecidableEq, Repr

/-- A range change: the carrier periods waited so far, or the ramp from an FSQ with its step (R267). -/
inductive Ranging where
  | idle
  | waiting (n : Nat)
  | ramping (frm i : Nat)
  deriving DecidableEq, Repr

/-- What drives the pins in the current carrier period (R274). -/
inductive PinRow where
  | released
  | low
  | clear
  | clockErr
  | hold
  | railMute
  | pattern
  deriving DecidableEq, Repr

/-- One bridge channel. -/
structure BrCh where
  st : BrState := .parked
  step : RetryStep := .cm
  /-- common-mode ramp position i and its N (R270) -/
  i : Nat := 0
  n : Nat := 0
  w : Nat := 0
  /-- level factor and its ramp: start, position, target; position M when none runs (R271) -/
  lam : Nat := 0
  lam0 : Nat := 0
  lamI : Nat := 0
  lamM : Nat := 0
  lamTo : Nat := 0
  fsq : Nat := 0
  ranging : Ranging := .idle
  /-- quantiser errors e1 to e5 -/
  errs : List Int := []
  /-- samples in the interpolator, newest first -/
  hist : List Int := []
  /-- the carrier period that starts next, counted from period 8 X of the block's first SCTR X; none: the first after the block
  boundary (R268) -/
  per : Option Nat := none
  lastY : Int := 0
  /-- references r_P and r_T and the tone phase of the latest carrier periods, newest first -/
  refs : List (Int × Int × Nat) := []
  /-- pulse widths of the current period -/
  wA : Nat := 0
  wB : Nat := 0
  row : PinRow := .released
  /-- OC holds both pins low in this period (R274 row 3); in mode S from its tick of this period, or up to a tick of it, as the
  window of 2.604 µs goes over the period's end (R275) -/
  cut : Bool := false
  sCut : Option Nat := none
  tail : Nat := 0
  /-- the target of the mode S loop, in units of 0.9 V / 2^100 (R275) -/
  target : Int := 0
  modeS : Bool := false
  /-- carrier periods waited to return to mode T -/
  sWait : Nat := 0
  /-- the STAGGER in effect; none is the reset value, n mod 16 -/
  stagger : Option Nat := none
  /-- CLR_LATCH waits for the next carrier period -/
  clrReq : Bool := false
  /-- OCCNT.CLR and the clears of CLIP and OC_IDLE wait for the next carrier period (R273) -/
  occReq : Bool := false
  clipReq : Bool := false
  idleReq : Bool := false
  /-- OC seen in the last carrier periods, bit 0 the current one (R279) -/
  oc : Nat := 0
  ocIdle : Bool := false
  limit : Nat := 0
  trips : Nat := 0
  retries : Nat := 0
  clip : Bool := false
  clipCnt : Nat := 0
  /-- carrier periods in TRIP, in the dwell, and consecutively in RUN -/
  tripN : Nat := 0
  dwellN : Nat := 0
  runN : Nat := 0
  verdict : Nat := 0
  /-- parked by a clear until EN is written 0 and then 1 (R276) -/
  offByClear : Bool := false
  /-- a clear has been released and acts at the next carrier-period start (R276) -/
  ended : Bool := false
  /-- tone: on, phase, ramp position 0 to 384 (R293) -/
  tone : Bool := false
  tonePhase : Nat := 0
  tonePos : Nat := 0
  /-- sum of squares of the drive references of the second, and the value latched last (R313) -/
  dms : Nat := 0
  dmsLatched : Nat := 0
  /-- sum of squares of r_P since the channel's group began its slot -/
  pms : Nat := 0
  deriving DecidableEq, Repr

/-- One bank (R264 to R267, R275, R276). -/
structure Bank where
  /-- latest conversion, latest valid conversion, and whether the latest is valid -/
  rail : Nat := 0
  good : Nat := 0
  valid : Bool := false
  badRun : Nat := 0
  goodRun : Nat := 0
  mute : Bool := false
  modeS : Bool := false
  /-- carrier periods of valid rail in mode S -/
  okPer : Nat := 0
  clear : Bool := false
  /-- BRG_Bb_CTL and BRG_Bb_RAIL as they act since the bank's last carrier-period start (R273) -/
  ctl : Word := 0x1A
  window : Word := 0x0FFF0000
  deriving DecidableEq, Repr

structure Mod where
  ch : Tbl BrCh := []
  banks : Tbl Bank := []
  clkCount : Nat := 0
  clkErr : Bool := false
  clkStopped : Bool := false
  goodWins : Nat := 0
  episodes : Nat := 0
  deriving DecidableEq, Repr

/-! ## Supervision and contacts (R287 to R307) -/

/-- One group of monitor converters. -/
structure MonGroup where
  cur : Nat := 0
  /-- the channel whose retry dwell holds the mux -/
  owner : Option Nat := none
  /-- the AUDIO tick at which that dwell began (R290) -/
  ownerAt : Nat := 0
  /-- SCAN and POS in effect since the last slot start (R303) -/
  scan : Bool := false
  pos : Nat := 0
  deriving DecidableEq, Repr

/-- One channel's supervision: MON's window and Zekor's judgement. -/
structure MonCh where
  /-- the running sums SVR SIR SRR SVV VC VS IC IS TA TB -/
  sums : List Int := []
  /-- a scan window waits to be latched; its slot is lost; the sums belong to a retry dwell -/
  slotOpen : Bool := false
  lost : Bool := false
  retry : Bool := false
  /-- latched sums -/
  latched : List Int := []
  cls : Nat := 0
  valid : Bool := false
  cause : Nat := 0
  seq : Nat := 0
  /-- V outputs since the slot or dwell began, and I outputs -/
  nV : Nat := 0
  nI : Nat := 0
  /-- the channel was not in RUN at some output of the window -/
  notRun : Bool := false
  /-- the last slot was INVALID with cause 2 -/
  lastLow : Bool := false
  pms : Nat := 0
  /-- CLIPCNT has advanced in the window, and did so in the latched window -/
  clipAdv : Bool := false
  /-- the window of the channel's dwell has ended (R295) -/
  dwellDone : Bool := false
  clipped : Bool := false
  /-- SCTR at the end of the latched window -/
  endAt : Nat := 0
  /-- Zekor: reference impedances (programme, tone), GT, and LEARN's valid windows still due with their sums -/
  zrefP : Option Rat := none
  zrefT : Option Rat := none
  gt : Option Rat := none
  learnP : Nat := 0
  learnT : Nat := 0
  sumP : Rat := 0
  sumT : Rat := 0
  sumG : Rat := 0
  /-- the line's OUT or IN run: the end of its first window (R297) -/
  runAt : Option Nat := none
  lineFault : Bool := false
  /-- consecutive judged windows above, or at or below, RB_THR -/
  rbRun : Nat := 0
  outFault : Bool := false
  /-- SCTR of the last valid window, and whether 0x0105 has been raised since -/
  validAt : Nat := 0
  unmeasured : Bool := false
  judged : Nat := 0
  /-- WIN and RB_THR as SUP SET gave them; none is the default -/
  winW : Option Word := none
  thrW : Option Word := none
  /-- the last impedance and residual Zekor computed; none is infinite or not computed -/
  zLast : Option Rat := none
  eLast : Option Rat := none
  deriving DecidableEq, Repr

/-- One supervised contact input. -/
structure Sin where
  code : Nat := 0
  /-- 0 NORMAL, 1 ACTIVE, 2 SHORT, 3 OPEN -/
  state : Nat := 3
  raw : Nat := 3
  run : Nat := 0
  changes : Nat := 0
  /-- SCTR of the latest acceptance of a state, once there is one -/
  seen : Option Nat := none
  deriving DecidableEq, Repr

/-- The control lines. -/
structure CtlLines where
  /-- output halves whose LEVEL has been written since the last reset but POR; the other lines follow the latch -/
  written : Nat := 0
  latch : Word × Word := (0, 0)
  /-- the device has had a reset other than POR: lines with HOLD = 1 stay at their latches until they are written (R305) -/
  kept : Bool := false
  /-- lines on which a comparator pulse is active -/
  pulse : Nat := 0
  /-- the PTP tick at which a line's pulse ends (R358) -/
  pulseTo : Tbl Nat := []
  /-- accepted input levels, changes, and per line the run of samples that differ -/
  inLvl : Word := 0
  chg : Word := 0
  runs : Tbl Nat := []
  deriving DecidableEq, Repr

structure Mon where
  /-- the slot that last started, q of R289 -/
  slotAt : Option Nat := none
  /-- the tone amplitude in effect since the last slot start (R303) -/
  amp : Word := 0x0040C371
  groups : Tbl MonGroup := []
  ch : Tbl MonCh := []
  sin : Tbl Sin := []
  ctl : CtlLines := {}
  deriving DecidableEq, Repr



/-! ## The SAR converter and its assists (R308 to R313) -/

structure Sar where
  /-- the place in the schedule: superframe, frame and slot (R309) -/
  sup : Nat := 0
  frame : Nat := 0
  slot : Nat := 0
  /-- latest code and the count of conversions of each input -/
  codes : Tbl (Nat × Nat) := []
  /-- QACC modulo 2^48 as a signed value, QCNT, and the held copies (R311) -/
  qacc : Int := 0
  qcnt : Nat := 0
  heldHi : Nat := 0
  heldCnt : Nat := 0
  batLow : Bool := false
  thmFlt : Word := 0
  dmsSeq : Nat := 0
  /-- the second of the last DMS latch -/
  dmsAt : Option Nat := none
  deriving DecidableEq, Repr


/-! ## Audio ports and PDM (R234 to R256) -/

/-- The states of a port (R243). -/
inductive PortState where
  | off
  | waitStart
  | acquire
  | run
  | underrun
  deriving DecidableEq, Repr

/-- A port-domain sample that has been assigned: its slots after the fade, and φ of its frame, none for a repeat. -/
structure PortSample where
  n : Nat
  ok : Bool
  mask : Word
  vals : List Int
  phi : Option Int
  deriving DecidableEq, Repr

/-- One audio port. -/
structure Port where
  st : PortState := .off
  /-- the trigger of START_SRC = 1 has fired -/
  fired : Bool := false
  /-- the tick of the block boundary at which a waiting master port starts (R243) -/
  startAt : Option Nat := none
  /-- a slave frame is in progress -/
  inFrame : Bool := false
  /-- a frame start has been seen, and consecutive frames of correct length -/
  seen : Bool := false
  good : Nat := 0
  /-- frames are assigned before RUN begins, and the tick of the frame at which that began -/
  assigning : Bool := false
  asgAt : Nat := 0
  /-- next unassigned sample, and the first sample of RUN -/
  next : Nat := 0
  runAt : Nat := 0
  /-- the sample of the frame in progress; none where it has none or was discarded -/
  lastFrame : Option Nat := none
  /-- the sample before `next` was a repeat; its slots before the fade -/
  repeated : Bool := false
  lastVals : List Int := []
  /-- samples assigned and not yet taken by a block -/
  recv : List PortSample := []
  /-- a group member's frames that wait for their group frames: start and words -/
  held : List (Nat × List Int) := []
  /-- the start of the last group frame the member took -/
  took : Option Nat := none
  phi : Int := 0
  cfgErr : Bool := false
  leader : Bool := false
  slipDrop : Nat := 0
  slipRepeat : Nat := 0
  underruns : Nat := 0
  frameErr : Nat := 0
  clip : Nat := 0
  slipArmed : Bool := true
  maskLive : Word := 0xFFFFFFFF
  maskLiveTx : Word := 0xFFFFFFFF
  pend : Bool := false
  /-- AUDIO tick at which the latest mask write or the end of HOLD was granted -/
  pendAt : Nat := 0
  gen : Nat := 0
  maskFrom : Nat := 0
  tsSeq : Nat := 0
  tsBlock : Nat := 0
  tsRx : Int := 0
  tsTx : Int := 0
  /-- EN is 0, and the frame in progress is the last (R243) -/
  ending : Bool := false
  /-- the words of the last frame on DOUT; none is high-impedance -/
  dout : List (Option Int) := []
  /-- the last slot of the frame before -/
  doutPrev : Option Int := none
  deriving DecidableEq, Repr

/-- The last frame of an alignment group: its start, the sample it took or none for a drop. -/
structure GroupFrame where
  start : Nat
  sample : Option Nat
  deriving DecidableEq, Repr

structure Ports where
  port : Tbl Port := []
  grp : Tbl (Option GroupFrame) := []
  /-- the latest AUDIO tick that a command of a port has carried -/
  tick : Nat := 0
  tsqErr : Bool := false
  /-- PDM clocks that run -/
  pdmRun : Nat := 0
  stuck : Word := 0
  deriving DecidableEq, Repr


/-! ## Reference selection (R326 to R343) -/

/-- The loop's states, SOFTWARE apart (R332, R341). -/
inductive LoopState where
  | freeRun
  | pull
  | locked
  | holdover
  deriving DecidableEq, Repr

/-- One reference slot. -/
structure RefSlot where
  /-- 0 LOST, 1 PROVING, 2 QUALIFIED -/
  q : Nat := 0
  /-- consecutive events on time while LOST -/
  onTime : Nat := 0
  /-- the next measurement is the first since LOST -/
  fresh : Bool := false
  count : Nat := 0
  f : Int := 0
  m : Int := 0
  phase : Int := 0
  /-- updates at which the slot became QUALIFIED, began its dwell, and the cause for which it last left QUALIFIED (R341) -/
  qualAt : Nat := 0
  dwellAt : Nat := 0
  leftAt : Nat := 0
  outvoted : Bool := false
  deriving DecidableEq, Repr

structure RefClock where
  slot : Tbl RefSlot := []
  st : LoopState := .freeRun
  /-- SWLOOP was 1 at the last update -/
  soft : Bool := false
  active : Option Nat := none
  /-- the slot that was active last -/
  lastAct : Nat := 0
  /-- register values as the last update took them, over the reset values (R345) -/
  eff : Tbl Word := []
  /-- updates so far -/
  cnt : Nat := 0
  disagree : Bool := false
  /-- Φ_res in 1/16 AUDIO periods -/
  res : Rat := 0
  integ : Rat := 0
  freq : Int := 0
  /-- a write of REF_FREQ that waits for the next update -/
  freqNext : Option Int := none
  snap : Bool := false
  /-- consecutive updates inside 100 ns -/
  quiet : Nat := 0
  upd : Nat := 0
  /-- update after which FORCE_HOLD was written 1 -/
  forceAt : Nat := 0
  /-- FREQ of each update in PULL or LOCKED with its number, newest first (R341) -/
  hist : List (Nat × Int) := []
  deriving DecidableEq, Repr

/-! ## Time bases (R347 to R361) -/

/-- One time base: its value and increments in units of 2^-40 ns. -/
structure TimeBase where
  val : Nat := 0
  inc : Nat := 0x0411AAAA
  incf : Nat := 0xAAAB
  /-- what a slew still has to add, in 2^-24 ns -/
  slew : Int := 0
  /-- ADJ has been written since the slew began -/
  adjNew : Bool := false
  deriving DecidableEq, Repr

/-- One trigger comparator: its target in ns and its base, latched when armed. -/
structure Trigger where
  armed : Bool := false
  target : Nat := 0
  base : Nat := 0
  missed : Nat := 0
  /-- restored at a resume: it waits until the device is seated; its commit has been taken from the journal already (R426) -/
  restored : Bool := false
  folded : Bool := false
  deriving DecidableEq, Repr

/-- One capture unit: the value in 2^-40 ns. -/
structure Capture where
  valid : Bool := false
  val : Nat := 0
  ovr : Nat := 0
  /-- the event of a dropped edge has been raised since REL -/
  told : Bool := false
  deriving DecidableEq, Repr

/-- A transmit timestamp (R354): ID, base, value in 2^-40 ns. -/
structure TxStamp where
  id : Nat
  base : Nat
  val : Nat
  deriving DecidableEq, Repr

structure TxQueue where
  entries : List TxStamp := []
  overflow : Bool := false
  drop : Nat := 0
  deriving DecidableEq, Repr

structure TimeBases where
  tb : Tbl TimeBase := []
  trg : Tbl Trigger := []
  cap : Tbl Capture := []
  txq : Tbl TxQueue := []
  /-- the epoch map: records, its SCTR, TB0 in 2^-40 ns, PER -/
  epochSeq : Nat := 0
  epochSctr : Nat := 0
  epochTb : Nat := 0
  epochPer : Word := 0
  /-- TB0 values of the last 64 records in 2^-16 ns, newest first -/
  epochHist : List Nat := []
  /-- STEPPED reads 1 until so many records have been made -/
  stepped : Nat := 0
  /-- PTP ticks so far, and those at the last block-boundary tick (R329, R351) -/
  now : Nat := 0
  blkAt : Nat := 0
  deriving DecidableEq, Repr


/-! ## MACs and streams (R364 to R388) -/

/-- A stream packet handed to its MAC: the TX stream and the frame without its FCS. -/
structure TxPacket where
  stream : Nat
  bytes : List Byte
  /-- it was still queued at a boundary, and has counted in HELD (R385) -/
  held : Bool := false
  deriving DecidableEq, Repr

/-- One MAC. -/
structure Mac where
  link : Bool := false
  cfgErr : Bool := false
  /-- LPI: entered and its wake not yet over; its wake begun by a frame that can no longer be seen; the partner's (R375) -/
  lpi : Bool := false
  waking : Bool := false
  lpiRx : Bool := false
  /-- what the last PAUSE set, in bit times; 0 when the timer does not run -/
  paused : Nat := 0
  sendPause : Bool := false
  cnt : Tbl Nat := []
  nobufTold : Bool := false
  /-- collisions of the frame in front, the backoff that runs in slot times, and numbers drawn (R373) -/
  attempts : Nat := 0
  /-- the frame that has collided is a descriptor's -/
  trying : Bool := false
  backoff : Option Nat := none
  draws : Nat := 0
  ready : List TxPacket := []
  /-- the last frame sent, without its FCS -/
  sent : List Byte := []
  deriving DecidableEq, Repr

/-- One RX stream: STATE, the LINK in effect, the last RTP number, and the filled ring positions. -/
structure RxStream where
  st : Nat := 0
  cfgErr : Bool := false
  link : Nat := 0
  last : Option Nat := none
  filled : List Nat := []
  late : Nat := 0
  early : Nat := 0
  lost : Nat := 0
  reorder : Nat := 0
  bad : Nat := 0
  under : Nat := 0
  underTold : Bool := false
  deriving DecidableEq, Repr

/-- One TX stream: it runs from sample `start`, and to sample `stop` once it is disabled. -/
structure TxStream where
  on : Bool := false
  cfgErr : Bool := false
  start : Nat := 0
  stop : Option Nat := none
  /-- the samples of the packet in progress: one list of channels per sample -/
  buf : List (List Int) := []
  seq : Nat := 0
  ident : Nat := 0
  sent : Nat := 0
  held : Nat := 0
  /-- the clip counter of R54, which ch. 17 gives no register -/
  clip : Nat := 0
  deriving DecidableEq, Repr

structure Eth where
  mac : Tbl Mac := []
  rx : Tbl RxStream := []
  tx : Tbl TxStream := []
  /-- an MDIO transaction runs -/
  mdio : Bool := false
  deriving DecidableEq, Repr


/-! ## Lanes and the cascade (R389 to R416) -/

/-- One serial lane. -/
structure Lane where
  lock : Bool := false
  marker : Bool := false
  /-- a valid marker was the last one seen; markers missed or invalid in a row -/
  seen : Bool := false
  missed : Nat := 0
  /-- what came of its marker of the round in progress: a valid one, or none -/
  turn : Option Bool := none
  logical : Nat := 0
  seq : Nat := 0
  skew : Nat := 0
  sync : Nat := 0
  mark : Nat := 0
  deriving DecidableEq, Repr

/-- A message segment that waits for its acknowledgement: its SEQ and the block in which it was last sent. -/
structure Segment where
  seq : Nat
  msg : CscMsg
  sentAt : Option Nat
  deriving DecidableEq, Repr

/-- One cascade port. -/
structure CscPort where
  /-- 0 OFF, 1 TRAINING, 2 ALIGNED, 3 UP, 4 REFUSED -/
  st : Nat := 0
  reason : Nat := 0
  /-- the markers of the last whole round had equal SEQ on every lane (R394) -/
  seqOk : Bool := false
  peer : Nat := 0
  peerDepth : Nat := 0
  peerN : Nat := 0
  /-- consecutive accepted frames, those without a refusing condition, and blocks without one -/
  okRun : Nat := 0
  clearRun : Nat := 0
  missRun : Nat := 0
  /-- the block whose frame or missing frame has been counted -/
  handled : Option Nat := none
  own : Nat := 0
  peerMeas : Nat := 0
  hcrc : Nat := 0
  pcrc : Nat := 0
  poison : Nat := 0
  lost : Nat := 0
  /-- MAP and SUBDEPTH of the partner while UP, and the map shown, which the hold keeps (R407) -/
  rxMap : Nat := 0
  sub : Nat := 0
  map : Nat := 0
  /-- the frame accepted in this block, and the one of the block before, whose words act now (R401) -/
  acc : Option CascadeFrame := none
  /-- the frame of the next block, where it came early (R399) -/
  accNext : Option CascadeFrame := none
  cin : Option CascadeFrame := none
  /-- the frame sent last -/
  sent : Option CascadeFrame := none
  /-- the message channel: waiting messages, unacknowledged segments, the next to send among them, SEQ numbers -/
  out : List CscMsg := []
  win : List Segment := []
  sendIdx : Nat := 0
  txSeq : Nat := 0
  rxSeq : Nat := 0
  /-- the port's answer, result, FIRST_BAD and MISSED for the TAG in progress (R410, R411) -/
  ans : Nat := 0
  res : Nat := 0
  bad : Option Nat := none
  miss : Option Nat := none
  /-- its map was non-empty when PREPARE was forwarded -/
  expected : Bool := false
  deriving DecidableEq, Repr

/-- The tree commit of the cascade controller (R410 to R413). -/
structure TreeCommit where
  tag : Option Nat := none
  phase : Nat := 0
  target : Nat := 0
  scene : Nat := 0
  /-- the arm of PREPARE was taken -/
  mine : Bool := false
  /-- local answer: 0 none, 1 READY, 2 NOT_READY; local result: 1 SWAPPED, 2 REFUSED, 3 MISSED -/
  ans : Nat := 0
  res : Nat := 0
  /-- block in which PREPARE was received -/
  prepAt : Nat := 0
  /-- at the manager: 0x0C22 has been raised for this TAG -/
  told : Bool := false
  /-- the commit leaves this node untouched (R481) -/
  idle : Bool := false
  deriving DecidableEq, Repr

structure Cascade where
  lane : Tbl Lane := []
  port : Tbl CscPort := []
  cfgErr : Bool := false
  trconf : Bool := false
  /-- CP0 has been UP since reset (R405) -/
  cp0Up : Bool := false
  /-- event 0x0604 may be raised -/
  armed : Bool := true
  tree : TreeCommit := {}
  /-- PHASE last received from upstream -/
  phaseIn : Nat := 0
  /-- messages for this node that its firmware has not taken -/
  inbox : List CscMsg := []
  deriving DecidableEq, Repr


/-! ## Windows, ownership and the audit record (R435 to R454) -/

/-- A response that its window still owes: the request's opcode, SEQ, source and argument CRC, and the words once they are
known (R436). -/
structure RespSlot where
  op : Nat
  seq : Word
  ip : Word
  port : Nat
  crc : Word
  words : Option (List Word)
  deriving DecidableEq, Repr

/-- One teller window. -/
structure Window where
  /-- request words of W0 and W1 as one stream -/
  stream : List Word := []
  /-- request frames of W2 and W3: source address, port, words -/
  frames : List (Word × Nat × List Word) := []
  /-- responses owed, in request order, response words that wait for the host, and on W3 the source of each response among
  them -/
  owed : List RespSlot := []
  rsp : List Word := []
  rspTo : List (Word × Nat) := []
  /-- requests taken in earlier scans and not yet executed, and those taken in this scan -/
  work : List Cmd := []
  fresh : List Cmd := []
  /-- words shifted out in the last SPI transaction; the last W2 frame's bytes; the last W3 datagrams -/
  out : List Word := []
  txd : List Byte := []
  dgrams : List (Word × Nat × List Word) := []
  db : Word := 0
  reqDrop : Nat := 0
  badOp : Nat := 0
  deriving DecidableEq, Repr

/-- Ownership (R443 to R447). -/
structure Owner where
  owned : Bool := false
  win : Nat := 0
  node : Nat := 0
  ip : Word := 0
  port : Nat := 0
  maint : Bool := false
  /-- window and node of an offer -/
  offer : Option (Nat × Nat) := none
  deriving DecidableEq, Repr

/-- An audit entry (R449) and, as the model's own field, the answer given (R458). -/
structure Audit where
  kind : Nat
  source : Nat
  node : Nat
  seq : Nat
  op : Nat
  status : Nat
  reqSeq : Word
  sctr : Nat
  /-- TB0 in 2^-40 ns -/
  tb : Nat
  argCrc : Word
  ip : Word
  port : Nat
  args : List Word
  answer : Option (List Word) := none
  deriving DecidableEq, Repr

/-! ## Objects and changes (R455 to R487) -/

/-- A roll (R463, R464). -/
structure Roll where
  members : List Nat := []
  gain : Word := 0x08000000
  mute : Bool := false
  deriving DecidableEq, Repr

/-- One thing a change writes. -/
inductive Edit where
  /-- an amendment bead of a rod: source slot, TO and ramp slot -/
  | bead (rod src : Nat) (tgt : Word) (slot : Nat)
  /-- bits of a NEXT parameter -/
  | par (key : Nat) (val mask : Word)
  /-- a register that is no NEXT parameter, written as the commit lands -/
  | reg (addr : Nat) (val mask : Word)
  /-- a host value under service factors, by parameter key, and the ramp slot of the stage (R464, R320) -/
  | host (key : Nat) (val : Word) (slot : Nat)
  /-- a roll by ledger number as it becomes, and the ramp slot of the strips under it; none: it is deleted -/
  | roll (ledger : Nat) (val : Option Roll) (slot : Nat)
  /-- an EQ or high-pass value of a strip: class, unit, PARAM; the sections follow, with a crossfade on the slot -/
  | eq (cls index prm : Nat) (val : Word) (slot : Nat)
  /-- supervision of a bridge channel: PARAM 1 WIN, 2 RB_THR, 3 TONE_EN (R476) -/
  | sup (ch prm : Nat) (val : Word)
  /-- every service factor is formed again, on the slot (R320, R510) -/
  | factors (slot : Nat)
  /-- a player starts (message, REPEAT, GAP, LEVEL, ramp definition) or fades to 0 -/
  | play (player msg rep gap : Nat) (level cfg : Word)
  | stop (player : Nat) (cfg : Word)
  /-- a player starts for a plan (messages, REPEAT, GAP), or a control line takes a level -/
  | planPlay (player plan msg : Nat) (msg2 : Option Nat) (rep gap : Nat)
  | line (k : Nat) (level : Bool) (plan : Nat) (on : Bool)
  /-- a zone's beads now stand as its winner asks (R499) -/
  | settled (zone : Nat) (winner : Option Nat)
  /-- the oldest staged changes, now applied (R468) -/
  | applied (n : Nat)
  deriving DecidableEq, Repr

/-- A request that waits for its change: its journal sequence, slot, further results and NOWAIT. -/
structure Pend where
  cmd : Cmd
  jseq : Nat
  slot : Nat := 0
  extra : List Word := []
  nowait : Bool := false
  deriving DecidableEq, Repr

/-- Where a change comes from. -/
inductive ChangeSrc where
  | host
  | scene
  | alarm
  | reserve
  | compaction
  deriving DecidableEq, Repr

/-- What a change overwrote, for the case that it does not land: NEXT parameters with their marks, and the rolls, host values
and EQ values it changed as they were. -/
structure Undo where
  next : List (Nat × Word × Bool)
  rolls : List (Nat × Option Roll)
  host : List (Nat × Option Word)
  eq : List (Nat × Option Word)
  deriving DecidableEq, Repr

/-- A change pending at this node (R470). -/
structure Change where
  src : ChangeSrc
  reqs : List Pend := []
  edits : List Edit := []
  /-- C where the request gives one, or the earliest C it may take -/
  c : Option Nat := none
  least : Nat := 0
  /-- TAG of the several-node operation it is a part of -/
  tag : Option Nat := none
  /-- a scene's index and HARD flag: its image is a FULL page -/
  scene : Option (Nat × Bool) := none
  /-- 0 waits for the commit unit; 1 its image is built and checked, not armed; 2 armed; 3 its image is ready -/
  phase : Nat := 0
  /-- the C it is armed with -/
  armedC : Nat := 0
  /-- the scan in which it was taken, and whether all its requests are ASAP -/
  scan : Nat := 0
  shared : Bool := false
  undo : Option Undo := none
  /-- pages of the image are written -/
  page : Bool := false
  /-- pairs written or units skipped, for the manager, and whether the manager has been told that the image is ready -/
  count : Nat := 0
  told : Bool := false
  /-- the comparator that arms it before its instant (R503) -/
  timer : Option Nat := none
  deriving DecidableEq, Repr

/-- An operation over several nodes, at the manager (R128, R465, R482, R483). -/
structure TreeOp where
  pend : Option Pend
  tag : Nat
  /-- 0 SCENE PREPARE, 1 a commit follows -/
  kind : Nat
  scene : Option Nat
  /-- 0 the nodes build, 1 PREPARE is out, 2 the image of a lone node is armed -/
  step : Nat := 0
  /-- nodes that have not said they are ready, those that have, and of the refusals the one that R471 puts first, the lowest
  node's of equals: its node, status, reason and ARG -/
  left : List Nat
  ready : Nat := 0
  bad : Option Nat := none
  status : Nat := 0
  reason : Nat := 0
  arg : Nat := 0x3FF
  /-- C where given, and as it is -/
  atC : Option Nat := none
  c : Nat := 0
  aborted : Bool := false
  /-- this node's slot, and the sum of the nodes' counts -/
  slot : Nat := 0
  count : Nat := 0
  deriving DecidableEq, Repr

/-- A stored message: domain and length in samples. -/
structure Message where
  dom : Nat
  len : Nat
  deriving DecidableEq, Repr

/-- A message player (R486, R487): state 0 idle, 1 waiting, 2 playing, 3 gap, 4 fading. -/
structure Player where
  st : Nat := 0
  msg : Nat := 0
  msg2 : Option Nat := none
  /-- REPEAT, GAP in ms, LEVEL, first sample C, and the ramp definition of the fade -/
  rep : Nat := 0
  gap : Nat := 0
  level : Word := 0
  start : Nat := 0
  cfg : Word := 0
  /-- the fade to 0: its C and definition -/
  stopAt : Option (Nat × Word) := none
  /-- the plan that holds it -/
  plan : Option Nat := none
  deriving DecidableEq, Repr

/-- A stored scene (R481): its CRC, whether it is good, the nodes it covers, and this node's image: enabled rods with
their tier and domain, beads, parameters and the node alarm configuration (R492). -/
structure Scene where
  crc : Word
  crcOk : Bool
  nodes : List Nat
  rods : List (Nat × Nat × Nat)
  beads : List (Nat × Nat × Word)
  params : List (Nat × Word)
  paths : List (Nat × Nat)
  faultOut : Nat
  hostPri : Nat
  deriving DecidableEq, Repr

/-! ## The alarm service (R492 to R513) -/

/-- An alarm plan's state at this node. -/
structure Plan where
  /-- the eight words of R495 -/
  defn : List Word := []
  /-- its trigger is active -/
  trig : Bool := false
  /-- consecutive CTL_IN samples at the other level -/
  run : Nat := 0
  active : Bool := false
  silenced : Bool := false
  /-- REPEAT is complete -/
  done : Bool := false
  /-- block from whose boundary it is active, and the SCTR of acceptance -/
  since : Nat := 0
  acceptedAt : Nat := 0
  /-- a trigger, an ALARM TRIGGER or a cascade trigger waits for the boundary -/
  accept : Bool := false
  origin : Word := 0
  /-- the first 2 s of MSG and of MSG2 are staged at this node (R501) -/
  staged : Bool := false
  staged2 : Bool := false
  player : Option Nat := none
  sounding : Bool := false
  /-- the bound of R502 is still to be judged for the latest acceptance -/
  due : Bool := false
  /-- the next occurrence of a time trigger, in TB0 seconds, once computed; the one-shot instant that has passed -/
  nextAt : Option Nat := none
  spent : Bool := false
  /-- the scope of the SILENCE that silenced it, and the plans that were active then -/
  scope : Option (Nat × Nat) := none
  wereOn : List Nat := []
  /-- activated by a command or an instant, which has no end of its own -/
  moment : Bool := false
  /-- its control line is at the active level -/
  lineOn : Bool := false
  deriving DecidableEq, Repr

/-- A zone's state. -/
structure Zone where
  /-- the eight words of R493, and before the first ZONE_SET their defaults -/
  defn : List Word := [0x800C0000, 0, 0, 0, 0, 0x08000000, 0x000000F0, 0]
  winner : Option Nat := none
  /-- the winner has changed and no commit has landed since -/
  fresh : Bool := false
  /-- beads ducked for a plan: source slot and the TO to restore (R499) -/
  saved : List (Nat × Word) := []
  /-- sources the service put into the zone rod -/
  mine : List Nat := []
  /-- circuits that have failed, had an output-stage fault, until their return; and whether the zone is rerouted -/
  failA : Bool := false
  failB : Bool := false
  stageA : Bool := false
  stageB : Bool := false
  rerouted : Bool := false
  lost : Bool := false
  deriving DecidableEq, Repr

/-- An open fault: the event that opened it, its payload, and whether ALARM ACK named it. -/
structure FaultEntry where
  code : Nat
  payload : Nat
  acked : Bool := false
  deriving DecidableEq, Repr

structure Alarm where
  plan : Tbl Plan := []
  zone : Tbl Zone := []
  paths : List (Nat × Nat) := []
  /-- path entries in use: entry and plan -/
  pathUse : Tbl Nat := []
  faultOut : Nat := 63
  hostPri : Nat := 128
  faults : List FaultEntry := []
  /-- open faults of other nodes by event code and payload, at the manager -/
  others : Tbl (List (Nat × Nat)) := []
  /-- the relay is at its active level -/
  relay : Bool := false
  /-- a zone must be decided again at the next boundary -/
  dirty : Bool := false
  /-- scopes of SILENCE and RESET taken since the last boundary: kind, word, reset -/
  asks : List (Nat × Nat × Bool) := []
  /-- plans whose state the manager must send to the tree; the TAG of the action here, and the C it asks for -/
  share : List Nat := []
  tag : Option Nat := none
  whenC : Option Nat := none
  /-- the faults last sent to the manager -/
  told : List (Nat × Nat) := []
  /-- plans that ALARM TRIGGER requests taken in this scan name: their holds stand before any host write (R500) -/
  soon : List Nat := []
  deriving DecidableEq, Repr

/-! ## The Reserve service (R314 to R323) -/

structure Reserve where
  /-- parameters of R323 by number as set through RSV, and the voltage and charge table -/
  par : Tbl Word := []
  table : List (Word × Word) := []
  q : Rat := 0
  qacc : Int := 0
  /-- seconds at rest, and the sum of currents over them -/
  rest : Nat := 0
  /-- powers of the last 60 s, newest first, and P_s as it was last measured -/
  powers : List Rat := []
  ps : Option Rat := none
  lost : Bool := false
  /-- samples or seconds of the opposite mains condition -/
  mainsRun : Nat := 0
  lostFor : Nat := 0
  alarmFor : Nat := 0
  alarmSeen : Bool := false
  /-- 0 NORMAL, 1 CONSERVE, 2 CRITICAL -/
  st : Nat := 0
  /-- seconds for which M < CONS, M < 1.00, and the way back have held -/
  lowRun : Nat := 0
  critRun : Nat := 0
  backRun : Nat := 0
  /-- steps in force, seconds since the last change, M at it, and whether M has risen by 0.02 since -/
  steps : Nat := 0
  stepFor : Nat := 0
  stepM : Option Rat := none
  stepRose : Bool := false
  /-- for each step in force, its age in seconds, P_s before it and its recorded saving -/
  stepAges : List Nat := []
  stepPs : List Rat := []
  savings : List Rat := []
  margin : Option Rat := none
  margin2 : Option Rat := none
  /-- heatsink and stage temperature by bank, derating in dB by channel, seconds below the limits by bank -/
  hs : Tbl Rat := []
  stg : Tbl Rat := []
  derate : Tbl Nat := []
  cool : Tbl Nat := []
  limitTold : List Nat := []
  /-- a step or a ceiling waits for its commit -/
  due : Bool := false
  /-- channels that PARK has parked -/
  parked : List Nat := []
  /-- the state another node with the battery sent: state, lost, steps -/
  remote : Option (Nat × Bool × Nat) := none
  deriving DecidableEq, Repr

/-! ## Zekor -/

/-- A Graden image of a core (R180, R227): words by fabric address, and the delay each task declares in samples of its domain; none
is the output limiter's, its LOOKAHEAD parameter. -/
structure TallyImage where
  words : List (Nat × Word) := []
  delays : Tbl (Option Nat) := []
  deriving DecidableEq, Repr

structure Zekor where
  /-- Graden images of the Tally cores in main flash, by core (R180, R227) -/
  images : Tbl TallyImage := []
  /-- the node number of the node configuration in main flash (R405) -/
  nodeCfg : Nat := 0
  /-- the scene committed last, by index and the CRC of its flash image (R421) -/
  sceneRef : Option (Nat × Word) := none
  owner : Owner := {}
  windows : Tbl Window := []
  /-- requests of other nodes' windows that this node executes: of earlier scans, and of this one -/
  remote : List Cmd := []
  remoteFresh : List Cmd := []
  /-- every roll of the tree, by ledger number -/
  rolls : Tbl Roll := []
  /-- host values under service factors, by parameter key, and as they were when LIVE last swapped -/
  hostVal : Tbl Word := []
  hostLive : Tbl Word := []
  /-- EQ bands and high-pass: by class, unit and PARAM -/
  eqBands : Tbl Word := []
  /-- rolls and EQ bands as they were when LIVE last swapped -/
  rollLive : Tbl Roll := []
  eqLive : Tbl Word := []
  staged : List Cmd := []
  change : Option Change := none
  /-- a host change that an alarm action has put aside (R470) -/
  aside : Option Change := none
  /-- a compaction is due (R133) -/
  compact : Bool := false
  /-- the prepared scene -/
  prepared : Option Nat := none
  /-- at the manager, what each node has prepared: scene, status, reason, TAG -/
  sceneAt : Tbl (Nat × Nat × Nat × Nat) := []
  /-- parts of several-node operations by TAG that wait, and the manager's operation in progress -/
  parts : List (Nat × Cmd) := []
  tree : Option TreeOp := none
  tagNext : Nat := 1
  players : Tbl Player := []
  messages : Tbl Message := []
  scenes : Tbl Scene := []
  scans : Nat := 0
  alarm : Alarm := {}
  rsv : Reserve := {}
  /-- SYS ROLLBACK_HOLD, the maintenance pin, and below registers and NEXT parameters that REG WRITE changed: address or key,
  value before, value written (R491) -/
  rollHold : Bool := false
  /-- RESTART or GIVEUP has been taken: the device gives up with this FWCODE once it has answered -/
  quit : Option Nat := none
  /-- the map rows of R331 where CLK MAP_SET has replaced them -/
  gradeMap : Option (List Word) := none
  maintPin : Bool := false
  maintRegs : List (Nat × Word × Word) := []
  maintNext : List (Nat × Word × Word) := []
  /-- likewise bytes of Abacus pages, comparators, and the commit unit where it armed -/
  maintMem : List (Nat × Byte × Byte) := []
  maintTrg : List (Nat × Trigger × Trigger) := []
  maintCmt : Option (Commit × Commit) := none
  /-- the scan in which a CLAIM was last decided (R444) -/
  claimScan : Option Nat := none
  /-- the TAG of a SCENE COMMIT that does not cover this node: its PREPARE arms nothing here (R481) -/
  idleTag : Option Nat := none
  /-- a scene commit that was answered while a node was out of reach: its TAG and scene, for a MISSED that comes later (R413) -/
  missed : Option (Nat × Nat) := none
  deriving DecidableEq, Repr

/-! ## Escrow (R421) -/

structure Heartbeat where
  sctr : Nat
  tb : Nat
  per : Word
  seq : Nat
  deriving DecidableEq, Repr

/-- A give-up seal: CAUSE and FWCODE, SCTR and TB0 of the last boundary, and each channel's state and w. -/
structure Seal where
  cause : Nat
  fwcode : Nat
  sctr : Nat
  tb : Nat
  bridges : List (Nat × BrState × Nat)
  deriving DecidableEq, Repr

/-- The state that the newest checkpoint and the journal after it determine. -/
structure Snapshot where
  live : Tbl Word
  next : Tbl Word
  marks : List Nat
  regs : Tbl Word
  pages : Tbl Byte
  ramps : Tbl SlotDef
  /-- the gain stages of the strips (R426) -/
  ins : Tbl InStrip
  ous : Tbl OutStrip
  mainLive : Nat
  amdLive : Nat
  /-- the kind of the image checked last, and whether it passed -/
  chkKind : Nat
  accepted : Bool
  cmt : Commit
  trg : Tbl Trigger
  tree : TreeCommit
  zk : Zekor
  deriving DecidableEq, Repr

/-- A checkpoint slot (R421), sealed: the journal sequence number it covers, and the scene it refers to, by index and the CRC of
its flash image. -/
structure Checkpoint where
  seq : Nat
  scene : Option (Nat × Word)
  /-- its CRC is good -/
  good : Bool := true
  deriving DecidableEq, Repr

/-- Escrow memory (R421). -/
structure Escrow where
  /-- the superblock: format version, pair identity, and the sizes of a checkpoint slot and of the journal ring in bytes -/
  format : Nat := 1
  pair : Nat := 0
  ckpt : Nat := 0x00100000
  ring : Nat := 0x00800000
  heart : Tbl Heartbeat := []
  hbSeq : Nat := 0
  sealA : Option Seal := none
  sealB : Option Seal := none
  /-- checkpoint slots 0 and 1 -/
  slots : Tbl Checkpoint := []
  /-- SCTR at the last sealing -/
  sealAt : Nat := 0
  /-- what the newest valid checkpoint and the journal after it, up to its last good entry, determine -/
  image : Option Snapshot := none
  journal : List Audit := []
  nextSeq : Nat := 0
  /-- entries below this sequence are covered by a checkpoint -/
  covered : Nat := 0
  /-- the sequence numbers of entries that fail their CRC -/
  torn : List Nat := []
  deriving DecidableEq, Repr

/-! ## Power and boot (R541 to R557, R432 to R434) -/

/-- Where the power sequence stands. -/
inductive PowerPhase where
  /-- SUPEN is high and the supplies rise -/
  | rising
  /-- SUPEN is low for 1 s after a failed rise -/
  | retry
  /-- reset is held: RESET_n is low, or a held device -/
  | held
  /-- reset is released -/
  | awake
  /-- Vault is being entered -/
  | entering
  | vault
  /-- VDD_VAULT is absent -/
  | off
  deriving DecidableEq, Repr

structure Power where
  phase : PowerPhase := .rising
  good : Nat := 0
  trip : Nat := 0
  err : Bool := false
  /-- PWR_RSTCAUSE bits 3 to 0, and WAKESRC -/
  cause : Nat := 1
  wakeSrc : Nat := 0
  /-- an enabled wake edge seen during steps 2 to 4 of Vault entry -/
  wakeSeen : Option Nat := none
  resetLow : Bool := false
  straps : Word := 0
  step : Nat := 0
  resume : Bool := false
  stFail : Nat := 0
  /-- the engine of this boot runs the resume self-test -/
  taking : Bool := false
  /-- what this boot has received for its engine start -/
  start : TakeSignals := {}
  /-- the boot follows a POR: this is a power-up (R422) -/
  cold : Bool := true
  /-- anti-rollback counter, and the running image's index, slot, source and failures -/
  counter : Nat := 0
  index : Nat := 0
  slotB : Bool := false
  download : Bool := false
  failA : Nat := 0
  failB : Nat := 0
  /-- the download in progress: words received, 0 receiving, 1 accepted, 2 rejected -/
  dlWords : List Word := []
  dlState : Nat := 0
  dlOut : Word := 0
  deriving DecidableEq, Repr

end Sys2Proof.Machine
end

