-- ==== Sys2Proof/Syntax.lean ====
section
/-!
DEFINITION. The commands of the block: one constructor per row of the spec's command table, in the table's order,
with the operands the row's rule gives it. A Tally instruction row carries the core that issues it.
-/

namespace Sys2Proof

/-- The commands of the DXP-4810, one constructor per row of the command table. -/
inductive Instr where
  /-- R11: At every SCTR multiple of 24 the receive, process and transmit stages advance by one block. -/
  | blockBoundary (dt : Nat)
  /-- R14: A strip or rod is processed once every input it reads for the block is complete. -/
  | stripProcess (u : StripUnit)
  /-- R102: A bead lane finishes a piece and either narrows an unsplit rod or passes partial sums to the collector. -/
  | lanePieceDone (rod : Fin 4096) (piece : Nat)
  /-- R102: A lane's partials reach the collector in its slot, and the rod is narrowed when its last partial arrives. -/
  | collectorPartial (rod : Fin 4096) (piece : Nat)
  /-- R101: A tier completes 128 lane cycles after its greatest lane clock, and the next tier starts. -/
  | tierComplete (tier : Fin 4)
  /-- R103: With all five marks and tier 3 complete, the collector releases the block to the transmit stage. -/
  | collectorRelease
  /-- R19: A posted write to a register that has no row of its own takes effect in its island. -/
  | registerWrite (init : Init) (addr val : Word)
  /-- R42: A read of SYS_SCTR_LO returns the low SCTR word and copies the high word into the initiator's holding register. -/
  | sctrLoRead (init : Init) (pos : Fin 24)
  /-- R122: A write to a NEXT-set field is stamped with the epoch and marked, and the NEXT sets are rechecked. -/
  | nextWrite (init : Init) (addr val : Word)
  /-- R79: A write of ODLY_EN is taken or ignored according to MEM_DRAM.SIZE and the strips' DELAY. -/
  | odlyEnWrite (init : Init) (val : Word)
  /-- R94: A fabric write to an Abacus half is accepted while BUILDING and dropped otherwise. -/
  | pageWrite (init : Init) (addr val : Word)
  /-- R94: ABX_WRDROP.CLR clears the dropped-write count and re-arms event 0x0C13. -/
  | wrdropClr
  /-- R105: ABX_COMMIT.CHECK freezes the BUILDING halves named by KIND, or is ignored and sets CHK_IGN. -/
  | check (kind : PageKind)
  /-- R105: A check that waited for a DRAINING half starts once that half becomes BUILDING. -/
  | checkStart
  /-- R106: The checker ends, reports its sums, and accepts the image or returns the halves to BUILDING. -/
  | checkDone
  /-- R107: ABX_COMMIT.ABORT stops a check or releases an accepted image. -/
  | abort
  /-- R125: An ARM of RMP_CMT_CTL arms the commit unit, or is refused as late or ignored while armed. -/
  | commitArm (ctl : Word)
  /-- R127: A CANCEL granted before the resolution withdraws the armed commit. -/
  | cancel
  /-- R127: A CONFIRM granted before the resolution confirms a conditional commit. -/
  | confirm
  /-- R126: At boundary B the armed commit is aborted, timed out, refused or accepted with a swap. -/
  | commitResolve
  /-- R133: Zekor builds and commits a compacted FULL page when a compaction threshold is passed. -/
  | compaction
  /-- R129: A node that cannot tell within 8 blocks of PREPARE answers NOT_READY and cancels its arm. -/
  | answerTimeout
  /-- R411: Zekor writes the local answer to CSC_CMT_ANS, and it is combined with the subtree answers. -/
  | commitAnswerWrite (val : Word)
  /-- R412: CSC_CMT_ANS.ABORT makes the manager send ABORT now. -/
  | commitAnsAbort
  /-- R130: In block b-D-1 the manager treats missing answers as a timeout and sends ABORT. -/
  | treeCommitDeadline
  /-- R171: Once a task's inputs are delivered and 12 cycles are spent, its registers are written and it starts at ENTRY. -/
  | taskDispatch (core : Fin 64) (wait : Nat)
  /-- R172: A task runs WCYC cycles without TEND and faults with cause 1. -/
  | fenceExpiry (core : Fin 64)
  /-- R174: 32 cycles after all 16 cores of a cluster are done, the cluster sends its completion mark. -/
  | clusterMark (cluster : Fin 4)
  /-- R164: A write of TLY_DBELL RING sets interrupt source 0 pending. -/
  | doorbellRing (core : Fin 64)
  /-- R164: The task cycle count reaches TLY_MARK and sets interrupt source 3 pending. -/
  | cycleMark (core : Fin 64)
  /-- R164: A pending enabled source is taken at an instruction boundary, and the core switches to the shadow bank. -/
  | interruptEntry (core : Fin 64)
  /-- R167: A handler runs TLY_IRQMAX cycles without RTI, is forced out, and IEN is cleared. -/
  | handlerForcedExit (core : Fin 64)
  /-- R181: TLY_CTL START starts the core at the next release. -/
  | start (core : Fin 64)
  /-- R181: TLY_CTL STOP stops the core at the next release. -/
  | stop (core : Fin 64)
  /-- R172: TLY_FAULT CLR clears the fault record and re-arms event 0x0C50. -/
  | tallyFaultClr (core : Fin 64)
  /-- R183: TLY_DROP CLR clears the drop count and re-arms event 0x0C53. -/
  | tallyDropClr (core : Fin 64)
  /-- R180: A fabric write to a core's program space or descriptors is taken while STOPPED and dropped otherwise. -/
  | tallyImageWrite (init : Init) (addr val : Word)
  /-- R186: No operation. -/
  | nop (core : Fin 64)
  /-- R188: Adds two D registers and sets Z N C V. -/
  | add (core : Fin 64) (rd rs rt : BitVec 5)
  /-- R188: Subtracts two D registers and sets Z N C V. -/
  | sub (core : Fin 64) (rd rs rt : BitVec 5)
  /-- R188: Bitwise AND of two D registers. -/
  | and (core : Fin 64) (rd rs rt : BitVec 5)
  /-- R188: Bitwise OR of two D registers. -/
  | or (core : Fin 64) (rd rs rt : BitVec 5)
  /-- R188: Bitwise XOR of two D registers. -/
  | xor (core : Fin 64) (rd rs rt : BitVec 5)
  /-- R188: Shifts left by a register count. -/
  | shl (core : Fin 64) (rd rs rt : BitVec 5)
  /-- R188: Shifts right logically by a register count. -/
  | shr (core : Fin 64) (rd rs rt : BitVec 5)
  /-- R188: Shifts right arithmetically by a register count. -/
  | asr (core : Fin 64) (rd rs rt : BitVec 5)
  /-- R188: Signed minimum of two D registers. -/
  | min (core : Fin 64) (rd rs rt : BitVec 5)
  /-- R188: Signed maximum of two D registers. -/
  | max (core : Fin 64) (rd rs rt : BitVec 5)
  /-- R188: Saturating add. -/
  | adds (core : Fin 64) (rd rs rt : BitVec 5)
  /-- R188: Saturating subtract. -/
  | subs (core : Fin 64) (rd rs rt : BitVec 5)
  /-- R188: Compares two D registers and sets the flags. -/
  | cmp (core : Fin 64) (rs rt : BitVec 5)
  /-- R188: Saturating absolute value. -/
  | abs (core : Fin 64) (rd rs : BitVec 5)
  /-- R188: Compares a D register with a signed immediate. -/
  | cmpi (core : Fin 64) (rs : BitVec 5) (imm : BitVec 16)
  /-- R188: Adds a signed immediate. -/
  | addi (core : Fin 64) (rd rs : BitVec 5) (imm : BitVec 16)
  /-- R188: ANDs a zero-extended immediate. -/
  | andi (core : Fin 64) (rd rs : BitVec 5) (imm : BitVec 16)
  /-- R188: ORs a zero-extended immediate. -/
  | ori (core : Fin 64) (rd rs : BitVec 5) (imm : BitVec 16)
  /-- R188: Writes the immediate times 2^16. -/
  | lui (core : Fin 64) (rd : BitVec 5) (imm : BitVec 16)
  /-- R188: Shifts left by an immediate. -/
  | shli (core : Fin 64) (rd rs : BitVec 5) (sh : BitVec 5)
  /-- R188: Shifts right logically by an immediate. -/
  | shri (core : Fin 64) (rd rs : BitVec 5) (sh : BitVec 5)
  /-- R188: Shifts right arithmetically by an immediate. -/
  | asri (core : Fin 64) (rd rs : BitVec 5) (sh : BitVec 5)
  /-- R188: Writes the sign-extended immediate. -/
  | movi (core : Fin 64) (rd : BitVec 5) (imm : BitVec 16)
  /-- R189: Loads a word through [Pi]+ and post-modifies the pointer. -/
  | ldPost (core : Fin 64) (rd : BitVec 5) (p : BitVec 3)
  /-- R189: Loads a word through [Pi + off]. -/
  | ldOffset (core : Fin 64) (rd : BitVec 5) (p : BitVec 3) (off : BitVec 16)
  /-- R189: Stores a word through [Pi]+. -/
  | stPost (core : Fin 64) (rs : BitVec 5) (p : BitVec 3)
  /-- R189: Stores a word through [Pi + off]. -/
  | stOffset (core : Fin 64) (rs : BitVec 5) (p : BitVec 3) (off : BitVec 16)
  /-- R189: Loads four words through [Pi]+. -/
  | ldq (core : Fin 64) (rq : BitVec 5) (p : BitVec 3)
  /-- R189: Stores four words through [Pi]+. -/
  | stq (core : Fin 64) (rq : BitVec 5) (p : BitVec 3)
  /-- R191: Writes a pointer, modifier or circular length. -/
  | wrp (core : Fin 64) (kind : BitVec 2) (p : BitVec 3) (rs : BitVec 5)
  /-- R191: Reads a pointer, modifier or circular length. -/
  | rdp (core : Fin 64) (rd : BitVec 5) (kind : BitVec 2) (p : BitVec 3)
  /-- R191: Updates a pointer by an immediate under the circular rule. -/
  | addp (core : Fin 64) (p : BitVec 3) (imm : BitVec 16)
  /-- R205: Reads the status word, loop count or task cycle count. -/
  | rds (core : Fin 64) (rd : BitVec 5) (sel : BitVec 2)
  /-- R205: Writes every field of the status word. -/
  | wrs (core : Fin 64) (rs : BitVec 5)
  /-- R196: Adds a product to an accumulator. -/
  | mac (core : Fin 64) (aa : BitVec 3) (dx dy : BitVec 5)
  /-- R196: Subtracts a product from an accumulator. -/
  | msu (core : Fin 64) (aa : BitVec 3) (dx dy : BitVec 5)
  /-- R196: Replaces an accumulator with a product. -/
  | mpy (core : Fin 64) (aa : BitVec 3) (dx dy : BitVec 5)
  /-- R196: Replaces an accumulator with a negated product. -/
  | mpyn (core : Fin 64) (aa : BitVec 3) (dx dy : BitVec 5)
  /-- R197: Forms four products into four accumulators in one cycle. -/
  | qmac (core : Fin 64) (aa : BitVec 3) (dx dy : BitVec 5) (bc clr neg : Bool)
  /-- R198: Moves a shifted D register into an accumulator, or clears it. -/
  | amv (core : Fin 64) (aa : BitVec 3) (dx : BitVec 5) (clr : Bool) (sh : BitVec 6)
  /-- R198: Adds one accumulator into another. -/
  | aadd (core : Fin 64) (aa ab : BitVec 3)
  /-- R200: Extracts a rounded accumulator value by an immediate shift. -/
  | ext (core : Fin 64) (rd : BitVec 5) (aa : BitVec 3) (sh : BitVec 6) (sat : Bool)
  /-- R200: Extracts a rounded accumulator value by a register shift. -/
  | extv (core : Fin 64) (rd : BitVec 5) (aa : BitVec 3) (dy : BitVec 5) (sat : Bool)
  /-- R204: Performs one filter tap together with a delay-line move. -/
  | tapmv (core : Fin 64) (aa : BitVec 3) (dn : BitVec 5) (neg : Bool)
  /-- R201: Returns the redundant sign bits of a D register or an accumulator. -/
  | expx (core : Fin 64) (rd rs : BitVec 5) (x : Bool)
  /-- R202: Normalises a D register and returns its exponent. -/
  | norm (core : Fin 64) (rd rs re : BitVec 5)
  /-- R203: Takes the minimum block exponent over four words. -/
  | bexp (core : Fin 64) (rd rq : BitVec 5)
  /-- R192: Conditional branch with two delay slots. -/
  | b (core : Fin 64) (cond : BitVec 4) (target : BitVec 13)
  /-- R192: Calls a target and writes the return address into D31. -/
  | call (core : Fin 64) (target : BitVec 13)
  /-- R192: Returns to D31. -/
  | ret (core : Fin 64)
  /-- R193: Repeats the following LEN instructions n times. -/
  | rep (core : Fin 64) (fromReg : Bool) (len : BitVec 7) (count : BitVec 16)
  /-- R165: Returns from an interrupt handler to the main bank. -/
  | rti (core : Fin 64)
  /-- R171: Ends the task once every result in flight has retired. -/
  | tend (core : Fin 64)
  /-- R206: Pushes four D registers as one entry into a hardware queue. -/
  | qput (core : Fin 64) (rq : BitVec 5) (queue : BitVec 7)
  /-- R186: An undefined word does not issue and faults the task with cause 4. -/
  | undefinedInstruction (core : Fin 64) (word : Word)
  /-- R208: Every L inputs the native decimator emits a scaled output and the detectors update. -/
  | decimatorOutput (c : Fin 48) (bits : List Int)
  /-- R212: Every L·F inputs the compatibility FIR emits an output. -/
  | firOutput (c : Fin 48)
  /-- R221: At the end of an RMS window the mean square is written and FDC_MSSEQ advances. -/
  | rmsWindowEnd (c : Fin 48)
  /-- R217: A configuration change or mux switch clears a chain, resets its detectors and sets SETTLING. -/
  | chainRestart (c : Fin 48)
  /-- R217: The first output whose impulse response lies after the restart ends SETTLING. -/
  | settlingEnd (c : Fin 48)
  /-- R220: A write of PK_CLR clears the peak and its hold count. -/
  | pkClr (c : Fin 48)
  /-- R221: A write to WIN restarts the RMS windows from the next output. -/
  | rmsWinWrite (c : Fin 48) (val : Word)
  /-- R214: A coefficient write is taken, or dropped while an enabled chain uses the set. -/
  | fdcCoefWrite (set : Fin 8) (k : Fin 192) (val : Word)
  /-- R214: FDC_DROP CLR clears the count of dropped coefficient writes. -/
  | fdcDropClr
  /-- R243: A write of EN = 1 moves a port to WAITSTART, or is refused with CFGERR. -/
  | portEnable (p : Fin 16)
  /-- R243: A write of EN = 0 turns the port OFF at the end of the current frame. -/
  | portDisable (p : Fin 16)
  /-- R243: A port leaves WAITSTART at its boundary or trigger, for RUN or ACQUIRE. -/
  | portStart (p : Fin 16) (tick : Nat)
  /-- R238: A master port starts a frame on the AUDIO tick of its sample. -/
  | masterFrameStart (p : Fin 16) (n : Nat) (words : List Int)
  /-- R240: A slave port sees a frame start and assigns it, drops it, or acquires on it. -/
  | slaveFrameStart (p : Fin 16) (tick : Nat) (words : List Int)
  /-- R240: A sample's tick passes with no frame assigned, so the sample repeats or the port underruns. -/
  | slipRepeat (p : Fin 16)
  /-- R242: A frame shows an incorrect length and puts the port into UNDERRUN or back into ACQUIRE. -/
  | incorrectFrameLength (p : Fin 16)
  /-- R250: A write to a staged mask sets PEND. -/
  | maskWrite (p : Fin 16) (tx : Bool) (val : Word) (tick : Nat)
  /-- R240: APT_P CLRCNT clears every port counter and re-arms event 0x0B01. -/
  | clrcnt (p : Fin 16)
  /-- R255: A PDM clock starts and its chains read SETTLING for WAKE milliseconds. -/
  | pdmClockStart (c : Fin 4)
  /-- R255: The microphone wake time expires and the chains restart. -/
  | pdmWakeEnd (c : Fin 4)
  /-- R256: A PDM channel captures 4,096 equal bits and is marked stuck. -/
  | pdmStuck (ch : Fin 16)
  /-- R272: At each carrier period start a channel forms its drive, quantises it and takes its state transitions. -/
  | carrierPeriodStart (ch : Fin 64)
  /-- R264: A clear of CLIP also clears CLIPCNT and re-arms event 0x020A. -/
  | clipClear (ch : Fin 64)
  /-- R272: A write of EN = 1 starts the channel's ramp up. -/
  | bridgeEnable (ch : Fin 64)
  /-- R272: A write of EN = 0 ramps the channel down or parks it. -/
  | bridgeDisable (ch : Fin 64)
  /-- R267: A write that changes FS_CODE starts a wait for a crossing and a ramp of FSQ. -/
  | rangeChange (ch : Fin 64) (code : BitVec 12)
  /-- R268: A write of STAGGER is applied or held until the channel parks. -/
  | staggerWrite (ch : Fin 64) (val : BitVec 4)
  /-- R272: CLR_LATCH moves a LATCHED channel into a retry. -/
  | clrLatch (ch : Fin 64)
  /-- R280: Zekor writes a retry verdict, which is taken only during the dwell. -/
  | verdict (ch : Fin 64) (val : BitVec 2)
  /-- R278: OC is seen on two consecutive samples, the pins go low and the trip rule is applied. -/
  | ocDetect (ch : Fin 64) (tick : Fin 256)
  /-- R272: After one second in TRIP a channel with RETRY_EN enters RETRY. -/
  | tripTimerExpiry (ch : Fin 64)
  /-- R280: At the end of the dwell the retry passes, or fails into TRIP or LATCHED. -/
  | retryDwellEnd (ch : Fin 64)
  /-- R279: After ten seconds in RUN, RETRIES returns to 0. -/
  | retriesReset (ch : Fin 64)
  /-- R276: BCLR reads low on two samples and the bank's channels output CLEAR_CODE. -/
  | bclrActive (bank : Fin 8)
  /-- R276: BCLR is released and the channels resume or park according to CLRRES. -/
  | bclrRelease (bank : Fin 8)
  /-- R277: A window of 1,024 XO periods ends, its edge-clock count is judged, and a clock error begins or ends. -/
  | clockErrorWindow (count : Nat)
  /-- R277: The backup oscillator sees no edge-clock edge for two periods and flags a clock error. -/
  | edgeClockStopped
  /-- R285: OCCNT CLR clears LIMIT and TRIPS. -/
  | occntClr (ch : Fin 64)
  /-- R289: At each 250 ms slot the scanning groups switch mux and the tone is decided. -/
  | scanSlotStart
  /-- R294: At a window's end MON latches the sums, classifies the window and advances SEQ. -/
  | windowLatch (ch : Fin 64)
  /-- R296: Zekor computes impedance and residual from a latched window and updates runs and verdicts. -/
  | supEvaluate (ch : Fin 64)
  /-- R301: A contact conversion each millisecond updates the raw state and the debounce. -/
  | sinSample (k : Fin 16) (code : BitVec 12)
  /-- R301: A threshold write applies at the next sample and restarts the debounce. -/
  | sinThresholdWrite (second : Bool) (val : Word)
  /-- R305: A write of LEVEL drives the control output and ends the latch's hold of that line. -/
  | ctlLevelWrite (half : Fin 2) (val : Word)
  /-- R306: A control input is sampled every microsecond and a new level is accepted after DEB samples. -/
  | ctlInSample (line : Fin 32) (level : Bool)
  /-- R358: WIDTH microseconds after a comparator pulse the line returns to LEVEL. -/
  | ctlPulseEnd (e : PulseEnd)
  /-- R309: The SAR makes one conversion per 1 µs slot on its fixed schedule. -/
  | sarSlot (code : BitVec 12)
  /-- R311: A read of RSV_QACC_LO latches QACC high bits and QCNT. -/
  | qaccLoRead
  /-- R324: QCLR clears QACC and QCNT. -/
  | qclr
  /-- R313: At each SCTR multiple of 48,000 the drive mean squares are latched and RSV_DMSSEQ advances. -/
  | dmsLatch
  /-- R319: Each second Zekor updates charge, models and margin, and evaluates the Reserve state and steps. -/
  | reserveSecond
  /-- R317: Every 100 ms Zekor samples the mains condition and counts toward loss or restore. -/
  | mainsSample
  /-- R329: A slot's reference event is timestamped and its phase updated. -/
  | referenceEvent (slot : Fin 8) (e : RefEdge)
  /-- R330: No event arrives within 2E, or another loss condition holds, and the slot becomes LOST. -/
  | slotLost (slot : Fin 8)
  /-- R333: Once per second each slot measures its raw offset, filters it and updates its qualification. -/
  | slotMeasurement (slot : Fin 8) (m : Int)
  /-- R328: No XO_IN edge arrives for 1 µs, and the device gives up. -/
  | xoFail
  /-- R340: SNAP sets Φ_res to 0 at the next update, or is ignored once the engine has started. -/
  | snap
  /-- R343: A write of REF_FREQ sets FREQ at the next update while SWLOOP = 1. -/
  | refFreqWrite (val : Word)
  /-- R349: SET loads SET_SEC and SET_NS into the time base at the next tick. -/
  | tbsSet (n : Fin 4) (dt : Nat)
  /-- R349: STEP adds ADJ to the time base at once. -/
  | tbsStep (n : Fin 4) (dt : Nat)
  /-- R349: SLEW adds ADJ to the time base gradually. -/
  | tbsSlew (n : Fin 4) (dt : Nat)
  /-- R348: A write of INC applies from the next tick together with the last INCF. -/
  | incWrite (n : Fin 4) (val : Word) (dt : Nat)
  /-- R350: A read of TBS_TB_NS latches the seconds and fraction of that tick. -/
  | tbNsRead (init : Init) (n : Fin 4) (dt : Nat)
  /-- R357: ARM latches a comparator's target and base and arms it. -/
  | triggerArm (n : Fin 16) (dt : Nat)
  /-- R357: DISARM returns a comparator to IDLE. -/
  | triggerDisarm (n : Fin 16)
  /-- R358: A comparator's base reaches its target, and the fire is delivered to its receivers. -/
  | triggerFire (n : Fin 16) (dt : Nat)
  /-- R361: A watched edge is timestamped, or dropped while VALID = 1. -/
  | captureEdge (src : Fin 33) (rising : Bool) (dt : Nat)
  /-- R361: REL clears VALID. -/
  | rel (n : Fin 16)
  /-- R354: POP removes the oldest transmit-timestamp entry. -/
  | pop (m : Fin 4)
  /-- R365: A received frame is classified, timestamped and delivered, consumed by a stream, or dropped. -/
  | frameReceive (m : Fin 4) (frame : EthFrame)
  /-- R369: At a frame boundary the MAC sends a PAUSE, a stream packet or a descriptor frame, and pushes its completion. -/
  | frameTransmit (m : Fin 4)
  /-- R373: A half-duplex collision jams, and the frame backs off or is abandoned. -/
  | collision (m : Fin 4) (late : Bool)
  /-- R373: The backoff wait ends and the frame is attempted again. -/
  | backoffExpiry (m : Fin 4)
  /-- R374: The pause timer expires and transmission resumes. -/
  | pauseTimerExpiry (m : Fin 4)
  /-- R374: SEND sends one PAUSE at the next frame boundary. -/
  | send (m : Fin 4)
  /-- R375: After IDLE µs with nothing to send the MAC signals LPI. -/
  | lpiEnter (m : Fin 4)
  /-- R375: The wake time TW after LPI ends, and the held frame starts. -/
  | lpiWakeEnd (m : Fin 4)
  /-- R388: LINK becomes 1. -/
  | macLinkUp (m : Fin 4)
  /-- R388: LINK becomes 0. -/
  | macLinkDown (m : Fin 4)
  /-- R387: GO starts a clause-22 MDIO transaction. -/
  | mdioGo
  /-- R387: The MDIO transaction ends and GO clears. -/
  | mdioDone (data : BitVec 16)
  /-- R387: The counter CLR clears all MAC counters and re-arms event 0x0503. -/
  | macCounterClr (m : Fin 4)
  /-- R377: Enabling an RX stream is accepted into WAIT or refused with CFGERR. -/
  | streamRxEnable (n : Fin 128)
  /-- R386: Enabling a TX stream starts it at the first packet after the next boundary, or is refused. -/
  | streamTxEnable (n : Fin 128)
  /-- R386: Disabling a TX stream stops it after the packet in progress. -/
  | streamTxDisable (n : Fin 128)
  /-- R387: Writing CNT2 bit 31 clears the RX stream counters and re-arms event 0x0521. -/
  | streamRxCounterClr (n : Fin 128)
  /-- R392: A lane gains block lock after 64 valid headers. -/
  | blockLock (lane : Fin 14)
  /-- R392: A lane loses block lock after 16 of 64 invalid headers. -/
  | blockLockLost (lane : Fin 14)
  /-- R394: An alignment marker updates marker lock and deskew. -/
  | markerReceive (lane : Fin 14) (hdr : BitVec 2) (bits : BitVec 64) (skew : Nat)
  /-- R398: A port sends the frame of a block at its first lane-0 slot after the lead. -/
  | cascadeFrameSend (p : Fin 3)
  /-- R399: A received frame is checked and accepted or counted, and its control words act. -/
  | cascadeFrameReceive (p : Fin 3) (frame : CascadeFrame)
  /-- R399: A block passes its deadline without an accepted frame, and LOST counts. -/
  | cascadeFrameDeadline (p : Fin 3)
  /-- R407: The map of a port that left UP is cleared after MAP_HOLD. -/
  | mapHoldExpiry (p : Fin 3)
  /-- R407: A segment not acknowledged within 4 blocks is sent again. -/
  | segmentResend (p : Fin 3)
  /-- R403: A write of port EN = 1 starts TRAINING. -/
  | cascadePortEnable (p : Fin 3)
  /-- R403: A write of port EN = 0 turns the port OFF. -/
  | cascadePortDisable (p : Fin 3)
  /-- R405: A write of ROLE and NODE is taken, or refused with CFGERR. -/
  | cascadeRoleWrite (val : Word)
  /-- R415: CSC_CTL CLRCNT clears every CSC and LAN counter and re-arms event 0x0604. -/
  | cascadeClrcnt
  /-- R419: A new partner custody code is accepted and the custody transitions are applied. -/
  | cuspChange (code : BitVec 2)
  /-- R419: After the 2 µs guard the device shows 10 and drives its gated pins. -/
  | guardExpiry
  /-- R419: After 100 ms at 01 a yielding device returns to 00 and Vault. -/
  | yieldTimeout
  /-- R419: No partner 01 within 400 ms of showing 11, so the device self-restarts. -/
  | partnerAbsentTimeout
  /-- R419: A standby wakes every STBY_CHECK hours, self-tests, checks escrow and shows 01 for 100 ms. -/
  | presenceVisit (writes : List (List Word))
  /-- R419: No visit arrives for 2 × STBY_CHECK hours. -/
  | custodyStandbyMissing
  /-- R420: Within 1 ms of a give-up cause the device shows 11, holds its outputs and writes its seal. -/
  | giveUp (cause : BitVec 4)
  /-- R431: The comparator finds the Teller cores differ. -/
  | lockstepMismatch
  /-- R420: The Mint side detects a die-to-die link failure. -/
  | dieLinkFailure
  /-- R420: CUS_CTL GIVEUP gives up with CAUSE 9 and FWCODE. -/
  | giveup (fwcode : BitVec 4)
  /-- R429: CUS_CTL CNT_CLR clears the custody counters. -/
  | cntClr
  /-- R421: Zekor writes and seals a checkpoint, making covered journal entries reclaimable. -/
  | checkpointSeal
  /-- R424: A taking device boots, replays escrow, acquires SCTR and starts its engine. -/
  | resume (sig : TakeSignals) (esc : Option Machine.Escrow)
  /-- R427: A single device resets itself after a give-up and resumes, or stays in reset after a fourth give-up within 600 s. -/
  | selfRestart (straps : Word)
  /-- R435: Every 10 µs Zekor takes new requests in window order. -/
  | scanInterval
  /-- R437: An SPI STATUS transaction returns only the status word. -/
  | spiStatus (w : Fin 2)
  /-- R437: An SPI PUT queues request words, or drops them when there is no room. -/
  | spiPut (w : Fin 2) (n : Nat) (words : List Word)
  /-- R437: An SPI GET_RSP shifts out and consumes response words. -/
  | spiGetRsp (w : Fin 2) (n : Nat)
  /-- R437: An SPI GET_EVT shifts out and consumes event entries. -/
  | spiGetEvt (w : Fin 2) (n : Nat)
  /-- R437: An SPI transaction with an unknown OP is ignored and counted in BADOP. -/
  | spiBadOp (w : Fin 2) (op : BitVec 4)
  /-- R440: A UART frame is checked and queued, or discarded with a status frame. -/
  | w2FrameReceive (first : Byte) (bytes : List Byte) (last : Byte)
  /-- R441: A window datagram is queued, or dropped and counted. -/
  | w3DatagramReceive (ip : Word) (port : Nat) (words : List Word)
  /-- R469: A state-changing command is answered once its commit resolves, it is armed, or it is journaled. -/
  | responseSend (w : Fin 4)
  /-- R453: TLR_W CLRCNT clears the window error counters. -/
  | windowClrcnt (w : Fin 4)
  /-- R444: A cede offer lapses 5 s after the CEDE. -/
  | cedeLapse
  /-- R444: MAINT_n reads low for 10 ms and MAINT_PIN is set. -/
  | maintPin
  /-- R434: After 600 s seated without giving up, Zekor blows counter bits up to the image's rollback index. -/
  | rollbackBlow
  /-- R476: Returns the IDCODE, die revisions, release, node and role. -/
  | sysIdent (q : Req)
  /-- R476: Returns custody, reference, Reserve and alarm summaries. -/
  | sysStatus (q : Req)
  /-- R476: Answered, then the device gives up with CAUSE 9, FWCODE 1. -/
  | sysRestart (q : Req)
  /-- R476: Writes firmware data into the inactive image slot. -/
  | sysFwWrite (q : Req)
  /-- R476: Checks an image slot and returns its FAIL code. -/
  | sysFwCheck (q : Req)
  /-- R434: Holds or releases the anti-rollback counter. -/
  | sysRollbackHold (q : Req)
  /-- R444: Claims ownership. -/
  | ownClaim (q : Req)
  /-- R444: Offers ownership to another window. -/
  | ownCede (q : Req)
  /-- R444: Accepts a pending cede offer. -/
  | ownAccept (q : Req)
  /-- R444: Releases ownership to VACANT. -/
  | ownRelease (q : Req)
  /-- R444: Forces ownership from W2 while MAINT_n is low. -/
  | ownForce (q : Req)
  /-- R447: Enters or leaves the maintenance state. -/
  | ownMaint (q : Req)
  /-- R477: Returns the owner word. -/
  | ownQuery (q : Req)
  /-- R465: Returns a unit parameter: NEXT, LIVE or effective. -/
  | objGet (q : Req)
  /-- R466: Sets unit parameters under a timing block. -/
  | objSet (q : Req)
  /-- R468: Applies a node's staged changes together. -/
  | objApply (q : Req)
  /-- R468: Drops a node's staged changes. -/
  | objDiscard (q : Req)
  /-- R463: Creates a roll. -/
  | objRollCreate (q : Req)
  /-- R463: Adds members to a roll. -/
  | objRollAdd (q : Req)
  /-- R463: Removes members from a roll. -/
  | objRollRemove (q : Req)
  /-- R463: Deletes a roll. -/
  | objRollDelete (q : Req)
  /-- R476: Returns the members of a roll. -/
  | objMembers (q : Req)
  /-- R476: Returns the existing indices of a class. -/
  | objList (q : Req)
  /-- R478: Writes SUPERSEDE amendment beads for rod and source pairs and commits them. -/
  | routeSet (q : Req)
  /-- R479: Ramps the effective beads of the given pairs to zero. -/
  | routeClear (q : Req)
  /-- R480: Returns the effective bead of a pair. -/
  | routeGet (q : Req)
  /-- R480: Returns the effective beads of a rod. -/
  | routeList (q : Req)
  /-- R480: Returns a node's LIVE capacity figures. -/
  | routeCost (q : Req)
  /-- R482: Loads and checks a scene image on each covered node. -/
  | scenePrepare (q : Req)
  /-- R483: Runs the tree commit of a prepared scene. -/
  | sceneCommit (q : Req)
  /-- R484: Aborts a scene before COMMIT has been sent. -/
  | sceneAbort (q : Req)
  /-- R485: Prepares and commits a scene. -/
  | sceneRecall (q : Req)
  /-- R485: Returns each node's prepared scene and check result. -/
  | sceneStatus (q : Req)
  /-- R485: Returns the stored scenes with their CRCs. -/
  | sceneList (q : Req)
  /-- R486: Starts a stored message on a player at C. -/
  | msgPlay (q : Req)
  /-- R487: Fades a player to zero from C and idles it. -/
  | msgStop (q : Req)
  /-- R487: Returns a player's state. -/
  | msgStatus (q : Req)
  /-- R487: Returns the stored messages. -/
  | msgList (q : Req)
  /-- R487: After REPEAT plays a player falls idle by itself. -/
  | messageEnd (player : Fin 512)
  /-- R501: The first 2 s of a plan's message are staged into shared SRAM. -/
  | messageStaging (plan : Fin 65536) (g : Staging)
  /-- R488: Triggers an alarm plan by command. -/
  | alarmTrigger (q : Req)
  /-- R505: Fades the players of active message plans in scope. -/
  | alarmSilence (q : Req)
  /-- R506: Ends plans in scope whose trigger is inactive. -/
  | alarmReset (q : Req)
  /-- R507: Marks a fault indication as acknowledged. -/
  | alarmAck (q : Req)
  /-- R476: Returns the alarm service status. -/
  | alarmStatus (q : Req)
  /-- R495: Defines an alarm plan. -/
  | alarmPlanSet (q : Req)
  /-- R476: Returns a plan definition. -/
  | alarmPlanGet (q : Req)
  /-- R494: Defines a zone. -/
  | alarmZoneSet (q : Req)
  /-- R476: Returns a zone definition. -/
  | alarmZoneGet (q : Req)
  /-- R510: 60 s after a circuit is clear the reroute is removed. -/
  | rerouteReturn (zone : Nat)
  /-- R509: After the fault lists have been empty for 10 s the fault relay rises. -/
  | faultRelayRise
  /-- R296: Sets the reference impedances from the next 10 valid windows. -/
  | supLearn (q : Req)
  /-- R476: Sets WIN, RB_THR or TONE_EN of a channel. -/
  | supSet (q : Req)
  /-- R476: Returns Z, ε, the run state and the learned flags. -/
  | supStatus (q : Req)
  /-- R323: Sets a Reserve parameter. -/
  | rsvSet (q : Req)
  /-- R323: Returns a Reserve parameter. -/
  | rsvGet (q : Req)
  /-- R314: Loads the voltage–charge table. -/
  | rsvTable (q : Req)
  /-- R476: Returns charge, margins, state and steps. -/
  | rsvStatus (q : Req)
  /-- R476: Writes a reference priority entry. -/
  | clkPrioSet (q : Req)
  /-- R476: Writes a reference slot's control. -/
  | clkSlotSet (q : Req)
  /-- R331: Replaces the clockClass grade map. -/
  | clkMapSet (q : Req)
  /-- R476: Writes the loop, qualification and agreement settings. -/
  | clkLoopSet (q : Req)
  /-- R476: Returns REF_STAT. -/
  | clkStatus (q : Req)
  /-- R476: Configures a MAC. -/
  | netMacSet (q : Req)
  /-- R476: Configures a stream. -/
  | netStreamSet (q : Req)
  /-- R476: Enables or disables a stream. -/
  | netStreamEn (q : Req)
  /-- R476: Returns MAC or stream counters. -/
  | netStatus (q : Req)
  /-- R476: Sets a cascade port's EN and NCH. -/
  | casPortSet (q : Req)
  /-- R408: Sets transit entries under a timing block. -/
  | casTransitSet (q : Req)
  /-- R409: Sets a port's local return under a timing block. -/
  | casReturnSet (q : Req)
  /-- R476: Returns the maps, DMAX and port states. -/
  | casTopo (q : Req)
  /-- R476: Returns CUS_STAT, CUS_CAUSE and CUS_CNT. -/
  | cusStatus (q : Req)
  /-- R476: Writes the give-up hold masks. -/
  | cusHoldSet (q : Req)
  /-- R476: Writes the presence-visit interval. -/
  | cusStbySet (q : Req)
  /-- R476: Answered, then the device gives up with CAUSE 9. -/
  | cusGiveup (q : Req)
  /-- R489: Reads registers or memory in rising address order. -/
  | regRead (q : Req)
  /-- R490: Writes registers or SRAM in the maintenance state and confirms them by a read. -/
  | regWrite (q : Req)
  /-- R452: Reads the audit record from a sequence number. -/
  | logRead (q : Req)
  /-- R476: Seals a checkpoint on request. -/
  | logCheckpoint (q : Req)
  /-- R476: Registers a W3 event subscriber. -/
  | evtSubscribe (q : Req)
  /-- R476: Removes a W3 event subscriber. -/
  | evtUnsubscribe (q : Req)
  /-- R476: Sets the window's event class mask. -/
  | evtMask (q : Req)
  /-- R516: A corrected word is written back in the bank's next free cycle. -/
  | eccWriteback (addr : Word)
  /-- R516: An ECC counter CLR clears it and, for CORR, re-arms event 0x0802. -/
  | eccClr (unc : Bool)
  /-- R519: Every STEP µs each bank starts testing its next region. -/
  | bgtRegionStart
  /-- R520: A region's March test and restore complete, and a failing region is repaired. -/
  | bgtRegionDone (bank : Fin 192) (pass : Bool)
  /-- R523: FAB_ERR CLR clears the count and re-arms event 0x0805. -/
  | fabErrClr
  /-- R526: A transaction outstanding for FAB_WDOG µs makes the device give up with CAUSE 4. -/
  | fabricWatchdog (init : Init)
  /-- R527: START reads DESC and makes the channel ACTIVE. -/
  | dmaStart (c : Fin 32)
  /-- R531: PAUSE stops new reads on a channel. -/
  | dmaPause (c : Fin 32) (on : Bool)
  /-- R531: ABORT drains a channel and ends it in IDLE. -/
  | dmaAbort (c : Fin 32)
  /-- R532: APPEND rings the doorbell, restarting a DONE channel when its link is non-zero. -/
  | dmaAppend (c : Fin 32)
  /-- R530: All write responses of a descriptor return, interrupts are raised and LINK is followed. -/
  | descriptorComplete (c : Fin 32)
  /-- R531: A paused or aborted channel's writes have all returned. -/
  | dmaDrained (c : Fin 32) (n : Nat)
  /-- R533: Enabling a queue is accepted or refused with CFGERR. -/
  | queueEnable (n : Fin 128)
  /-- R534: A push writes an entry and advances the write index, or is dropped when full. -/
  | queuePush (n : Fin 128) (words : List Word)
  /-- R534: A write of POP consumes entries. -/
  | queuePop (n : Fin 128) (k : Nat)
  /-- R535: OVF CLR clears the drop count and re-arms event 0x0807. -/
  | queueOvfClr (n : Fin 128)
  /-- R549: VDD_VAULT becomes good and everything is reset. -/
  | por (straps : Word)
  /-- R543: 1 ms after every supply is good the VAULT island releases reset. -/
  | supplyGood
  /-- R543: A supply is not good 20 ms after SUPEN rises, so SUPEN drops and TRIP is recorded. -/
  | supplyRiseTimeout (good : Word)
  /-- R543: One second after a failed rise SUPEN is raised again. -/
  | supplyRetry
  /-- R543: A supply trips, causing a give-up, a release to 00, or a return to reset. -/
  | supplyTrip (k : Fin 10)
  /-- R544: VDD_VAULT falls below 1.62 V and every pin becomes high-impedance. -/
  | vaultSupplyLoss
  /-- R549: RESET_n low for 1 µs resets every island but VAULT. -/
  | pinReset
  /-- R549: RESET_n rises and the device proceeds to boot. -/
  | resetRelease (straps : Word)
  /-- R547: PWR_CTL ENTER starts Vault entry, or is refused while seated. -/
  | enter
  /-- R547: The supplies are no longer good, Vault is reached and the wake timer starts. -/
  | vaultEntered
  /-- R548: An enabled wake edge records its source and raises SUPEN. -/
  | wake (src : BitVec 3)
  /-- R548: The wake timer reaches PWR_TIMER seconds and wakes the device. -/
  | wakeTimerExpiry
  /-- R552: After reset release the device runs the boot steps to engine start and first audio. -/
  | boot (selfTest : Word) (dram : Fin 3) (marks : List (List Bool)) (frame : Option CascadeFrame) (absent : Nat)
  /-- R551: The boot ROM takes a download transaction or frame and answers with its status word. -/
  | downloadFrame (words : List Word)
  /-- R349: A slewing time base has added the whole of ADJ, ADJ reaches 0 and SLEWING clears. -/
  | slewDone (n : Fin 4) (dt : Nat)
  /-- R394: An expected alignment marker does not arrive, MARKER counts one, and a second miss in a row loses marker lock. -/
  | markerMissed (lane : Fin 14)
  /-- R392: A lane in block lock receives a 66-bit block with an invalid sync header and adds one to LAN_L SYNC. -/
  | invalidHeader (b : LaneBlock)
  /-- R375: The link partner starts or stops signalling LPI, and MAC_STAT.LPI_RX follows it. -/
  | partnerLpi (m : Fin 4) (on : Bool)
  /-- R444: MAINT_n goes high again, MAINT_PIN clears, and any later FORCE is refused, while existing ownership is kept. -/
  | maintPinHigh
  /-- R549: RESET_n held low for 10 ms with MAINT_n low clears PWR_RSTCAUSE and CUS_CAUSE.RESTARTS and lifts the self-restart hold. -/
  | maintReset
  deriving DecidableEq, Repr

end Sys2Proof
end

