-- ==== Sys2Proof/Decode.lean ====
section
/-!
DEFINITION. The commands that a word spells by the command table's bits. The table gives bits to none of its rows (a
command is a register access, a bus operation or an event on a pin), so no word spells a command. The words of the
Tally instructions, which the block's own cores fetch, are decoded in Sys2Proof/Machine/TallyCode.lean.
-/

namespace Sys2Proof

/-- The command whose bits are `w`: none, as the table gives no row bits. -/
def decodeTableWord (_nbits _w : Nat) : Option Instr := none

end Sys2Proof
end

