-- ==== Sys2Proof/Machine/Fix.lean ====
section
/-!
DEFINITION. The fixed-point arithmetic of the engine: the narrowing rule (R35, R37), the edge conversions (R54) and
the coefficients of the rate-bridge filters (R50, R51). Samples and gains are carried as integers.
-/

namespace Sys2Proof.Machine

open Sys2Proof

/-- 1.0 in S32 and G32 (R32, R33). -/
def unity : Int := 0x08000000

/-- The least and greatest S32, G32 or Q2.29 value. -/
def s32Min : Int := -0x80000000
def s32Max : Int := 0x7FFFFFFF

/-- The magnitude of a rational. -/
def absQ (x : Rat) : Rat := if x < 0 then -x else x

/-- Round `n / d` to an integer, ties to even (R35 with any positive divisor). -/
def roundDiv (n : Int) (d : Nat) : Int :=
  let q := n / (d : Int)
  let r := n % (d : Int)
  if 2 * r > d then q + 1
  else if 2 * r < d then q
  else if q % 2 = 0 then q else q + 1

/-- R35: narrow `x` by `k` fraction bits, round half to even. -/
def narrowRound (x : Int) (k : Nat) : Int := if k = 0 then x else roundDiv x (2 ^ k)

/-- R37: saturate to 32 bits. -/
def sat32 (x : Int) : Int := max s32Min (min s32Max x)

/-- Whether R37 changes `x`. -/
def sats32 (x : Int) : Bool := decide (sat32 x ≠ x)

/-- R35 then R37. -/
def narrow (x : Int) (k : Nat) : Int := sat32 (narrowRound x k)

/-- Whether narrowing `x` by `k` saturates. -/
def narrowSats (x : Int) (k : Nat) : Bool := sats32 (narrowRound x k)

/-- A word read as two's complement. -/
def sval (w : Word) : Int := w.toInt

/-- R39: polarity, saturating. -/
def negSat (x : Int) : Int := sat32 (-x)

/-- A real value as a code with `k` fraction bits: R35, then R37. -/
def codeOf (k : Nat) (x : Rat) : Int := sat32 (roundDiv (x.num * 2 ^ k) x.den)

/-- `(2 n - 1) / 2^28` is at most 10^(d / 20): the power is taken on both sides, so both are integers. -/
def dbAtLeast (d : Rat) (n : Nat) : Bool :=
  decide ((2 * n - 1) ^ (20 * d.den) * 10 ^ (-d.num).toNat ≤ 2 ^ (28 * (20 * d.den)) * 10 ^ d.num.toNat)

/-- The greatest `n` below `lo + 2^k` for which `p` holds, where it holds up to some number at or above `lo`. -/
def greatestUpTo (p : Nat → Bool) : Nat → Nat → Nat
  | 0, lo => lo
  | k + 1, lo => if p (lo + 2 ^ k) then greatestUpTo p k (lo + 2 ^ k) else greatestUpTo p k lo

/-- A level in dB as a G32 gain, 10^(dB / 20) rounded by R35 (R33, R36); no level but multiples of 20 dB gives a value on a
tie or a code. -/
def dbGain (d : Rat) : Nat := greatestUpTo (dbAtLeast d) 31 0

/-- Two's complement wrap of an integer into `n` bits. -/
def wrapS (n : Nat) (x : Int) : Int := (BitVec.ofInt n x).toInt

/-- An exact product of two 32-bit values narrowed by 27 bits: a gain applied to a sample. -/
def gainMul (g x : Int) : Int := narrow (g * x) 27
def gainMulSats (g x : Int) : Bool := narrowSats (g * x) 27

/-- R54: the S32 value of a received word of 16, 24 or 32 bits. -/
def rxConvert (width : Nat) (w : Int) : Int :=
  if width = 16 then w * 2 ^ 12 else if width = 24 then w * 2 ^ 4 else w / 2 ^ 4

/-- R54: the word transmitted for the S32 value `x`. -/
def txConvert (width : Nat) (x : Int) : Int :=
  if width = 16 then max (-32768) (min 32767 (x / 2 ^ 12))
  else if width = 24 then max (-8388608) (min 8388607 (x / 2 ^ 4))
  else max (-(2 ^ 27)) (min (2 ^ 27 - 1) x) * 2 ^ 4

/-- R54: whether that conversion clamps. -/
def txClamps (width : Nat) (x : Int) : Bool :=
  if width = 16 then decide (x / 2 ^ 12 < -32768 ∨ 32767 < x / 2 ^ 12)
  else if width = 24 then decide (x / 2 ^ 4 < -8388608 ∨ 8388607 < x / 2 ^ 4)
  else decide (x < -(2 ^ 27) ∨ 2 ^ 27 - 1 < x)

/-! ## Rate-bridge coefficients (R50, R51)

The real expression of R50 is evaluated in fixed point with 256 fraction bits. The argument of I0 enters only
squared, so its series is rational; sin(π m / L) is 0, ±1, ±√2/2 or ±√3/2. -/

/-- Fraction bits of the evaluation. -/
def rbPrec : Nat := 256

/-- π, √2 and √3 with 256 fraction bits, floored. -/
def piFix : Nat := 0x3243F6A8885A308D313198A2E03707344A4093822299F31D0082EFA98EC4E6C89
def sqrt2Fix : Nat := Nat.sqrt (2 * 2 ^ 512)
def sqrt3Fix : Nat := Nat.sqrt (3 * 2 ^ 512)

/-- The sum of `(z/4)^m / (m!)^2` over `fuel` further terms, `t` being the current term, `z4` = z/4 in fixed point. -/
def besselSum (z4 : Nat) : Nat → Nat → Nat → Nat
  | 0, _, _ => 0
  | fuel + 1, m, t => t + besselSum z4 fuel (m + 1) (t * z4 / (2 ^ rbPrec * (m + 1) * (m + 1)))

/-- I0(√z) for `z = num / den`, in fixed point. -/
def besselI0 (num den : Nat) : Nat :=
  besselSum (num * 2 ^ rbPrec / (4 * den)) 80 0 (2 ^ rbPrec)

/-- sin(π m / L) for L = 2, 3 or 4, in fixed point with sign. -/
def sinTable (l m : Nat) : Int :=
  let r := m % (2 * l)
  let s : Int := if r < l then 1 else -1
  let a := r % l
  if a = 0 then 0
  else if l = 2 then s * 2 ^ rbPrec
  else if l = 3 then s * (sqrt3Fix / 2 : Nat)
  else if a = 2 then s * 2 ^ rbPrec
  else s * (sqrt2Fix / 2 : Nat)

/-- Coefficient `k` of a bridge with cutoff `1/(2L)` of its higher rate, `n` taps and gain `g` (R50). -/
def rbCoef (l n g k : Nat) : Int :=
  let c := (n - 1) / 2
  let d := if k < c then c - k else k - c
  -- 2 fc sinc(2 fc d) = sin(π d / L) / (π d), and 1/L at d = 0
  let core : Int :=
    if d = 0 then (2 ^ rbPrec / l : Nat)
    else sinTable l d * (2 ^ rbPrec : Nat) / ((piFix * d : Nat) : Int)
  let w := besselI0 (100 * (c * c - d * d)) (c * c)
  let w0 := besselI0 100 1
  roundDiv (core * (w : Int) * (g : Int) * 2 ^ 29) (w0 * 2 ^ rbPrec)

/-- The taps of a bridge. -/
def rbTaps (l n g : Nat) : List Int := (List.range n).map (rbCoef l n g)

end Sys2Proof.Machine
end

