-- ==== Sys2Proof/Machine/State.lean ====
section
/-!
DEFINITION. The state of the block as plain data: every register, memory, FIFO, counter, mode and pin the spec gives
it, and the queue of commands that wait. Registers that software writes and reads back are held in one sparse table
over the reset values of the register maps; the parts that hardware and Zekor maintain are those of Parts.lean.
-/

namespace Sys2Proof.Machine

open Sys2Proof

/-- The state of the DXP-4810. -/
structure State where
  /-- the commands that wait, first in first out -/
  pending : List Instr := []
  /-- addressed memory, byte by byte; an unlisted byte reads 0 -/
  mem : Tbl Byte := []
  /-- registers software writes, by address, over their reset values -/
  regs : Tbl Word := []
  /-- the NEXT and LIVE parameter sets (R121) over the same reset values, by parameter key -/
  next : Tbl Word := []
  live : Tbl Word := []
  /-- parameter keys written since the last swap (R122) -/
  marks : List Nat := []
  /-- registers kept once per initiator: key × 16 + initiator -/
  ini : Tbl Word := []
  /-- counter that free values are applied to -/
  freeCtr : Nat := 0
  /-- SCTR at the first sample of the current block (R23) -/
  sctr : Nat := 0
  /-- the engine has started: SYS_DOMAIN.LOCK (R44) -/
  started : Bool := false
  /-- SYS_SAT_FLAGS (R40) -/
  sat : Word := 0
  tly : Tally := {}
  memc : MemCtl := {}
  mover : Mover := {}
  queues : Tbl Queue := []
  cus : Custody := {}
  /-- event queues: 0 to 2 for windows W0 to W2, 3 to 6 for the subscribers of W3 -/
  evq : Tbl EvQueue := []
  /-- event class masks by window, bit k for class k (EVT MASK) -/
  evMask : Tbl Word := []
  /-- W3 event subscribers: slot 0 to 3, address and port -/
  subs : Tbl (Word × Nat) := []
  /-- TLR_W EVTLOST counters by window -/
  evtLost : Tbl Nat := []
  /-- events this node has raised, for the cascade message channel to carry to the other nodes (R474) -/
  msgOut : List EvEntry := []
  /-- the parameter set that the processing stage in progress uses (R113) -/
  eng : Tbl Word := []
  engine : Engine := {}
  fdc : Chains := {}
  mod : Mod := {}
  mon : Mon := {}
  sar : Sar := {}
  ports : Ports := {}
  ref : RefClock := {}
  tbs : TimeBases := {}
  eth : Eth := {}
  csc : Cascade := {}
  zk : Zekor := {}
  esc : Escrow := {}
  pwr : Power := {}
  deriving DecidableEq, Repr

/-- The machine right after power-on reset: every register at the reset value of its map, memory with nothing listed,
no command waiting. A register's reset value is what `regReset` and the defaults of the structures above give. -/
def State.reset : State := {}

/-- The reasons a step could stop with a fault. The spec gives every error of the block an effect (an event, a status
bit, a task fault, a give-up), so no command raises one: the type is empty. Safe. -/
inductive Fault where
  deriving DecidableEq, Repr

/-- The reasons a command is refused. -/
inductive Refusal where
  /-- raised by an arm of `exec` whose meaning is not written: safe, nothing is claimed of the command -/
  | notModelled (mnemonic : String)
  deriving DecidableEq, Repr

/-- The outcome of a command. -/
abbrev Res := Host.Outcome State Fault Refusal

end Sys2Proof.Machine
end

