-- ==== Sys2Proof/Machine/Ops.lean ====
section
/-!
DEFINITION. The named operations over registers, parameter sets, addressed memory, counters and events that the
meanings of all commands are written with.
-/

namespace Sys2Proof.Machine

open Sys2Proof

/-! ## Counters and words -/

/-- A counter that adds one and holds at `top`. -/
def incHold (top n : Nat) : Nat := if n < top then n + 1 else n

/-- A counter that adds `k` and holds at `top`. -/
def addHold (top n k : Nat) : Nat := min top (n + k)

/-- `old` with the bits under `mask` taken from `new`. -/
def mergeMask (old new mask : Word) : Word := (old &&& ~~~mask) ||| (new &&& mask)

/-- A Boolean as a bit. -/
def bitOf (b : Bool) : Nat := if b then 1 else 0

/-- A word with the given fields: (place, value) pairs, each value taken as it is. -/
def packW (fs : List (Nat × Nat)) : Word := Word.ofNat (fs.foldl (fun acc f => acc + f.2 * 2 ^ f.1) 0)

/-- The word of listed bits. -/
def bitsW (ks : List Nat) : Word := ks.foldl (fun w k => w ||| Word.ofNat (2 ^ k)) 0

/-- Byte `j` of a word, little-endian. -/
def wordByte (w : Word) (j : Nat) : Byte := BitVec.ofNat 8 (w.toNat >>> (8 * j))

/-- The word of four bytes, the first the least significant. -/
def word4 (b0 b1 b2 b3 : Byte) : Word :=
  Word.ofNat (b0.toNat + b1.toNat * 2 ^ 8 + b2.toNat * 2 ^ 16 + b3.toNat * 2 ^ 24)

/-! ## Registers (R8, R9) -/

/-- What software last wrote to the RW bits of a register, over its reset value. -/
def State.reg (s : State) (a : Nat) : Word := Tbl.getD s.regs a (regReset a)

/-- A register as a number. -/
def State.regN (s : State) (a : Nat) : Nat := (s.reg a).toNat

/-- A register's field. -/
def State.fldN (s : State) (a lo len : Nat) : Nat := Word.fld (s.reg a) lo len

/-- One bit of a register. -/
def State.bitN (s : State) (a i : Nat) : Bool := Word.bit (s.reg a) i

/-- Store a whole register word. -/
def State.setReg (s : State) (a : Nat) (v : Word) : State := { s with regs := Tbl.set s.regs a v (regReset a) }

/-- A posted write to a register: the RW bits take the value, the other bits ignore it. -/
def State.writeRW (s : State) (a : Nat) (v : Word) : State :=
  s.setReg a (mergeMask (s.reg a) v (Word.ofNat (regMask a)))

/-- Set a field of a register (hardware or Zekor changing it). -/
def State.setFldN (s : State) (a lo len v : Nat) : State := s.setReg a ((s.reg a).setFld lo len v)

/-- A register kept once per initiator (R42, R85, R350). -/
def State.iniReg (s : State) (key : Nat) (i : Init) : Word := Tbl.getD s.ini (key * 16 + i.val) 0

def State.setIniReg (s : State) (key : Nat) (i : Init) (v : Word) : State :=
  { s with ini := Tbl.set s.ini (key * 16 + i.val) v 0 }

/-! ## LIVE and NEXT parameter sets (R121, R122)

A parameter is named by its register address, or by a key of its own where registers are windows onto many units. -/

/-- Keys of an input strip's, an output strip's, a section's parameters, and of a Tally control-store word. -/
def keyIS (i off : Nat) : Nat := 0x100000000 + i * 0x40 + off
def keyOS (k off : Nat) : Nat := 0x200000000 + k * 0x40 + off
def keySec (n off : Nat) : Nat := 0x300000000 + n * 0x20 + off
def keyTly (addr : Nat) : Nat := 0x400000000 + addr

/-- The reset value of a parameter. -/
def paramReset (k : Nat) : Word :=
  if k < 0x100000000 then regReset k
  else if k < 0x200000000 then regReset (0x10038100 + k % 0x40)
  else if k < 0x300000000 then regReset (0x10038200 + k % 0x40)
  else if k < 0x400000000 then regReset (0x10030000 + k % 0x20)
  else 0

def State.nxt (s : State) (k : Nat) : Word := Tbl.getD s.next k (paramReset k)
def State.liv (s : State) (k : Nat) : Word := Tbl.getD s.live k (paramReset k)
def State.nxtF (s : State) (k lo len : Nat) : Nat := Word.fld (s.nxt k) lo len
def State.livF (s : State) (k lo len : Nat) : Nat := Word.fld (s.liv k) lo len
def State.nxtB (s : State) (k i : Nat) : Bool := Word.bit (s.nxt k) i
def State.livB (s : State) (k i : Nat) : Bool := Word.bit (s.liv k) i

/-- A parameter of a given set. -/
def pget (ps : Tbl Word) (k : Nat) : Word := Tbl.getD ps k (paramReset k)
def pfld (ps : Tbl Word) (k lo len : Nat) : Nat := Word.fld (pget ps k) lo len
def pbit (ps : Tbl Word) (k i : Nat) : Bool := Word.bit (pget ps k) i

/-- The parameter set the processing stage in progress uses: LIVE of its block (R113). -/
def State.enp (s : State) (k : Nat) : Word := pget s.eng k
def State.enF (s : State) (k lo len : Nat) : Nat := pfld s.eng k lo len
def State.enB (s : State) (k i : Nat) : Bool := pbit s.eng k i

/-- Insert a number into a strictly rising list. -/
def insertNat (k : Nat) : List Nat → List Nat
  | [] => [k]
  | j :: t => if k < j then k :: j :: t else if k = j then j :: t else j :: insertNat k t

/-- Write a NEXT parameter and mark it (R122). -/
def State.setNxt (s : State) (k : Nat) (v : Word) : State :=
  { s with next := Tbl.set s.next k v (paramReset k), marks := insertNat k s.marks }

/-- Write a NEXT parameter without a mark (the hardware's own AUTO update, R75). -/
def State.setNxtUnmarked (s : State) (k : Nat) (v : Word) : State :=
  { s with next := Tbl.set s.next k v (paramReset k) }

def State.setLiv (s : State) (k : Nat) (v : Word) : State :=
  { s with live := Tbl.set s.live k v (paramReset k) }

/-! ## Addressed memory -/

/-- One byte of memory; an unlisted byte reads 0. -/
def State.byte (s : State) (a : Nat) : Byte := Tbl.getD s.mem a 0

def State.setByte (s : State) (a : Nat) (v : Byte) : State := { s with mem := Tbl.set s.mem a v 0 }

/-- The aligned word at byte address `a` (a multiple of 4), little-endian (R8). -/
def State.word (s : State) (a : Nat) : Word :=
  word4 (s.byte a) (s.byte (a + 1)) (s.byte (a + 2)) (s.byte (a + 3))

def State.setWord (s : State) (a : Nat) (w : Word) : State :=
  (((s.setByte a (wordByte w 0)).setByte (a + 1) (wordByte w 1)).setByte (a + 2) (wordByte w 2)).setByte
    (a + 3) (wordByte w 3)

/-- `n` words from `a` upward. -/
def State.words (s : State) (a n : Nat) : List Word := (List.range n).map (fun k => s.word (a + 4 * k))

/-- Store words from `a` upward. -/
def State.setWords (s : State) : Nat → List Word → State
  | _, [] => s
  | a, w :: ws => (s.setWord a w).setWords (a + 4) ws

/-- The memory form: keys strictly rising and no byte equal to what an unlisted byte reads as. -/
def Memory.wf (m : Tbl Byte) : Bool := Tbl.wf m 0

/-- Store a word; a store ends the ECC error of its 64-bit word and a write-back that waits for it (R516). -/
def State.putWord (s : State) (a : Nat) (w : Word) : State :=
  let t := s.setWord a w
  { t with memc := { t.memc with
      ecc := Tbl.del t.memc.ecc (a / 8), writeback := t.memc.writeback.filter (· ≠ a / 8) } }

def State.putWords (s : State) : Nat → List Word → State
  | _, [] => s
  | a, w :: ws => (s.putWord a w).putWords (a + 4) ws

/-- Store bytes from `a` upward; like any store it ends ECC errors. -/
def State.putBytes (s : State) (a : Nat) (bs : List Byte) : State :=
  let t := (List.range bs.length).foldl (fun t i => t.setByte (a + i) (bs.getD i 0)) s
  let hit := fun (k : Nat) => a / 8 ≤ k && 8 * k < a + bs.length
  { t with memc := { t.memc with
      ecc := t.memc.ecc.filter (fun e => !hit e.1), writeback := t.memc.writeback.filter (fun k => !hit k) } }

/-- `n` bytes from `a` upward. -/
def State.getBytes (s : State) (a n : Nat) : List Byte := (List.range n).map (fun i => s.byte (a + i))

/-- MEM_DRAM.SIZE as it acts: 0 512 MiB, 1 1 GiB, 2 2 GiB; 3 acts as 0 (R537). -/
def State.dramSize (s : State) : Nat := s.fldN 0x10130080 0 2 % 3

/-! ## Free values -/

/-- Advance the counter that free values are applied to. -/
def State.tickFree (s : State) : State := { s with freeCtr := s.freeCtr + 1 }

/-! ## Events (R442, R472, R474) -/

/-- This node's number (CSC_CTL.NODE). -/
def State.node (s : State) : Nat := s.fldN 0x100E0000 2 6

/-- Put an event into one queue: dropped when it holds 256 entries (R442). Answers the queue and whether it was lost.
When space has returned, 0x0909 with the number lost goes in before it. -/
def EvQueue.put (q : EvQueue) (code node payload sctrLo : Nat) : EvQueue × Bool :=
  if 256 ≤ q.entries.length then ({ q with lost := q.lost + 1 }, true)
  else if q.lost = 0 then
    ({ q with entries := q.entries ++ [⟨code, node, payload, sctrLo, q.seq⟩], seq := q.seq + 1 }, false)
  else
    let q1 : EvQueue :=
      { entries := q.entries ++ [⟨0x0909, node, min q.lost 0xFFFF, sctrLo, q.seq⟩], seq := q.seq + 1, lost := 0 }
    if 256 ≤ q1.entries.length then ({ q1 with lost := 1 }, true)
    else ({ q1 with entries := q1.entries ++ [⟨code, node, payload, sctrLo, q1.seq⟩], seq := q1.seq + 1 }, false)

/-- Window of an event queue: slots 3 to 6 belong to W3. -/
def evWindow (slot : Nat) : Nat := min slot 3

/-- Whether the queue of a slot takes events: W3 slots only while a subscriber holds them. -/
def State.evOpen (s : State) (slot : Nat) : Bool := slot < 3 || (Tbl.find s.subs (slot - 3)).isSome

/-- Deliver an event to one slot, under its window's class mask. -/
def State.deliver (s : State) (code node payload sctrLo slot : Nat) : State :=
  if s.evOpen slot && (Tbl.getD s.evMask (evWindow slot) 0x1FFE).getLsbD (code / 256) then
    let r := EvQueue.put (Tbl.getD s.evq slot {}) code node payload sctrLo
    { s with
      evq := Tbl.set s.evq slot r.1 {}
      evtLost := if r.2 then Tbl.set s.evtLost (evWindow slot)
        (incHold 0xFFF (Tbl.getD s.evtLost (evWindow slot) 0)) 0 else s.evtLost }
  else s

/-- Deliver an event to every window of this node. -/
def State.deliverAll (s : State) (code node payload sctrLo : Nat) : State :=
  (List.range 7).foldl (fun t slot => t.deliver code node payload sctrLo slot) s

/-- Events that open an entry of the fault list (R508); those of a contact input open one where a plan asks for another
state of it. -/
def faultOpens (code : Nat) : Bool :=
  [0x0101, 0x0103, 0x0105, 0x0201, 0x0203, 0x0301, 0x0305, 0x0306, 0x0607, 0x0705, 0x0708, 0x0A08, 0x0A0D, 0x0B10].contains code

/-- The entries an event closes: codes, of the same payload unless the flag says of any. -/
def faultCloses (code : Nat) : List Nat × Bool :=
  match code with
  | 0x0102 => ([0x0101], false)
  | 0x0104 => ([0x0103], false)
  | 0x0110 => ([0x0112, 0x0113], false)
  | 0x0202 => ([0x0201, 0x0203], false)
  | 0x0302 => ([0x0301], false)
  | 0x0303 => ([0x0305], false)
  | 0x0304 => ([0x0305], false)
  | 0x0606 => ([0x0607], false)
  | 0x0704 => ([0x0705, 0x0708], true)
  | 0x0A07 => ([0x0A08], false)
  | _ => ([], false)

/-- The fault list after an event of this node. -/
def faultsAfter (plans : Tbl Plan) (code payload : Nat) (fs : List FaultEntry) : List FaultEntry :=
  let c := faultCloses code
  let fs := fs.filter (fun f => !(c.1.contains f.code && (c.2 || f.payload == payload)))
  let asks := fun (e : Nat × Plan) =>
    let w := e.2.defn.getD 0 0
    e.1 / 1024 == payload / 2 ^ 26 && w.bit 31 && w.fld 8 2 == 1 && w.fld 10 5 == payload % 2 ^ 20 && w.fld 15 2 != code - 0x0110
  if (faultOpens code || ((code == 0x0112 || code == 0x0113) && plans.any asks)) &&
      !fs.any (fun f => f.code == code && f.payload == payload) then fs ++ [⟨code, payload, false⟩]
  else fs

/-- Raise an event: it reaches every window of this node and, where the node is in a cascade, of every other node
(R474); the fault list follows it (R508). -/
def State.raise (s : State) (code payload : Nat) : State :=
  let lo := s.sctr % 2 ^ 32
  let t := s.deliverAll code s.node payload lo
  let a := t.zk.alarm
  let t := { t with zk := { t.zk with alarm := { a with faults := faultsAfter a.plan code payload a.faults } } }
  if s.fldN 0x100E0000 0 2 = 0 then t else { t with msgOut := t.msgOut ++ [⟨code, s.node, payload, lo, 0⟩] }

/-- Raise an event only while a flag holds. -/
def State.raiseIf (s : State) (b : Bool) (code payload : Nat) : State := if b then s.raise code payload else s

/-- A ledger number of this node (R460): [31:26] node, [25:20] class, [19:0] index. -/
def State.ledger (s : State) (cls index : Nat) : Nat := s.node * 2 ^ 26 + cls * 2 ^ 20 + index

/-- Set sticky bits of SYS_SAT_FLAGS (R40): 0 ABX, 1 SEC, 2 TLY, 3 FDC, 4 RB, 5 PORT. -/
def State.setSat (s : State) (b : Bool) (k : Nat) : State :=
  if b then { s with sat := s.sat ||| Word.ofNat (2 ^ k) } else s

/-! ## ECC (R516, R517) -/

/-- The Teller's 512 KiB have no fabric address; their byte `o` stands at 2^32 + `o` where ECC errors are kept (R431). -/
def tellerAt : Nat := 0x100000000

/-- MEM_ECC_SRC.MEMORY of a byte address: 0 Abacus, 1 Tally, 2 shared SRAM, 3 directory store, 4 Teller memory. -/
def eccMemory (a : Nat) : Nat :=
  if tellerAt ≤ a then 4
  else if a < 0x02200000 then (if a % 0x01100000 < 0x01000000 then 0 else 3)
  else if a < 0x03000000 then 1 else 2

/-- The error the 64-bit word at `a` holds: none, or whether it is uncorrectable. -/
def State.eccAt (s : State) (a : Nat) : Option Bool := Tbl.find s.memc.ecc (a / 8)

def State.eccBad (s : State) (a : Nat) : Bool := s.eccAt a == some true

/-- Count and record the error met by a read at `a`; a corrected word waits for its write-back. -/
def State.eccRecord (s : State) (a : Nat) (unc : Bool) : State :=
  let m := s.memc
  let m := { m with eccAddr := Word.ofNat (a / 8 * 8),
                    eccSrc := packW [(0, eccMemory a), (3, bitOf unc), (31, 1)] }
  if unc then { s with memc := { m with unc := incHold 0xFFFFFF m.unc } }
  else
    let t := { s with memc := { m with corr := incHold 0xFFFFFF m.corr, corrArmed := false,
                                       writeback := insertNat (a / 8) m.writeback } }
    t.raiseIf m.corrArmed 0x0802 (a / 8 * 8 % 2 ^ 32)

/-- A read at `a` by anything: the error it meets is counted (R516, R517). Event 0x0801 and a give-up are the
reader's affair. -/
def State.eccSeen (s : State) (a : Nat) : State :=
  match s.eccAt a with
  | none => s
  | some u => s.eccRecord a u

/-- A read at `a` whose reader does not give up: an uncorrectable error also raises event 0x0801. -/
def State.eccRead (s : State) (a : Nat) : State :=
  (s.eccSeen a).raiseIf (s.eccBad a) 0x0801 (a / 8 * 8)

/-! ## Units held in tables -/

def State.core (s : State) (k : Nat) : TCore := Tbl.getD s.tly.cores k {}

def State.setCore (s : State) (k : Nat) (c : TCore) : State :=
  { s with tly := { s.tly with cores := Tbl.set s.tly.cores k c {} } }

def State.queue (s : State) (n : Nat) : Queue := Tbl.getD s.queues n {}

def State.setQueue (s : State) (n : Nat) (q : Queue) : State := { s with queues := Tbl.set s.queues n q {} }

/-- Set interrupt source `src` of Tally core `k` pending (R164). -/
def State.tallyIrq (s : State) (k src : Nat) : State :=
  let c := s.core k
  s.setCore k { c with pend := c.pend ||| 2 ^ src }

/-- A command whose condition does not hold in the state changes nothing. -/
def onlyIf (b : Bool) (s : State) (f : State) : State := if b then f else s

end Sys2Proof.Machine
end

