-- ==== Sys2Proof/Machine/Ramp.lean ====
section
/-!
DEFINITION. Ramp slots (R114 to R120): the shapes to correct rounding, the value of a slot at a sample, the gains
formed with it, and gain stages (R65, R66).
-/

namespace Sys2Proof.Machine

open Sys2Proof

/-! ## Shapes

The real shapes are evaluated in fixed point with 256 fraction bits; every result whose exact value is no dyadic
rational lies much further from a rounding boundary than the evaluation's error. -/

/-- ln 2 with 256 fraction bits, floored. -/
def ln2Fix : Nat := 0xB17217F7D1CF79ABC9E3B39803F2F6AF40F343267298B62D8A0D175B8BAAFA2B

/-- The alternating series of 1 − cos: `t` is the current term, `x2` the squared argument, `n` its last factor. -/
def cosTail (x2 : Nat) : Nat → Nat → Nat → Int
  | 0, _, _ => 0
  | fuel + 1, n, t => (t : Int) - cosTail x2 fuel (n + 2) (t * x2 / (2 ^ 256 * (n + 1) * (n + 2)))

/-- (1 − cos(π i / T)) with 256 fraction bits. -/
def oneMinusCos (i t : Nat) : Int :=
  let x := piFix * i / t
  let x2 := x * x / 2 ^ 256
  cosTail x2 45 2 (x2 / 2)

/-- The series of exp: `t` is the current term. -/
def expTail (x : Nat) : Nat → Nat → Nat → Nat
  | 0, _, _ => 0
  | fuel + 1, n, t => t + expTail x fuel (n + 1) (t * x / (2 ^ 256 * (n + 1)))

/-- 2^(k i / T) with 256 fraction bits. -/
def exp2Fix (k i t : Nat) : Nat :=
  2 ^ (k * i / t) * expTail (ln2Fix * (k * i % t) / t) 60 0 (2 ^ 256)

/-- e^y with 256 fraction bits, for y at or above 0. -/
def expFix (y : Rat) : Nat :=
  let x := (y * 2 ^ 256).floor.toNat
  2 ^ (x / ln2Fix) * expTail (x % ln2Fix) 60 0 (2 ^ 256)

/-- R115: `2^bits` times the shape's value at i / T, rounded by R35, for i < T. Shapes 6 and 7 are never LIVE. -/
def shapeRound (shape bits i t : Nat) : Int :=
  match shape with
  | 0 => roundDiv (2 ^ bits * i : Nat) t
  | 1 => roundDiv (oneMinusCos i t * 2 ^ bits) (2 ^ 257)
  | _ =>
    let k := 4 * (shape - 1)
    roundDiv (((exp2Fix k i t : Int) - 2 ^ 256) * 2 ^ bits) (2 ^ 256 * (2 ^ k - 1))

/-! ## Slots -/

def SlotDef.shape (d : SlotDef) : Nat := d.cfg.fld 0 3
def SlotDef.len (d : SlotDef) : Nat := d.cfg.fld 8 20

/-- R of a definition at sample `t` (R115). -/
def SlotDef.val (d : SlotDef) (t : Int) : Int :=
  let i := t - d.start
  if i < 0 then 0 else if (d.len : Int) ≤ i then 2 ^ 30 else shapeRound d.shape 30 i.toNat d.len

/-- WAITING, RUNNING or DONE at sample `t` (RMP_WSTAT). -/
def SlotDef.stage (d : SlotDef) (t : Int) : Nat :=
  let i := t - d.start
  if i < 0 then 0 else if i < (d.len : Int) then 1 else 2

/-- R of slot `n` in a set of definitions; slot 0 always reads 1 (R114). -/
def rampVal (ds : Tbl SlotDef) (n : Nat) (t : Int) : Int :=
  if n = 0 then 2 ^ 30 else (Tbl.getD ds n {}).val t

def rampStage (ds : Tbl SlotDef) (n : Nat) (t : Int) : Nat :=
  if n = 0 then 2 else (Tbl.getD ds n {}).stage t

/-- R117: the gain between FROM and TO at ramp value R. -/
def rampGain (frm tgt r : Int) : Int := narrowRound (frm * 2 ^ 30 + (tgt - frm) * r) 30

/-- R118: the S of an ABSOLUTE slot: the value congruent to START within 2^31 of B. -/
def absStart (b start : Nat) : Int :=
  let lo : Int := (b : Int) - 2 ^ 31
  lo + ((start : Int) - lo) % 2 ^ 32

/-- R118: the definition a re-armed slot takes. -/
def rearm (cfg start : Word) (b c : Nat) : SlotDef :=
  { cfg := cfg, start := if cfg.bit 4 then absStart b start.toNat else c }

/-! ## Gain stages (R65, R66, R120) -/

/-- A commit with a new value or slot starts the stage from the gain it applied last. -/
def GainSt.commit (g : GainSt) (tgt : Int) (slot : Nat) : GainSt :=
  if tgt = g.tgt ∧ slot = g.slot then g else { g with frm := g.last, tgt := tgt, slot := slot }

/-- R83: FROM = TO = the LIVE value. -/
def GainSt.start (tgt : Int) (slot : Nat) : GainSt := { frm := tgt, tgt := tgt, slot := slot, last := tgt }

/-- The gain at sample `t`. -/
def GainSt.at (g : GainSt) (ds : Tbl SlotDef) (t : Int) : Int := rampGain g.frm g.tgt (rampVal ds g.slot t)

/-- The stage after a block whose last sample is `t`: it drops out of a ramp that is DONE (R120). -/
def GainSt.after (g : GainSt) (ds : Tbl SlotDef) (t : Int) : GainSt :=
  { g with last := g.at ds t, frm := if rampStage ds g.slot t = 2 then g.tgt else g.frm }

/-- A block through a gain stage; `ts` are the M samples its samples read ramps at. Also whether a product
saturates. -/
def gainBlock (g : GainSt) (ds : Tbl SlotDef) (ts : List Int) (xs : List Int) : List Int × Bool :=
  let ps := List.zipWith (fun t x => (g.at ds t, x)) ts xs
  (ps.map (fun p => gainMul p.1 p.2), ps.any (fun p => gainMulSats p.1 p.2))

end Sys2Proof.Machine
end

