-- ==== Sys2Proof/Config.lean ====
section
/-!
DEFINITION. The values the spec leaves open, as constants without a body: no proof can lean on any of them.
-/

namespace Sys2Proof

/-- What a Tally load returns beside the task fault when its word holds an uncorrectable ECC error (R158 names the
fault and no value); applied to the free-value counter. Log entry 10. -/
opaque Config.eccLoad : Nat → Word

/-- The roundings of the supervision tone that R293 and R294 leave open, each up or down. Log entry 20. Of cos θ (true) or
sin θ (false) as an S32 value at a phase; of the tone at a phase, amplitude and ramp position; and whether the tone is the
cosine of its phase. -/
opaque Config.toneUp : Bool → Nat → Bool
opaque Config.toneLsb : Nat → Word → Nat → Bool
opaque Config.toneCosine : Bool

/-- How a WIN or RB_THR word of SUP SET is read as a number (R476 gives no number format). Log entry 21. -/
opaque Config.supFrac : Word → Rat

/-- The words in which SUP STATUS reports an impedance and a residual (R476 gives no format, and aV × GI of R296 is the
installation's): of the bridge channel and the ratio, none for infinite or not computed. Log entry 21. -/
opaque Config.supZ : Nat → Option Rat → Word
opaque Config.supEps : Option Rat → Word

/-- The word in which SUP STATUS codes the run state (R297, R476 gives no codes): a run of the line is open, the line fault
stands, the output fault stands. Log entry 21. -/
opaque Config.supRun : Bool → Bool → Bool → Word

/-- aV × GI of a bridge channel in ohms (R296, R315: the installation's). Log entry 21. -/
opaque Config.supOhms : Nat → Rat

/-- The residual of a window whose divisor is 0 (R298 states none): of the channel and the window's sequence number.
Log entry 21. -/
opaque Config.residual : Nat → Nat → Rat

/-- The level another driver or the external pull gives a released control line (R307): of the line and the free-value
counter. Log entry 22. -/
opaque Config.padLevel : Nat → Nat → Bool

/-- The φ recorded for a block whose first sample was a repeat and so has no frame (R252): of the port and the sample.
Log entry 23. -/
opaque Config.repeatPhase : Nat → Nat → Int

/-- AUDIO periods from the latest tick known to the grant of a port's register write that carries no tick of its own, by the
free counter (R18, R250): a free value. Log entry 101. -/
opaque Config.grantTick : Nat → Nat

/-- The loop's bandwidth over BW, from BW in 0.1 Hz: R344 leaves it between 0.9 and 1.1. Log entry 24. -/
opaque Config.loopTol : Nat → Rat

/-- The grade that rows of MAP_SET give a clockClass and clockAccuracy (R331, R476): the rows' format is not given. Log entry 97. -/
opaque Config.mapGrade : List Word → Nat → Nat → Nat

/-- EPOCH PER while STEPPED = 1, or before 64 blocks have been recorded (R355: not valid): of the boundary's SCTR. Log
entry 25. -/
opaque Config.epochPer : Nat → Word

/-- The numbers the half-duplex backoff draws (R373 names a 32-bit pseudo-random generator seeded from the station
address): of the address and the count of numbers drawn. Log entry 26. -/
opaque Config.backoffDraw : Nat → Nat → Nat

/-- The IPv4 source address of stream packets (R384 gives none): of the MAC. Log entry 27. -/
opaque Config.sourceIp : Nat → Word

/-- The bytes of a message on the cascade's control channel (R396, R407 give their number and no format). Log entry 40. -/
opaque Config.msgBytes : CscMsg → List Byte

/-- LAN_EQ: the equaliser settings a Trunk receiver has adapted to (R390, R414 give no values): of the lane and the
free-value counter. Log entry 41. -/
opaque Config.laneEq : Nat → Nat → Word

/-- CUS_WAKECNT where PTP begins to run after a wake (R429): a time that no command carries; of the free-value counter. Log entry
42. -/
opaque Config.wakeCount : Nat → Word

/-- The CRC-8 of a time mark's SCTR (R423 names no polynomial). Log entry 108. -/
opaque Config.crc8 : Nat → Nat

/-- The SHA-256 of the public key that is fused in one-time-programmable memory (R432). Log entry 43. -/
opaque Config.keyHash : List Byte

/-- The worst-case delivery instant, in core cycles from the release, of the inputs of a task (R175: fixed for the configuration;
no formula): of the parameters, the cycles of the Abacus page, the core and the task. Log entry 93. -/
opaque Config.tallyDelivery : List (Nat × Word) → Nat → Nat → Nat → Nat

/-- The real coefficients b0, b1, b2, a1, a2 of the section of an EQ band and of section `j` of a high-pass filter (06 names the
bilinear transform, R476 the parameters, and neither a prototype): of TYPE or order and `j`, frequency in Hz, gain in dB, Q
and domain. Log entry 47. -/
opaque Config.eqCoef : Nat → Rat → Rat → Rat → Nat → List Rat
opaque Config.hpfCoef : Nat → Nat → Rat → Nat → List Rat

/-- LOOKAHEAD of the output limiter that a task of a core runs, 24 by default (R227 gives no place in the parameter block): of the LIVE
parameters, the core and the task. Log entry 93. -/
opaque Config.lookahead : List (Nat × Word) → Nat → Nat → Nat

/-- Where a delay buffer begins to turn, by its first byte address (R69 and R79 fix the buffer alone). Log entry 14. -/
opaque Config.delayStart : Nat → Nat

/-- A word of the cascade's frame buffers (R402 gives their places and not which buffer holds which frame): of its address and the
free-value counter. Log entry 14. -/
opaque Config.cscBuffer : Nat → Nat → Word

/-- The sample of the block in which a bus operation reads SCTR (R42): of the free-value counter. Log entry 90. -/
opaque Config.audioPos : Nat → Nat

/-- A decoded sample of a stored message (R486; the manual gives no format of stored messages): of the message and the
position. Log entry 48. -/
opaque Config.msgSample : Nat → Nat → Int

/-- How long the first 2 s of a message take to be staged, in samples (R486: at most 30 ms): of the message and SCTR. Log
entry 49. -/
opaque Config.stageTime : Nat → Nat → Nat

/-- How an RSV parameter's word is read as a number, and the word that reports a default or a figure (R323, R476 give no
formats): of the parameter or result number. Log entry 50. -/
opaque Config.rsvNum : Nat → Word → Rat
opaque Config.rsvWord : Nat → Word
opaque Config.rsvReport : Nat → Option Rat → Word

/-- The charge of a rest voltage in mV beyond the ends of the table, in 0.01 Ah (R314 states none). Log entry 50. -/
opaque Config.tableBeyond : Rat → Rat

/-- The rail-sense attenuation of a bank (R261: the board's own). Log entry 51. -/
opaque Config.railAtten : Nat → Rat

/-- Which word of a limiter's parameter block holds its ceiling, and the word that lies a level in dB below a ceiling (R320,
R322; the manual gives no layout). Log entry 52. -/
opaque Config.ceilWord : Nat
opaque Config.ceilDown : Word → Rat → Word

/-- The die revisions as SYS IDENT codes them, and the layouts of the alarm summary word and of the answer of ALARM STATUS
(R476 gives none): of plans (word, active, silenced) and faults (code, payload, acknowledged). Log entry 53. -/
opaque Config.dieRevs : Word
opaque Config.alarmSummary : List (Nat × Bool × Bool) → Word
opaque Config.alarmStatus : List (Nat × Bool × Bool) → List (Nat × Nat × Bool) → List Word

end Sys2Proof
end

