-- ==== Sys2Proof/Machine/Custody.lean ====
section
/-!
DEFINITION. Custody (R417 to R430), first part: control lines and their hold latches, giving up, the seal, and releasing
the pins.
-/

namespace Sys2Proof.Machine

open Sys2Proof

/-! ## Control lines and hold latches (R305, R418, R420) -/

/-- The level bit of CTL_OUT`k` in a register pair. -/
def State.ctlBit (s : State) (a k : Nat) : Bool := s.bitN (a + 4 * (k / 32)) (k % 32)

/-- The level software and the latch ask for: a pulse's ACT level, the LEVEL bit, or, on a line with HOLD = 1, the latch
until the first write after a reset other than POR (R305, R555). -/
def State.ctlWant (s : State) (k : Nat) : Bool :=
  if s.mon.ctl.pulse.testBit k then s.ctlBit 0x10160010 k
  else if s.mon.ctl.written.testBit (k / 32) then s.ctlBit 0x10160000 k
  else if !s.mon.ctl.kept || !s.ctlBit 0x100F000C k then s.ctlBit 0x10160000 k
  else if k < 32 then s.mon.ctl.latch.1.getLsbD k else s.mon.ctl.latch.2.getLsbD (k - 32)

/-- The level a line is driven to; none where it is high-impedance (R305, R418). In a give-up hold,
and while the latches hold after it, lines with HOLD = 1 keep their level and the others are released (R420). -/
def State.ctlDriven (s : State) (k : Nat) : Option Bool :=
  if s.cus.own = 3 ∨ s.cus.latch then
    (if s.ctlBit 0x100F000C k then
      some (if k < 32 then s.mon.ctl.latch.1.getLsbD k else s.mon.ctl.latch.2.getLsbD (k - 32)) else none)
  else if s.cus.own ≠ 2 then none
  else if s.ctlBit 0x10160008 k && s.ctlWant k then none else some (s.ctlWant k)

/-- The level that the weak keeper of a line holds (R418): the last one, while this device has let it go and its partner does not
drive it. -/
def State.ctlKept (s : State) (k : Nat) : Option Bool :=
  if (s.cus.own = 3 ∨ s.cus.latch) ∧ s.cus.partner < 2 then
    some (if k < 32 then s.mon.ctl.latch.1.getLsbD k else s.mon.ctl.latch.2.getLsbD (k - 32))
  else none

/-- The level at the pin of a line: as driven, as its keeper holds it, or as something outside drives it. -/
def State.ctlPin (s : State) (k : Nat) : Bool :=
  (s.ctlDriven k).getD ((s.ctlKept k).getD (Config.padLevel k s.freeCtr))

/-- The pin levels of a half. -/
def State.ctlPins (s : State) (half : Nat) : Word :=
  bitsW ((List.range 32).filter (fun k => s.ctlPin (32 * half + k)))

/-- The hold latches take the pin levels (R305). -/
def ctlLatch (s : State) : State :=
  { s with mon := { s.mon with ctl := { s.mon.ctl with latch := (s.ctlPins 0, s.ctlPins 1) } } }

/-- The latches of lines that they do not hold follow the pins continuously (R305). -/
def ctlFollow (s : State) : State := if s.cus.own = 3 ∨ s.cus.latch then s else (ctlLatch s).tickFree

/-! ## Giving up (R420, R421) -/

def State.withCus (s : State) (x : Custody) : State := { s with cus := x }

/-- The seal (R421): CAUSE, the last completed boundary, and each channel's state and w. -/
def State.sealNow (s : State) (cause fwcode : Nat) : Seal :=
  { cause := cause, fwcode := fwcode, sctr := s.sctr, tb := s.tbs.epochTb,
    bridges := s.mod.ch.map (fun e => (e.1, e.2.st, e.2.w)) }

/-- The VAULT island writes the seal of its own ROLE, then releases the escrow port. -/
def writeSeal (z : Seal) (s : State) : State :=
  let e := if s.cus.roleB then { s.esc with sealB := some z } else { s.esc with sealA := some z }
  { s with esc := e, cus := { s.cus with escDrive := false } }

/-- Windows in a give-up: requests in flight are neither answered nor journaled. -/
def dropRequests (s : State) : State :=
  let quiet : Nat × Window → Nat × Window := fun w =>
    (w.1, { w.2 with owed := [],
                     work := [] })
  { s with zk := { s.zk with
    remote := [], change := none, aside := none, parts := [], tree := none, windows := s.zk.windows.map quiet } }

/-- Master ports stop when XO_IN is lost (R420). -/
def stopMasters (s : State) : State :=
  { s with ports := { s.ports with port := s.ports.port.map (fun e =>
      (e.1, if s.bitN (0x10060000 + 0x80 * e.1) 0 then { e.2 with st := .off, ending := false, inFrame := false, held := [], dout := [], doutPrev := none } else e.2)) } }

/-- Masters stop in a give-up for cause 6. -/
def mastersAfter (cause : Nat) (s : State) : State := if cause = 6 then stopMasters s else s

/-- Give up with a cause (R420): a seated device shows 11, its hold latches take the control lines, its outputs carry
zeros, and it writes its seal (R421). -/
def giveUp (cause fwcode : Nat) (s : State) : State :=
  if s.cus.own = 2 then
    let s := ctlLatch s
    let x := s.sealNow cause fwcode
    let s := s.withCus { s.cus with own := 3, cause := cause, fwcode := fwcode,
                                    giveUps := incHold 0xFFFF s.cus.giveUps, latch := true, guard := false }
    let s := dropRequests (writeSeal x s)
    let s := { s with engine := { s.engine with tx := [], txPrev := [] } }
    mastersAfter cause s
  else s

/-- A device without VDD_CORE, VDD_MINT or VDDIO5 releases CUSO to 00 (R543): no seal, and its latches keep the HOLD = 1
lines. -/
def loseCustody (s : State) : State :=
  if s.cus.own = 2 ∨ s.cus.own = 3 then
    let s := if s.cus.own = 2 then ctlLatch s else s
    dropRequests (s.withCus { s.cus with own := 0, latch := true, escDrive := false, guard := false })
  else s.withCus { s.cus with own := 0, guard := false, yielding := false, escDrive := false }

/-! ## Reset (R549) and the way to Vault -/

def State.withPwr (s : State) (p : Power) : State := { s with pwr := p }

/-- Registers that every reset but POR keeps: CUS and PWR (R429, R557). -/
def vaultRegs (rs : Tbl Word) : Tbl Word :=
  rs.filter (fun e => decide ((0x100F0000 ≤ e.1 ∧ e.1 < 0x10100000) ∨ (0x10150000 ≤ e.1 ∧ e.1 < 0x10160000)))

/-- What lies outside the device: main flash and escrow memory. -/
def outsideMem (m : Tbl Byte) : Tbl Byte := m.filter (fun e => decide (0xC0000000 ≤ e.1))

/-- Zekor after a reset: nothing but what main flash holds. -/
def zkReset (z : Zekor) : Zekor := { scenes := z.scenes, messages := z.messages, images := z.images, nodeCfg := z.nodeCfg }

/-- All islands but VAULT are reset: a seated device loses custody, and its hold latches keep their lines. -/
def deviceReset (s : State) : State :=
  let s := loseCustody s
  { State.reset with
    pending := s.pending, mem := outsideMem s.mem, regs := vaultRegs s.regs, freeCtr := s.freeCtr + 1,
    cus := { s.cus with guard := false, yielding := false, ready := false,
                        wakeAt := s.cus.wakeAt.map (fun _ => (s.freeCtr, 0)), tmSent := none },
    mon := { State.reset.mon with ctl := { State.reset.mon.ctl with latch := s.mon.ctl.latch, kept := true } },
    zk := zkReset s.zk, esc := s.esc,
    pwr := { s.pwr with step := 0, cold := false, start := {}, resume := false, stFail := 0, dlWords := [], dlState := 0, dlOut := 0 } }

/-- The device goes to Vault: everything else is held in reset, its MACs and lanes with it (R420), and SUPEN falls. -/
def toVault (s : State) : State :=
  let t := deviceReset s
  t.withPwr { t.pwr with phase := .entering, wakeSeen := none }

/-- A device that shows 11 while its partner shows 01 releases its pins: 00, and Vault (R419). A give-up that finds the partner at 01
releases at the end of its command, and one inside a core or the engine at the end of the next scan or boundary. -/
def letGo (s : State) : State :=
  if s.cus.own = 3 ∧ s.cus.partner = 1 then toVault (s.withCus { s.cus with own := 0, latch := false }) else s

end Sys2Proof.Machine
end

