-- ==== Sys2Proof/Machine/Queue.lean ====
section
/-!
DEFINITION. The hardware queues Q0 to Q127 (R533 to R536): enabling, pushing, popping and their flags.
-/

namespace Sys2Proof.Machine

open Sys2Proof

def queCfg (n : Nat) : Nat := 0x10110000 + 0x20 * n
def queThr (n : Nat) : Nat := 0x10110004 + 0x20 * n

def State.queEn (s : State) (n : Nat) : Bool := s.bitN (queCfg n) 0
/-- Entry size in bytes: 16, 32 or 64. -/
def State.queEsize (s : State) (n : Nat) : Nat := 16 * 2 ^ s.fldN (queCfg n) 1 2
def State.queLogd (s : State) (n : Nat) : Nat := s.fldN (queCfg n) 3 5
def State.queDepth (s : State) (n : Nat) : Nat := 2 ^ s.queLogd n
def State.queRing (s : State) (n : Nat) : Nat := 0x03000000 + 64 * s.fldN (queCfg n) 8 17
/-- Byte address of entry `i` of the ring. -/
def State.queEntry (s : State) (n i : Nat) : Nat := s.queRing n + i * s.queEsize n

/-- R533: whether the staged configuration may be enabled. ESIZE = 3 is reserved and refused in the same way. -/
def State.queCfgOk (s : State) (n : Nat) : Bool :=
  decide (4 ≤ s.queLogd n ∧ s.queLogd n ≤ 16 ∧ s.fldN (queCfg n) 1 2 ≠ 3 ∧
    s.queRing n + s.queDepth n * s.queEsize n ≤ 0x03800000)

/-- Enable a queue (R533). -/
def queueEnable (n : Nat) (s : State) : State :=
  if s.queEn n then s
  else if s.queCfgOk n then
    (s.setFldN (queCfg n) 0 1 1).setQueue n { s.queue n with cfgErr := false }
  else s.setQueue n { s.queue n with cfgErr := true }

/-- Disable a queue: COUNT and both indices clear (R533). -/
def queueDisable (n : Nat) (s : State) : State :=
  (s.setFldN (queCfg n) 0 1 0).setQueue n { s.queue n with count := 0, rd := 0, wr := 0 }

/-- A write to QUE_Q_CFG: while EN = 1 only the EN bit is looked at; with EN = 0 the fields are staged and EN = 1
enables. -/
def queueCfgWrite (n : Nat) (v : Word) (s : State) : State :=
  if s.queEn n then (if v.bit 0 then s else queueDisable n s)
  else
    let t := s.setReg (queCfg n) (mergeMask 0 (v.setBit 0 false) 0x01FFFFFF)
    if v.bit 0 then queueEnable n t else t

/-- The cores whose TLY_QSEL names the queue with condition `cond` (0 NONEMPTY, 1 THRESH) get source 1 (R164). Called as a push
brings the condition about; a write of TLY_QSEL raises nothing (log entry 105). -/
def queueIrq (n cond : Nat) (s : State) : State :=
  (List.range 64).foldl (fun t k =>
    let a := 0x10040010 + 0x100 * k
    if t.bitN a 31 && t.fldN a 0 7 == n && t.fldN a 7 1 == cond then t.tallyIrq k 1 else t) s

/-- The flags a push sets: the push finds `count` entries (R536). -/
def pushFlags (count thr depth : Nat) : Word :=
  bitsW ((if count = 0 then [0] else []) ++ (if count + 1 = depth then [1] else []) ++
    (if count + 1 = thr then [3] else []))

/-- Push one entry (R534 to R536); words beyond ESIZE are ignored, missing ones are zeros (R206). -/
def queuePush (n : Nat) (ws : List Word) (s : State) : State :=
  if !s.queEn n then s
  else
    let q := s.queue n
    let depth := s.queDepth n
    if depth ≤ q.count then
      let t := s.setQueue n { q with flags := q.flags ||| 4, ovf := incHold 0xFFFF q.ovf, ovfArmed := false }
      t.raiseIf q.ovfArmed 0x0807 n
    else
      let k := s.queEsize n / 4
      let entry := (ws ++ List.replicate k 0).take k
      let thr := s.fldN (queThr n) 0 17
      let f := pushFlags q.count thr depth
      let t := (s.putWords (s.queEntry n q.wr) entry).setQueue n
        { q with count := q.count + 1, wr := (q.wr + 1) % depth, flags := q.flags ||| f }
      let t := if f.bit 0 then queueIrq n 0 t else t
      if f.bit 3 then queueIrq n 1 t else t

/-- Consume `k` entries: a pop of more than COUNT pops COUNT (R534). -/
def queuePop (n k : Nat) (s : State) : State :=
  let q := s.queue n
  let m := min k q.count
  s.setQueue n { q with count := q.count - m, rd := (q.rd + m) % s.queDepth n }

/-- The words of the oldest entry. -/
def State.queHead (s : State) (n : Nat) : List Word := s.words (s.queEntry n (s.queue n).rd) (s.queEsize n / 4)

/-- A hardware consumer takes the oldest entry: none where the queue is empty, or where the entry holds an
uncorrectable error and is discarded; the pop advances all the same (R517). -/
def queueTake (n : Nat) (s : State) : State × Option (List Word) :=
  if (s.queue n).count = 0 then (s, none)
  else
    let base := s.queEntry n (s.queue n).rd
    let addrs := (List.range (s.queEsize n / 8)).map (fun k => base + 8 * k)
    let bad := addrs.any s.eccBad
    let t := queuePop n 1 (addrs.foldl State.eccRead s)
    (t, if bad then none else some (s.queHead n))

/-- OVF.CLR: clear the drop count and re-arm event 0x0807 (R535). -/
def queueOvfClr (n : Nat) (s : State) : State := s.setQueue n { s.queue n with ovf := 0, ovfArmed := true }

/-- A write of QUE_PGO by an initiator pushes what it staged (R534). -/
def keyPsel : Nat := 0x10112000
def queueGo (i : Init) (s : State) : State :=
  let n := (s.iniReg keyPsel i).fld 0 7
  queuePush n ((List.range 16).map (fun k => s.iniReg (0x10112040 + 4 * k) i)) s

/-- Reads of the QUE registers. -/
def queueRead (i : Init) (a : Nat) (s : State) : Word :=
  if 0x10112000 ≤ a then
    (if a = 0x10112000 ∨ (0x10112040 ≤ a ∧ a < 0x10112080) then s.iniReg a i else 0)
  else if 0x10111000 ≤ a then 0
  else
    let n := (a - 0x10110000) / 0x20
    let q := s.queue n
    match (a % 0x20) / 4 with
    | 0 => (s.reg a).setBit 31 q.cfgErr
    | 1 => s.reg a
    | 2 => q.flags
    | 3 => Word.ofNat q.count
    | 4 => Word.ofNat q.rd
    | 5 => Word.ofNat q.wr
    | 7 => Word.ofNat q.ovf
    | _ => 0

/-- Writes of the QUE registers. -/
def queueWrite (i : Init) (a : Nat) (v : Word) (s : State) : State :=
  if 0x10112000 ≤ a then
    (if a = 0x10112004 then (if v.bit 0 then queueGo i s else s)
     else if a = 0x10112000 then s.setIniReg a i (v &&& 0x7F)
     else if 0x10112040 ≤ a ∧ a < 0x10112080 then s.setIniReg a i v
     else s)
  else if 0x10111000 ≤ a then s
  else
    let n := (a - 0x10110000) / 0x20
    let q := s.queue n
    match (a % 0x20) / 4 with
    | 0 => queueCfgWrite n v s
    | 1 => s.writeRW a v
    | 2 => s.setQueue n { q with flags := q.flags &&& ~~~v }
    | 6 => queuePop n (v.fld 0 17) s
    | 7 => if v.bit 31 then queueOvfClr n s else s
    | _ => s

/-! ## The commands -/

/-- QUEUE_ENABLE: enabling is accepted, or refused with CFGERR (R533). -/
def execQueueEnable (n : Fin 128) (s : State) : Res := .next (queueEnable n.val s)

/-- QUEUE_PUSH (R534 to R536). -/
def execQueuePush (n : Fin 128) (words : List Word) (s : State) : Res := .next (queuePush n.val words s)

/-- QUEUE_POP: an uncorrectable error in the entry a hardware consumer reads does not stop the pop (R517). -/
def execQueuePop (n : Fin 128) (k : Nat) (s : State) : Res := .next (queuePop n.val k s)

/-- QUEUE_OVF_CLR (R535). -/
def execQueueOvfClr (n : Fin 128) (s : State) : Res := .next (queueOvfClr n.val s)

end Sys2Proof.Machine
end

