-- ==== Sys2Proof/WellFormed.lean ====
section
/-!
DEFINITION. Which commands are well formed. Operand types already bound every unit number; what is left are the
register groups and codes of the Tally instructions (R186).
-/

namespace Sys2Proof

/-- A register number that names the first of an aligned group of four. -/
def quadReg (r : BitVec 5) : Bool := r.toNat % 4 == 0

/-- A command is well formed: the conditions of R186 on an instruction's fields. An instruction that breaks them is
an undefined word, and running it is what UNDEFINED_INSTRUCTION is. -/
def Instr.wf : Instr → Bool
  | .ldq _ rq _ => quadReg rq
  | .stq _ rq _ => quadReg rq
  | .wrp _ kind _ _ => kind != 3
  | .rdp _ _ kind _ => kind != 3
  | .qmac _ aa dx dy bc _ _ => (aa == 0 || aa == 4) && quadReg dx && (bc || quadReg dy)
  | .amv _ _ dx clr sh => !clr || (dx == 0 && sh == 0)
  | .expx _ _ rs x => !x || rs.toNat < 8
  | .norm _ rd _ re => rd != re
  | .bexp _ _ rq => quadReg rq
  | .b _ cond _ => cond != 15
  | .rep _ fromReg len count => len != 0 && (!fromReg || count.toNat < 32)
  | .qput _ rq _ => quadReg rq
  | _ => true

end Sys2Proof
end

