-- ==== Sys2Proof/Machine/TallyCode.lean ====
section
/-!
DEFINITION. The words of the Tally instruction set (R185 to R187): the decoder from a word to an instruction of a
core, and the encoder. Fields that no rule constrains are not looked at; fields a rule calls reserved or 0 must be 0.
-/

namespace Sys2Proof.Machine

open Sys2Proof

/-- Bits `[lo + n - 1 : lo]` of a word. -/
def wf' (w : Word) (lo n : Nat) : BitVec n := w.extractLsb' lo n

/-- The R-format fields after OP, where X and the reserved bits are 0. -/
def rFmt (w : Word) : Option (BitVec 5 × BitVec 5 × BitVec 5) :=
  if wf' w 0 11 = 0 then some (wf' w 21 5, wf' w 16 5, wf' w 11 5) else none

/-- A three-register instruction. -/
def dec3 (w : Word) (f : BitVec 5 → BitVec 5 → BitVec 5 → Instr) : Option Instr :=
  (rFmt w).map (fun r => f r.1 r.2.1 r.2.2)

/-- A register, register, immediate instruction. -/
def decI (w : Word) (f : BitVec 5 → BitVec 5 → BitVec 16 → Instr) : Option Instr :=
  some (f (wf' w 21 5) (wf' w 16 5) (wf' w 0 16))

/-- A shift by an immediate: IMM[15:5] must be 0. -/
def decSh (w : Word) (f : BitVec 5 → BitVec 5 → BitVec 5 → Instr) : Option Instr :=
  if wf' w 5 11 = 0 then some (f (wf' w 21 5) (wf' w 16 5) (wf' w 0 5)) else none

/-- The M-format fields; KIND = 3 is undefined. -/
def decM (w : Word) (f : BitVec 5 → BitVec 3 → BitVec 2 → BitVec 16 → Option Instr) : Option Instr :=
  if wf' w 16 2 = 3 then none else f (wf' w 21 5) (wf' w 18 3) (wf' w 16 2) (wf' w 0 16)

/-- The A-format fields; bits [2:0] are reserved. -/
def decA (w : Word) (f : BitVec 3 → BitVec 5 → BitVec 5 → Option Instr) : Option Instr :=
  if wf' w 0 3 = 0 then f (wf' w 23 3) (wf' w 18 5) (wf' w 13 5) else none

/-- Keep an instruction only under a condition. -/
def whenOk (b : Bool) (i : Instr) : Option Instr := if b then some i else none

/-- The OP, mnemonic and fields of the opcode table, before the conditions of `Instr.wf`. -/
def tallyDecodeRaw (k : Fin 64) (w : Word) : Option Instr :=
  let bc := w.getLsbD 12
  let clr := w.getLsbD 11
  let neg := w.getLsbD 10
  let sat := w.getLsbD 9
  let sh := wf' w 3 6
  match (wf' w 26 6).toNat with
  | 0x00 => whenOk (w == 0) (.nop k)
  | 0x01 => dec3 w (.add k)
  | 0x02 => dec3 w (.sub k)
  | 0x03 => dec3 w (.and k)
  | 0x04 => dec3 w (.or k)
  | 0x05 => dec3 w (.xor k)
  | 0x06 => dec3 w (.shl k)
  | 0x07 => dec3 w (.shr k)
  | 0x08 => dec3 w (.asr k)
  | 0x09 => dec3 w (.min k)
  | 0x0A => dec3 w (.max k)
  | 0x0B => dec3 w (.adds k)
  | 0x0C => dec3 w (.subs k)
  | 0x0D => (rFmt w).bind (fun r => whenOk (r.1 == 0) (.cmp k r.2.1 r.2.2))
  | 0x0E => (rFmt w).bind (fun r => whenOk (r.2.2 == 0) (.abs k r.1 r.2.1))
  | 0x0F => whenOk (wf' w 21 5 == 0) (.cmpi k (wf' w 16 5) (wf' w 0 16))
  | 0x10 => decI w (.addi k)
  | 0x11 => decI w (.andi k)
  | 0x12 => decI w (.ori k)
  | 0x13 => whenOk (wf' w 16 5 == 0) (.lui k (wf' w 21 5) (wf' w 0 16))
  | 0x14 => decSh w (.shli k)
  | 0x15 => decSh w (.shri k)
  | 0x16 => decSh w (.asri k)
  | 0x17 => whenOk (wf' w 16 5 == 0) (.movi k (wf' w 21 5) (wf' w 0 16))
  | 0x18 => decM w (fun d p _ off => whenOk (off == 0) (.ldPost k d p))
  | 0x19 => decM w (fun d p _ off => some (.ldOffset k d p off))
  | 0x1A => decM w (fun d p _ off => whenOk (off == 0) (.stPost k d p))
  | 0x1B => decM w (fun d p _ off => some (.stOffset k d p off))
  | 0x1C => decM w (fun d p _ _ => some (.ldq k d p))
  | 0x1D => decM w (fun d p _ _ => some (.stq k d p))
  | 0x20 => decM w (fun d p kind _ => some (.wrp k kind p d))
  | 0x21 => decM w (fun d p kind _ => some (.rdp k d kind p))
  | 0x22 => decM w (fun _ p _ off => some (.addp k p off))
  | 0x23 => some (.rds k (wf' w 21 5) (wf' w 0 2))
  | 0x24 => some (.wrs k (wf' w 16 5))
  | 0x28 => decA w (fun a x y => whenOk (!bc && !sat && sh == 0)
      (match clr, neg with
       | false, false => .mac k a x y
       | false, true => .msu k a x y
       | true, false => .mpy k a x y
       | true, true => .mpyn k a x y))
  | 0x29 => decA w (fun a x y => some (.qmac k a x y bc clr neg))
  | 0x2A => decA w (fun a x _ => some (.amv k a x clr sh))
  | 0x2B => decA w (fun a x _ => whenOk (x.toNat < 8) (.aadd k a (x.setWidth 3)))
  | 0x2C => decA w (fun a x _ => whenOk (!bc && !clr && !neg) (.ext k x a sh sat))
  | 0x2D => decA w (fun a x y => some (.extv k x a y sat))
  | 0x30 => decA w (fun a x _ => whenOk (!bc && !clr && !sat && sh == 0) (.tapmv k a x neg))
  | 0x31 => whenOk (wf' w 0 10 == 0) (.expx k (wf' w 21 5) (wf' w 16 5) (w.getLsbD 10))
  | 0x32 => dec3 w (.norm k)
  | 0x33 => (rFmt w).map (fun r => .bexp k r.1 r.2.1)
  | 0x38 => whenOk (wf' w 13 9 == 0) (.b k (wf' w 22 4) (wf' w 0 13))
  | 0x39 => whenOk (wf' w 13 13 == 0) (.call k (wf' w 0 13))
  | 0x3A => whenOk (wf' w 0 26 == 0) (.ret k)
  | 0x3B => whenOk (wf' w 16 2 == 0) (.rep k (w.getLsbD 25) (wf' w 18 7) (wf' w 0 16))
  | 0x3C => whenOk (wf' w 0 26 == 0) (.rti k)
  | 0x3D => whenOk (wf' w 0 26 == 0) (.tend k)
  | 0x3E => whenOk (wf' w 0 14 == 0) (.qput k (wf' w 21 5) (wf' w 14 7))
  | _ => none

/-- The instruction a word spells for core `k`; none where the word is undefined (R186). -/
def tallyDecode (k : Fin 64) (w : Word) : Option Instr :=
  match tallyDecodeRaw k w with
  | some i => if i.wf then some i else none
  | none => none

/-- A word from its fields: (place, value). -/
def encW (op : Nat) (fs : List (Nat × Nat)) : Word :=
  Word.ofNat (fs.foldl (fun acc f => acc + f.2 * 2 ^ f.1) (op * 2 ^ 26))

def enc3 (op : Nat) (rd rs rt : BitVec 5) : Option Word :=
  some (encW op [(21, rd.toNat), (16, rs.toNat), (11, rt.toNat)])

def encI (op : Nat) (rd rs : BitVec 5) (imm : Nat) : Option Word :=
  some (encW op [(21, rd.toNat), (16, rs.toNat), (0, imm)])

def encM (op : Nat) (rd : Nat) (p : BitVec 3) (kind off : Nat) : Option Word :=
  some (encW op [(21, rd), (18, p.toNat), (16, kind), (0, off)])

def encA (op : Nat) (aa : BitVec 3) (dx dy : Nat) (bc clr neg sat : Bool) (sh : Nat) : Option Word :=
  some (encW op [(23, aa.toNat), (18, dx), (13, dy), (12, bc.toNat), (11, clr.toNat), (10, neg.toNat),
    (9, sat.toNat), (3, sh)])

/-- The word of a Tally instruction; none for a command that is no instruction. -/
def tallyEncode : Instr → Option Word
  | .nop _ => some 0
  | .add _ d a b => enc3 0x01 d a b
  | .sub _ d a b => enc3 0x02 d a b
  | .and _ d a b => enc3 0x03 d a b
  | .or _ d a b => enc3 0x04 d a b
  | .xor _ d a b => enc3 0x05 d a b
  | .shl _ d a b => enc3 0x06 d a b
  | .shr _ d a b => enc3 0x07 d a b
  | .asr _ d a b => enc3 0x08 d a b
  | .min _ d a b => enc3 0x09 d a b
  | .max _ d a b => enc3 0x0A d a b
  | .adds _ d a b => enc3 0x0B d a b
  | .subs _ d a b => enc3 0x0C d a b
  | .cmp _ a b => enc3 0x0D 0 a b
  | .abs _ d a => enc3 0x0E d a 0
  | .cmpi _ a i => encI 0x0F 0 a i.toNat
  | .addi _ d a i => encI 0x10 d a i.toNat
  | .andi _ d a i => encI 0x11 d a i.toNat
  | .ori _ d a i => encI 0x12 d a i.toNat
  | .lui _ d i => encI 0x13 d 0 i.toNat
  | .shli _ d a n => encI 0x14 d a n.toNat
  | .shri _ d a n => encI 0x15 d a n.toNat
  | .asri _ d a n => encI 0x16 d a n.toNat
  | .movi _ d i => encI 0x17 d 0 i.toNat
  | .ldPost _ d p => encM 0x18 d.toNat p 0 0
  | .ldOffset _ d p off => encM 0x19 d.toNat p 0 off.toNat
  | .stPost _ d p => encM 0x1A d.toNat p 0 0
  | .stOffset _ d p off => encM 0x1B d.toNat p 0 off.toNat
  | .ldq _ d p => encM 0x1C d.toNat p 0 0
  | .stq _ d p => encM 0x1D d.toNat p 0 0
  | .wrp _ kind p d => encM 0x20 d.toNat p kind.toNat 0
  | .rdp _ d kind p => encM 0x21 d.toNat p kind.toNat 0
  | .addp _ p off => encM 0x22 0 p 0 off.toNat
  | .rds _ d sel => encI 0x23 d 0 sel.toNat
  | .wrs _ a => encI 0x24 0 a 0
  | .mac _ a x y => encA 0x28 a x.toNat y.toNat false false false false 0
  | .msu _ a x y => encA 0x28 a x.toNat y.toNat false false true false 0
  | .mpy _ a x y => encA 0x28 a x.toNat y.toNat false true false false 0
  | .mpyn _ a x y => encA 0x28 a x.toNat y.toNat false true true false 0
  | .qmac _ a x y bc clr neg => encA 0x29 a x.toNat y.toNat bc clr neg false 0
  | .amv _ a x clr sh => encA 0x2A a x.toNat 0 false clr false false sh.toNat
  | .aadd _ a b => encA 0x2B a b.toNat 0 false false false false 0
  | .ext _ d a sh sat => encA 0x2C a d.toNat 0 false false false sat sh.toNat
  | .extv _ d a y sat => encA 0x2D a d.toNat y.toNat false false false sat 0
  | .tapmv _ a x neg => encA 0x30 a x.toNat 0 false false neg false 0
  | .expx _ d a x => some (encW 0x31 [(21, d.toNat), (16, a.toNat), (10, x.toNat)])
  | .norm _ d a e => enc3 0x32 d a e
  | .bexp _ d q => enc3 0x33 d q 0
  | .b _ cond t => some (encW 0x38 [(22, cond.toNat), (0, t.toNat)])
  | .call _ t => some (encW 0x39 [(0, t.toNat)])
  | .ret _ => some (encW 0x3A [])
  | .rep _ f len count => some (encW 0x3B [(25, f.toNat), (18, len.toNat), (0, count.toNat)])
  | .rti _ => some (encW 0x3C [])
  | .tend _ => some (encW 0x3D [])
  | .qput _ d q => some (encW 0x3E [(21, d.toNat), (14, q.toNat)])
  | _ => none

end Sys2Proof.Machine
end

