-- ==== Sys2Proof/Machine/Tally.lean ====
section
/-!
DEFINITION. The Tally cores' architecture (R155 to R183, R574): banks, results in flight, memory, the issue of one
instruction, tasks, faults, interrupts, release and completion marks.
-/

namespace Sys2Proof.Machine

open Sys2Proof

/-! ## Addresses -/

/-- Ledger-die base of core `k`'s memory (R156). -/
def coreBase (k : Nat) : Nat := 0x02400000 + k * 0x20000

/-- The fabric address of a core data address. -/
def coreAddr (k ca : Nat) : Nat := coreBase k + 0x8000 + ca

def tlyReg (k off : Nat) : Nat := 0x10040000 + 0x100 * k + off

/-- TLY_CTL.IEN. -/
def State.ien (s : State) (k : Nat) : Nat := s.fldN (tlyReg k 0) 4 4

/-- TLY_IRQMAX; 0 acts as 1. -/
def State.irqMax (s : State) (k : Nat) : Nat := max 1 (s.fldN (tlyReg k 0x18) 0 16)

/-- Descriptor words of a task (R168). -/
def State.descWord (s : State) (k t w : Nat) : Word := s.word (coreAddr k (0x14000 + 32 * t + 4 * w))
def State.taskEn (s : State) (k t : Nat) : Bool := (s.descWord k t 0).bit 31
def State.taskEntry (s : State) (k t : Nat) : Nat := (s.descWord k t 0).fld 0 13
def State.wcyc (s : State) (k t : Nat) : Nat := (s.descWord k t 1).fld 0 19

/-- Key of word `w` of instance entry `j` of core `k`, and of word `w` of its parameter block (R156, R169). -/
def keyInst (k j w : Nat) : Nat := keyTly (coreAddr k (0x14200 + 8 * j + 4 * w))
def keyParam (k j w : Nat) : Nat := keyTly (coreAddr k (0x14400 + 240 * j + 4 * w))

/-- The budget sum of a core (R175). -/
def State.budgetSum (s : State) (k : Nat) : Nat :=
  ((List.range 16).map (fun t => if s.taskEn k t then s.wcyc k t + 12 else 0)).sum
    + s.fldN (tlyReg k 0x18) 0 16 + 32

/-- A core's finish under the parameters `ps` and a page of so many cycles (R175): each task starts at the end of the one before or the delivery of its
inputs, the later, and ends WCYC + 12 cycles later. -/
def State.finish (s : State) (ps : Tbl Word) (cycles k : Nat) : Nat :=
  ((List.range 16).filter (s.taskEn k)).foldl (fun e t => max e (Config.tallyDelivery ps cycles k t) + s.wcyc k t + 12) 0
    + s.fldN (tlyReg k 0x18) 0 16 + 32

/-! ## Banks and results in flight (R159 to R162, R166) -/

def TBank.dr (b : TBank) (r : Nat) : Word := Tbl.getD b.d r 0
def TBank.ar (b : TBank) (r : Nat) : BitVec 72 := Tbl.getD b.a r 0
def TBank.pr (b : TBank) (r : Nat) : Word := Tbl.getD b.p r 0
def TBank.mr (b : TBank) (r : Nat) : Word := Tbl.getD b.m r 0
def TBank.lr (b : TBank) (r : Nat) : Nat := (Tbl.getD b.l r 0).toNat
def TBank.setD (b : TBank) (r : Nat) (v : Word) : TBank := { b with d := Tbl.set b.d r v 0 }
def TBank.setA (b : TBank) (r : Nat) (v : BitVec 72) : TBank := { b with a := Tbl.set b.a r v 0 }
def TBank.setP (b : TBank) (r : Nat) (v : Word) : TBank := { b with p := Tbl.set b.p r v 0 }

/-- Bits of the status word (R205). -/
def flagZ : Nat := 0
def flagN : Nat := 1
def flagC : Nat := 2
def flagV : Nat := 3
def flagAZ : Nat := 4
def flagAN : Nat := 5
def flagAV : Nat := 8
def flagSV : Nat := 9

/-- The true result of an addition lies outside 72 bits (R199). -/
def accOverflow (x : Int) : Bool := decide (x < -(2 ^ 71) ∨ 2 ^ 71 - 1 < x)

/-- The flags an accumulating instruction sets from its exact result (R199). -/
def accFlags (st : Word) (exact : Int) (lead : Bool) : Word :=
  let v := BitVec.ofInt 72 exact
  let st := if lead then (st.setBit flagAZ (v == 0)).setBit flagAN v.msb else st
  if accOverflow exact then st.setBit flagAV true else st

/-- Write one retiring result into its bank. -/
def TBank.apply (b : TBank) : TResult → TBank
  | .d r v => b.setD r v
  | .acc r v => b.setA r v
  | .flags mask v => { b with st := mergeMask b.st v mask }
  | .addend r v clr lead src =>
    let base : Int := if clr then 0 else (b.ar r).toInt
    let exact := base + v + (match src with | some q => (b.ar q).toInt | none => 0)
    { (b.setA r (BitVec.ofInt 72 exact)) with st := accFlags b.st exact lead }

/-- The bank of a core. -/
def TCore.bank (c : TCore) (shadow : Bool) : TBank := if shadow then c.shadow else c.main

def TCore.setBank (c : TCore) (shadow : Bool) (b : TBank) : TCore :=
  if shadow then { c with shadow := b } else { c with main := b }

/-- Whether the core is in the shadow bank. -/
def TCore.inShadow (c : TCore) : Bool := c.st == .handler

/-- Add a result in flight behind those readable no later: where two retire together, the later-issued one wins. -/
def flightInsert (f : TFlight) : List TFlight → List TFlight
  | [] => [f]
  | g :: t => if g.due ≤ f.due then g :: flightInsert f t else f :: g :: t

/-- Retire every result that is readable by cycle `upTo`, in order. -/
def retireList (upTo : Nat) : List TFlight → TCore → TCore
  | [], c => { c with flight := [] }
  | f :: t, c =>
    if f.due ≤ upTo then retireList upTo t (c.setBank f.shadow ((c.bank f.shadow).apply f.res))
    else { c with flight := f :: t }

/-- The core as an instruction issued in this cycle reads it (R161). -/
def TCore.retire (c : TCore) : TCore := retireList c.cyc c.flight c

/-- The core after every result in flight has retired. -/
def TCore.retireAll (c : TCore) : TCore :=
  retireList (c.flight.foldl (fun n f => max n f.due) c.cyc) c.flight c

/-! ## Errors of the core's memories (R158) -/

/-- The errors a data access meets: event 0x0C52 for data and exchange memory, give-up CAUSE 2 for the control store;
each is counted (R158, R516). -/
def coreEcc (k ca : Nat) (s : State) : State :=
  let a := coreAddr k ca
  let t := s.eccSeen a
  if !s.eccBad a then t
  else if ca < 0x14000 then (t.raise 0x0801 (a / 8 * 8)).raise 0x0C52 ca
  else giveUp 2 0 t

/-- The control-store words that a core reads outside its instructions, each with its errors (R158). -/
def storeRead (k : Nat) (cas : List Nat) (s : State) : State := cas.foldl (fun t ca => coreEcc k ca t) s

/-- Word addresses of the descriptors a core has read once it has found task `t`, or none, from `lo` on. -/
def descReads (lo : Nat) (found : Option Nat) : List Nat :=
  match found with
  | none => (List.range (16 - lo)).map (fun i => 0x14000 + 32 * (lo + i))
  | some t => (List.range (t - lo)).map (fun i => 0x14000 + 32 * (lo + i)) ++
      [0x14000 + 32 * t, 0x14004 + 32 * t, 0x14008 + 32 * t]

/-- Word addresses of word 0 of every instance entry. -/
def instReads : List Nat := (List.range 64).map (fun j => 0x14200 + 8 * j)

/-! ## Faults (R172, R574) -/

/-- The payload of event 0x0C50. -/
def faultPayload (k task cause : Nat) : Nat := k * 2 ^ 8 + task * 2 ^ 4 + cause

/-- Record a fault of a task and raise 0x0C50 for the first after a clear. -/
def recordFaultOf (task k cause : Nat) (irq : Bool) (s : State) : State :=
  let c := s.core k
  let t := s.setCore k { c with cause := cause, faultIrq := irq, faultTask := task,
                                faultCount := incHold 0x7FFF c.faultCount, faultArmed := false }
  t.raiseIf c.faultArmed 0x0C50 (faultPayload k task cause)

/-- Record a fault of the task last dispatched (R574). -/
def recordFault (k cause : Nat) (irq : Bool) (s : State) : State := recordFaultOf (s.core k).task k cause irq s

/-- The first enabled task at or after `t`. -/
def nextEnabled (k : Nat) (s : State) : Nat → Nat → Option Nat
  | 0, _ => none
  | fuel + 1, t => if 16 ≤ t then none else if s.taskEn k t then some t else nextEnabled k s fuel (t + 1)

/-- The task running or being dispatched, as TLY_STAT.TASK shows it. -/
def State.taskNow (s : State) (k : Nat) : Nat :=
  let c := s.core k
  if c.st == .dispatch || (c.st == .handler && c.back == .dispatch) then (nextEnabled k s 16 c.nextTask).getD c.task else c.task

/-- A core in DISPATCH with no enabled task left is done (R174). -/
def settleCore (k : Nat) (s : State) : State :=
  let c := s.core k
  if c.st == .dispatch && (nextEnabled k s 16 c.nextTask).isNone then
    storeRead k (descReads c.nextTask none) (s.setCore k { c with st := .waitRel, done := true, lastCyc := c.relCyc })
  else s

/-- End the running task: go on to the next descriptor. `ok` for TEND, else its instances deliver the fixed output. -/
def endTask (k : Nat) (ok : Bool) (s : State) : State :=
  let c := s.core k
  settleCore k (s.setCore k { c with
    st := .dispatch, delay := none, hold := false, nextTask := c.task + 1,
    main := { c.main with loopN := 0 },
    ended := if ok then c.ended ++ [c.task] else c.ended,
    fixedOut := if ok then c.fixedOut else c.fixedOut ++ [c.task] })

/-- A handler ends without RTI: the core switches to the main bank at IRET (R167, R574). -/
def leaveHandler (k : Nat) (clearIen : Bool) (s : State) : State :=
  let c := s.core k
  let t := s.setCore k { c with st := c.back, pc := c.iret, delay := none, hold := false, handCyc := 0,
                                shadow := { c.shadow with loopN := 0 } }
  let t := if clearIen then t.setFldN (tlyReg k 0) 4 4 0 else t
  settleCore k t

/-- A fault met by an instruction (causes 2 to 5): it ends the task, or the handler where the core is in one. -/
def instrFault (k cause : Nat) (s : State) : State :=
  if (s.core k).inShadow then leaveHandler k true (recordFault k cause true s)
  else endTask k false (recordFault k cause false s)

/-! ## Interrupts (R164 to R167) -/

/-- The lowest-numbered pending enabled source. -/
def lowestIrq (m : Nat) : Option Nat := (List.range 4).find? (fun i => m.testBit i)

/-- The source that is to be taken at this instruction boundary. -/
def irqDue (k : Nat) (s : State) : Option Nat :=
  let c := s.core k
  if (c.st == .run || c.st == .waitRel) && c.delay.isNone && !c.hold then lowestIrq (c.pend &&& s.ien k) else none

/-- The task in progress has reached its fence. -/
def fenceDue (k : Nat) (s : State) : Bool :=
  let c := s.core k
  (c.st == .run || (c.st == .handler && c.back == .run)) && s.wcyc k c.task ≤ c.taskCyc

/-- An RTI has issued and its delay slots are in progress. -/
def TCore.returning (c : TCore) : Bool := (c.delay.map (fun d => d.rti)).getD false

/-- The handler has run its limit without reaching RTI (R167). -/
def exitDue (k : Nat) (s : State) : Bool :=
  (s.core k).inShadow && !(s.core k).returning && s.irqMax k ≤ (s.core k).handCyc

/-- An instruction issues in this cycle: the core runs, and neither an interrupt, nor its fence, nor a forced exit
comes first. -/
def canIssue (k : Nat) (s : State) : Bool :=
  let c := s.core k
  (c.st == .run || c.st == .handler) && (irqDue k s).isNone && !fenceDue k s && !exitDue k s

/-! ## Pointers (R160) -/

/-- The smallest power of two not below `l`. -/
def ringSize (l : Nat) : Nat := if l ≤ 1 then 1 else 2 ^ (Nat.log2 (l - 1) + 1)

/-- The pointer after an update by `m` under circular length `l`. -/
def pointerNext (p : Word) (m : Int) (l : Nat) : Word :=
  if l = 0 then BitVec.ofInt 32 ((p.toNat : Int) + m)
  else
    let base : Int := ((p.toNat / ringSize l * ringSize l : Nat) : Int)
    let q := (p.toNat : Int) + m
    let q := if base + l ≤ q then q - l else q
    let q := if q < base then q + l else q
    BitVec.ofInt 32 q

/-- Post-modify pointer `i` by its M and L. -/
def TBank.postMod (b : TBank) (i : Nat) : TBank := b.setP i (pointerNext (b.pr i) (b.mr i).toInt (b.lr i))

/-! ## Core memory (R156 to R158) -/

/-- An access the core may not make: any at 0x1_8000 or above, a store to the control store. -/
def illegalAccess (ca : Nat) (store : Bool) : Bool := 0x18000 ≤ ca || (store && 0x14000 ≤ ca)

/-- Whether instance entry `j` of core `k` reads RESET = 1. -/
def State.instReset (s : State) (k j : Nat) : Bool := s.tly.resets.contains (64 * k + j)

/-- What a load of a legal word address reads: LIVE for the instance table and the parameter blocks. -/
def coreRead (k ca : Nat) (s : State) : Word :=
  if ca < 0x14200 then s.word (coreAddr k ca)
  else
    let w := s.enp (keyTly (coreAddr k ca))
    if ca < 0x14400 ∧ ca % 8 = 0 then w.setBit 30 (s.instReset k ((ca - 0x14200) / 8)) else w

/-- The word address an access uses: 17 bits, bits [1:0] ignored (R157, R189). -/
def accessAddr (p : Word) (off : Int) : Nat := (((p.toNat : Int) + off) % 2 ^ 17).toNat / 4 * 4

/-- A load meets an uncorrectable error in data or exchange memory. -/
def dataBad (k ca : Nat) (s : State) : Bool := ca < 0x14000 && s.eccBad (coreAddr k ca)

/-! ## Issuing one instruction -/

/-- What an instruction does at issue, beside memory: the current bank's immediate changes (pointers, loop), its
results in flight with their latency, and where the core goes. -/
inductive TGoto where
  /-- the next instruction in sequence, under delay slots and loops -/
  | seq
  /-- a control transfer: delay slots, then this word; `rti` also leaves the handler -/
  | jump (target : Nat) (rti : Bool)
  /-- skip a loop body of this length (REP with n = 0) -/
  | skip (len : Nat)
  deriving DecidableEq, Repr

structure TEffect where
  bank : TBank
  results : List (Nat × TResult) := []
  goto : TGoto := .seq

/-- A control instruction may not stand in a delay slot or a loop body; REP neither (R163, R193). -/
def illegalPlace (c : TCore) : Bool :=
  c.delay.isSome || (0 < (c.bank c.inShadow).loopN &&
    (c.bank c.inShadow).loopLo ≤ c.pc && c.pc ≤ (c.bank c.inShadow).loopHi)

/-- The next word in sequence (R184). -/
def pcNext (pc : Nat) : Nat := (pc + 1) % 8192

def TCore.atPc (c : TCore) (pc : Nat) : TCore := { c with pc := pc }
def TCore.withDelay (c : TCore) (d : Option TDelay) : TCore := { c with delay := d }
def TCore.withFlight (c : TCore) (fl : List TFlight) : TCore := { c with flight := fl }

/-- The core after the loop bookkeeping of a sequential instruction (R193). -/
def loopAdvance (c : TCore) : TCore :=
  let b := c.bank c.inShadow
  if b.loopN = 0 ∨ c.pc ≠ b.loopHi then c.atPc (pcNext c.pc)
  else if b.loopN = 1 then (c.setBank c.inShadow { b with loopN := 0 }).atPc (pcNext c.pc)
  else (c.setBank c.inShadow { b with loopN := b.loopN - 1 }).atPc b.loopLo

/-- The core after the second delay slot of an RTI (R165). -/
def TCore.returned (c : TCore) : TCore :=
  { c with pc := c.iret, delay := none, st := c.back, hold := c.back == .run, handCyc := 0 }

/-- The core after a delay slot (R163). -/
def delayAdvance (c : TCore) (d : TDelay) : TCore :=
  if 1 < d.left then (c.atPc (pcNext c.pc)).withDelay (some { d with left := d.left - 1 })
  else if d.rti then c.returned
  else (c.atPc d.target).withDelay none

/-- Where the core goes after an instruction. -/
def gotoNext (c : TCore) : TGoto → TCore
  | .jump target rti => (c.atPc (pcNext c.pc)).withDelay (some ⟨2, target, rti⟩)
  | .skip len => c.atPc ((c.pc + 1 + len) % 8192)
  | .seq =>
    match c.delay with
    | none => loopAdvance c
    | some d => delayAdvance c d

/-- Cycle counts advance by `n`; a main-bank instruction ends the hold of R165. -/
def TCore.ticks (c : TCore) (n : Nat) : TCore :=
  { c with cyc := c.cyc + n, relCyc := if c.done then c.relCyc else c.relCyc + n,
           taskCyc := if c.st == .run || c.back == .run && c.st == .handler then c.taskCyc + n else c.taskCyc,
           handCyc := if c.st == .handler then c.handCyc + n else c.handCyc,
           hold := c.hold && c.st == .handler }

/-- The list of results in flight with an instruction's own. -/
def launchOn (cyc : Nat) (sh : Bool) (rs : List (Nat × TResult)) (fl : List TFlight) : List TFlight :=
  rs.foldl (fun fl r => flightInsert ⟨cyc + r.1, sh, r.2⟩ fl) fl

/-- Put an instruction's results in flight. -/
def TCore.launch (c : TCore) (rs : List (Nat × TResult)) : TCore :=
  c.withFlight (launchOn c.cyc c.inShadow rs c.flight)

/-- The core after issuing an instruction with effect `e`. -/
def TCore.issue (c : TCore) (e : TEffect) : TCore :=
  gotoNext (((c.setBank c.inShadow e.bank).launch e.results).ticks 1) e.goto

/-- The state an instruction of core `k` reads: results due have retired, and a bad program word was seen. -/
def fetched (k : Nat) (s : State) : State :=
  let s := s.setCore k (s.core k).retire
  let a := coreBase k + 4 * (s.core k).pc
  let t := s.eccSeen a
  if s.eccBad a then giveUp 2 0 t else t

/-- Issue an instruction whose effect is on the core alone. -/
def runCore (k : Nat) (f : TBank → TEffect) (s : State) : State :=
  if canIssue k s then
    let t := fetched k s
    let c := t.core k
    t.setCore k (c.issue (f (c.bank c.inShadow)))
  else s

/-- The current bank of a core as an instruction issued now reads it. -/
def State.tbank (s : State) (k : Nat) : TBank := ((s.core k).retire).bank (s.core k).inShadow

/-- Issue an instruction that loads from `cas`; `f` gives the effect from the words read. An illegal access or an
uncorrectable error faults: in the main bank the instruction issues and the task ends, in a handler it does not
issue (R157, R158, R574). -/
def runLoad (k : Nat) (cas : TBank → List Nat) (f : TBank → List Word → TEffect) (s : State) : State :=
  if canIssue k s then
    let t := fetched k s
    let c := t.core k
    let b := c.bank c.inShadow
    let as := cas b
    let bad := as.any (fun ca => illegalAccess ca false)
    let legal := as.filter (fun ca => !illegalAccess ca false)
    let t := legal.foldl (fun u ca => coreEcc k ca u) t
    let ecc := legal.any (fun ca => dataBad k ca s)
    if (bad || ecc) && c.inShadow then instrFault k (if bad then 3 else 5) t
    else
      let ws := as.map (fun ca => if illegalAccess ca false then 0
        else if dataBad k ca s then Config.eccLoad s.freeCtr else coreRead k ca t)
      let u := t.setCore k (c.issue (f b ws))
      let u := if ecc then u.tickFree else u
      if bad then instrFault k 3 u else if ecc then instrFault k 5 u else u
  else s

/-- Issue an instruction that stores words: (address, word) pairs. -/
def runStore (k : Nat) (f : TBank → List (Nat × Word) × TEffect) (s : State) : State :=
  if canIssue k s then
    let t := fetched k s
    let c := t.core k
    let r := f (c.bank c.inShadow)
    let bad := r.1.any (fun p => illegalAccess p.1 true)
    if bad && c.inShadow then instrFault k 3 t
    else
      let t := r.1.foldl (fun u p => if illegalAccess p.1 true then u else u.putWord (coreAddr k p.1) p.2) t
      let u := t.setCore k (c.issue r.2)
      if bad then instrFault k 3 u else u
  else s

/-- Issue a control instruction or REP: a fault with cause 2 where it may not stand. -/
def runCtl (k : Nat) (bad : TCore → Bool) (f : TCore → TEffect) (s : State) : State :=
  if canIssue k s then
    let t := fetched k s
    let c := t.core k
    if illegalPlace c || bad c then instrFault k 2 t
    else t.setCore k (c.issue (f c))
  else s

/-- A word that is no instruction: a task fault with cause 4 (R186). -/
def runUndefined (k : Nat) (s : State) : State := if canIssue k s then instrFault k 4 (fetched k s) else s

/-! ## Tasks, release and marks (R168 to R177) -/

/-- LIVE instance entries of task `t`, as entry numbers. -/
def liveEntries (k t : Nat) (s : State) : List Nat :=
  (List.range 64).filter (fun j => s.enB (keyInst k j 0) 31 && s.enF (keyInst k j 0) 13 4 == t)

/-- Dispatch the next task after `wait` cycles of waiting and 12 of dispatch (R171): its descriptor and the instance table
are read (R158). -/
def dispatchTask (k wait : Nat) (s : State) : State :=
  let c := (s.core k).retireAll
  match nextEnabled k s 16 c.nextTask with
  | none => s
  | some t =>
    let s := storeRead k (descReads c.nextTask (some t) ++ instReads) s
    let es := liveEntries k t s
    let j := es.headD 0
    let b := ((((c.main.setD 0 (Word.ofNat es.length)).setD 1 (Word.ofNat (s.sctr / 24 - 1))).setD 2
      (s.descWord k t 2)).setP 6 (Word.ofNat (0x14200 + 8 * j))).setP 7 (Word.ofNat (0x14400 + 240 * j))
    s.setCore k { c with
      st := .run, task := t, nextTask := t + 1, pc := s.taskEntry k t, main := b, delay := none, hold := true,
      taskCyc := 0, marked := false, cyc := c.cyc + wait + 12, relCyc := c.relCyc + wait + 12, ran := c.ran ++ [t] }

/-- The enabled tasks a core has not ended, for the fixed output of an abandoned list (R176). -/
def unendedTasks (k : Nat) (s : State) : List Nat :=
  (List.range 16).filter (fun t => s.taskEn k t && !(s.core k).ended.contains t && !(s.core k).fixedOut.contains t)

/-- A release finds the core not done. -/
def lateCore (c : TCore) : Bool :=
  !c.done && (c.st == .run || c.st == .dispatch || (c.st == .handler && (c.back == .run || c.back == .dispatch)))

/-- Abandon the list in progress as a cause-1 fault (R176): every task not ended delivers the fixed output. -/
def abandonList (k : Nat) (s : State) : State :=
  if lateCore (s.core k) then
    let t := recordFaultOf (s.taskNow k) k 1 false s
    let c := t.core k
    (t.setCore k { c with st := .waitRel, delay := none, hold := false, done := true, lastCyc := c.relCyc,
                          pc := if c.inShadow then c.iret else c.pc,
                          fixedOut := c.fixedOut ++ unendedTasks k t,
                          main := { c.main with loopN := 0 } }).raise 0x0C51 k
  else s

/-- The core without a list: what the block before left of its tasks is gone. -/
def TCore.noList (c : TCore) : TCore :=
  { c with startReq := false, fresh := false, fixedOut := [], ended := [], ran := [] }

/-- The release of a block to core `k`, with STOP and START taking effect (R171, R177, R181). A core with no enabled task is
done at the release, in a handler too (R174). A START written while a STOP waits goes with it (log entry 105). -/
def releaseCore (k : Nat) (s : State) : State :=
  let c := s.core k
  if c.st == .stopped then s.setCore k { c.noList with stopReq := false, done := true }
  else if c.stopReq then
    s.setCore k { c.noList with st := .stopped, back := .stopped, stopReq := false, done := true,
                                delay := none, hold := false }
  else
    let idle := (nextEnabled k s 16 0).isNone
    let next : TState := if idle then .waitRel else .dispatch
    let c1 := { c.noList with done := idle, relCyc := 0, nextTask := 0, lastCyc := if idle then 0 else c.lastCyc }
    storeRead k (if idle then descReads 0 none else [])
      (s.setCore k (if c.st == .handler then { c1 with back := next } else { c1 with st := next }))

/-- The RESET bits after a release: an entry whose task has run loses it, one set at this boundary keeps it
(R173). -/
def releaseResets (s : State) : State :=
  let old := s.tly.resets.filter (fun e =>
    let k := e / 64
    !((s.core k).ran.contains (s.enF (keyInst k (e % 64) 0) 13 4)))
  { s with tly := { s.tly with resets := s.tly.fresh.foldl (fun l e => insertNat e l) old, fresh := [] } }

/-- The release to all cores at a block boundary; the clusters' marks of the block before are gone. `abandonAll` has run. -/
def releaseAll (s : State) : State :=
  let s := releaseResets s
  let t := (List.range 64).foldl (fun u k => releaseCore k u) s
  { t with tly := { t.tly with marks := [] } }

/-- Whether all 16 cores of a cluster are done (R174). -/
def clusterDone (c : Nat) (s : State) : Bool :=
  (List.range 16).all (fun i =>
    let x := s.core (16 * c + i)
    x.done || x.st == .stopped || x.fresh)

/-- CLUSTER_MARK: sent once all 16 cores of the cluster are done (R174). -/
def clusterMark (c : Nat) (s : State) : State :=
  if clusterDone c s then { s with tly := { s.tly with marks := insertNat c s.tly.marks } } else s

/-- A release finds cores not done (R176): each abandons its list, and its cluster sends the mark. -/
def abandonAll (s : State) : State :=
  let late := (List.range 64).filter (fun k => lateCore (s.core k))
  late.foldl (fun t k => clusterMark (k / 16) t) (late.foldl (fun t k => abandonList k t) s)

end Sys2Proof.Machine
end

