-- ==== Sys2Proof/Machine/Engine.lean ====
section
/-!
DEFINITION. Blocks in passage: rate domains (R43 to R47), feeds and their validity (R56 to R60), source slots (R61 to
R63), the units of a parameter set, and what the strip sequencer exchanges with Tally tasks (R68, R169 to R177).
-/

namespace Sys2Proof.Machine

open Sys2Proof

/-! ## Domains (R44 to R46): 0 M, 1 H, 2 V -/

/-- H samples per M sample. -/
def State.hRatio (s : State) : Nat := if s.bitN 0x10000110 0 then 4 else 2

/-- Samples per block; the reserved domain 3 counts as M (log entries 91 and 104). -/
def State.blockLen (s : State) (dom : Nat) : Nat :=
  if dom = 1 then 24 * s.hRatio else if dom = 2 then 8 else 24

/-- First sample of the block in the processing stage. -/
def State.procBase (s : State) : Nat := s.sctr - 24

/-- The M samples at which a domain's samples of the block read ramp slots (R116). -/
def State.rampTimes (s : State) (dom : Nat) : List Int :=
  (List.range (s.blockLen dom)).map (fun i =>
    ((s.procBase + (if dom = 1 then i / s.hRatio else if dom = 2 then 3 * i else i) : Nat) : Int))

/-- The M sample that the last of them reads at. -/
def State.lastTime (s : State) (dom : Nat) : Int := ((s.procBase + (if dom = 2 then 21 else 23) : Nat) : Int)

def zeros (n : Nat) : List Int := List.replicate n 0

/-- A block as wide as its domain: missing samples are zeros. -/
def fitBlock (n : Nat) (xs : List Int) : List Int := (xs ++ zeros n).take n

/-- The largest magnitude of a block (R84). -/
def peakOf (xs : List Int) : Nat := xs.foldl (fun m x => max m x.natAbs) 0

/-! ## Units of a parameter set -/

/-- Units of a windowed register file whose word 0 has bit 0 (EN) set: an unlisted word 0 has EN = 0. -/
def enabledIn (base stride : Nat) (ps : Tbl Word) : List Nat :=
  ps.filterMap (fun e => if base ≤ e.1 ∧ e.1 < base + 0x100000000 ∧ e.1 % stride = 0 ∧ e.2.bit 0
    then some ((e.1 - base) / stride) else none)

/-- Units of a windowed register file whose word at offset `off` is listed. -/
def listedAt (base stride off : Nat) (ps : Tbl Word) : List Nat :=
  ps.filterMap (fun e => if base ≤ e.1 ∧ e.1 < base + 0x100000000 ∧ e.1 % stride = off
    then some ((e.1 - base) / stride) else none)

/-- Units that have a listed word 0. -/
def listedIn (base stride : Nat) (ps : Tbl Word) : List Nat := listedAt base stride 0 ps

/-- Enabled input and output strips of a set. -/
def enabledIS (ps : Tbl Word) : List Nat := enabledIn 0x100000000 0x40 ps
def enabledOS (ps : Tbl Word) : List Nat := enabledIn 0x200000000 0x40 ps

/-- VALID instance entries of a set: core, entry, word 0 (R169). -/
def validEntries (ps : Tbl Word) : List (Nat × Nat × Word) :=
  ps.filterMap (fun e =>
    let a := e.1 - 0x400000000 - 0x02400000
    let o := a % 0x20000
    if 0x402400000 ≤ e.1 ∧ 0x1C200 ≤ o ∧ o < 0x1C400 ∧ o % 8 = 0 ∧ e.2.bit 31
    then some (a / 0x20000, (o - 0x1C200) / 8, e.2) else none)

/-- Entries of a set that name a unit: KIND 0 input strip, 1 output strip, 2 generator, 3 player. -/
def entriesOf (ps : Tbl Word) (kind idx : Nat) : List (Nat × Nat × Word) :=
  (validEntries ps).filter (fun e => e.2.2.fld 0 2 == kind && e.2.2.fld 2 11 == idx)

/-- A generator is enabled exactly when one VALID entry names it. -/
def State.genOn (s : State) (g : Nat) : Bool := (entriesOf s.eng 2 g).length == 1

/-! ## Feeds (R56 to R60) -/

/-- Input and output domain of rate-bridge channel `n` in a set (R49). -/
def rbOther (n : Nat) : Nat := if n < 256 then 1 else 2
def rbKey (n : Nat) : Nat := 0x10001000 + 4 * n
def rbInDom (ps : Tbl Word) (n : Nat) : Nat := if pbit ps (rbKey n) 14 then rbOther n else 0
def rbOutDom (ps : Tbl Word) (n : Nat) : Nat := if pbit ps (rbKey n) 14 then 0 else rbOther n

def State.playerDom (s : State) (p : Nat) : Nat := Tbl.getD s.engine.playerDom p 0

/-- The domain of a feed under a parameter set; none for a reserved feed (R57). A generator is taken to be in M: no
register names its domain (log entry 18). -/
def State.feedDomIn (s : State) (ps : Tbl Word) (f : Nat) : Option Nat :=
  if f < 512 then some (s.fldN (0x10060000 + 0x80 * (f / 32)) 12 2)
  else if f < 528 ∨ (544 ≤ f ∧ f < 576) then some 0
  else if 1024 ≤ f ∧ f < 1280 then some 0
  else if 1536 ≤ f ∧ f < 2048 then some (s.playerDom (f - 1536))
  else if 2048 ≤ f ∧ f < 2560 then some (rbOutDom ps (f - 2048))
  else if 4096 ≤ f ∧ f < 6144 then some 0
  else if 8192 ≤ f ∧ f < 32768 then some 0
  else none

/-- The domain of a feed for the block in the processing stage. -/
def State.feedDom (s : State) (f : Nat) : Option Nat := s.feedDomIn s.eng f

/-- Whether a reader of domain `dom` finds a feed in another domain, under a parameter set (R57, R60). -/
def State.feedMis (s : State) (ps : Tbl Word) (f dom : Nat) : Bool :=
  match s.feedDomIn ps f with
  | none => false
  | some d => d != dom

/-- Whether a feed of the block in the processing stage is valid (R56, R58). A generator's follows the set in process, a
rate bridge's the set that computed its block (log entry 91). Port slots, rate
bridges, network channels and cascade ports are valid by what was received; a channel returned locally always is (R409). -/
def State.feedValid (s : State) (f : Nat) : Bool :=
  if f < 512 then s.engine.okFeeds.contains f
  else if f < 576 then (s.feedDom f).isSome && !s.engine.badFeeds.contains f
  else if 1024 ≤ f ∧ f < 1280 then s.genOn (f - 1024)
  else if 1536 ≤ f ∧ f < 2048 then true
  else if (2048 ≤ f ∧ f < 2560) ∨ (4096 ≤ f ∧ f < 6144) then s.engine.okFeeds.contains f
  else if 8192 ≤ f ∧ f < 32768 then
    let w := s.enp (0x100E0120 + 0x40 * (f / 8192 - 1))
    s.engine.okFeeds.contains (f / 8192 * 8192) || decide (w.fld 0 13 ≤ f % 8192 ∧ f % 8192 < w.fld 0 13 + w.fld 14 14)
  else false

/-- A feed's block: zeros while it is invalid (R58). The block that a rate bridge formed before a commit turned its DIR is
read in the length of its new output domain (log entry 91). -/
def State.feedBlock (s : State) (f : Nat) : List Int :=
  let n := s.blockLen ((s.feedDom f).getD 0)
  if s.feedValid f then fitBlock n (Tbl.getD s.engine.feeds f []) else zeros n

/-- A feed as a strip of domain `dom` reads it: its block, and whether the domains differ (R57, R60). -/
def State.readFeed (s : State) (f dom : Nat) : List Int × Bool :=
  match s.feedDom f with
  | none => (zeros (s.blockLen dom), false)
  | some d => if d = dom then (s.feedBlock f, false) else (zeros (s.blockLen dom), true)

/-- Record a feed of the block being received. -/
def State.putRx (s : State) (f : Nat) (xs : List Int) : State :=
  { s with engine := { s.engine with rx := Tbl.put s.engine.rx f xs } }

/-- Put one received sample at its place in the block being received. -/
def State.putRxAt (s : State) (f pos : Nat) (x : Int) : State :=
  let old := Tbl.getD s.engine.rx f []
  s.putRx f ((old ++ zeros pos).take pos ++ [x] ++ old.drop (pos + 1))

/-! ## The rod directory (R90, R93) -/

/-- Base addresses of page `p`'s areas. -/
def pageBase (p : Nat) : Nat := p * 0x01100000
def dirAddr (p r : Nat) : Nat := pageBase p + 0x01000000 + 16 * r
def beadAddr (p : Nat) (amd : Bool) (i : Nat) : Nat := pageBase p + (if amd then 0x00F00000 else 0) + 16 * i

/-- A directory entry. -/
structure RodEntry where
  first : Nat
  count : Nat
  tier : Nat
  dom : Nat
  split : Nat
  en : Bool
  afirst : Nat
  acount : Nat
  reservedBad : Bool
  deriving DecidableEq, Repr

def State.rod (s : State) (page r : Nat) : RodEntry :=
  let a := dirAddr page r
  let w0 := s.word a
  let w1 := s.word (a + 4)
  let w2 := s.word (a + 8)
  let w3 := s.word (a + 12)
  { first := w0.fld 0 20, count := w1.fld 0 15, tier := w1.fld 16 2, dom := w1.fld 18 2, split := w1.fld 20 6,
    en := w1.bit 31, afirst := w2.fld 0 16, acount := w2.fld 16 16,
    reservedBad := w0.fld 20 12 != 0 || w1.bit 15 || w1.fld 26 5 != 0 || w3 != 0 }

/-- Enabled rods of a page's directory, rising. -/
def State.enabledRods (s : State) (page : Nat) : List Nat :=
  let lo := dirAddr page 0
  s.mem.filterMap (fun e => if lo ≤ e.1 ∧ e.1 < lo + 0x10000 ∧ e.1 % 16 = 7 ∧ e.2.getLsbD 7
    then some ((e.1 - lo) / 16) else none)

/-- Key of raw feed tap `t`. -/
def tapKey (t : Nat) : Nat := 0x10039000 + 4 * t

/-! ## Source slots (R61 to R63) -/

/-- The domain of the unit behind a slot, under a parameter set and the directory of a page (R61). -/
def State.slotDomIn (s : State) (ps : Tbl Word) (page n : Nat) : Nat :=
  if n < 2048 then pfld ps (keyIS n 0) 1 2
  else if n < 6144 then (s.rod page (n - 2048)).dom
  else if n < 6656 then s.playerDom (n - 6144)
  else if n < 6912 then 0
  else (s.feedDomIn ps (pfld ps (tapKey (n - 6912)) 0 15)).getD 0

/-- A slot's domain for the block in the processing stage. -/
def State.slotDom (s : State) (n : Nat) : Nat := s.slotDomIn s.eng s.engine.abx.amdEng n

/-- Whether the unit behind a slot puts out anything but zeros in this block. -/
def State.slotOn (s : State) (n : Nat) : Bool :=
  if n < 2048 then s.enB (keyIS n 0) 0
  else if n < 6144 then
    let e := s.rod s.engine.abx.amdEng (n - 2048)
    e.en && (e.count + e.acount != 0)
  else if n < 6656 then
    !(entriesOf s.eng 3 (n - 6144)).isEmpty
  else if n < 6912 then !(entriesOf s.eng 2 (n - 6656)).isEmpty
  else s.enB (tapKey (n - 6912)) 31

/-- The unit behind a slot has given its block, or gives zeros. -/
def State.slotDone (s : State) (n : Nat) : Bool := !s.slotOn n || (Tbl.find s.engine.slots n).isSome

/-- A slot is available to its readers; a rod once its tier is complete (R63). -/
def State.slotReady (s : State) (n : Nat) : Bool :=
  s.slotDone n && (!(decide (2048 ≤ n ∧ n < 6144) && s.slotOn n) ||
    s.engine.abx.tiers.contains (s.rod s.engine.abx.amdEng (n - 2048)).tier)

def State.slotBlock (s : State) (n : Nat) : List Int :=
  fitBlock (s.blockLen (s.slotDom n)) (Tbl.getD s.engine.slots n [])

def State.putSlot (s : State) (n : Nat) (xs : List Int) : State :=
  { s with engine := { s.engine with slots := Tbl.put s.engine.slots n xs } }

/-! ## Exchange with the Tally cores (R68, R169 to R172, R177) -/

/-- Fabric address of a block at an exchange offset. -/
def exchAddr (k off : Nat) : Nat := coreAddr k (0x10000 + 16 * off)

/-- The entry through which a strip's task serves it: the strip's CORE and TASK, an entry naming it. -/
def State.stripEntry (s : State) (kind idx : Nat) (dyn : Word) : Option (Nat × Nat) :=
  let k := dyn.fld 1 6
  ((entriesOf s.eng kind idx).find? (fun e => e.1 == k && e.2.2.fld 13 4 == dyn.fld 8 4)).map (fun e => (k, e.2.1))

/-- Whether a task of a core takes blocks in this block: the core was not STOPPED at the release (R181) and the descriptor
has EN. -/
def State.taskRuns (s : State) (k t : Nat) : Bool :=
  (s.core k).st != .stopped && !(s.core k).fresh && s.taskEn k t

/-- How a task has ended in this block: by TEND, with the fixed output of R172, or not yet. -/
def State.taskEnd (s : State) (k t : Nat) : Option Bool :=
  if !s.taskRuns k t then some false
  else if (s.core k).ended.contains t then some true
  else if (s.core k).fixedOut.contains t then some false
  else none

/-- Write a block to exchange memory. -/
def putExch (k off : Nat) (xs : List Int) (s : State) : State := s.putWords (exchAddr k off) (xs.map Word.ofInt)

/-- Read a block from exchange memory. -/
def State.getExch (s : State) (k off n : Nat) : List Int := (s.words (exchAddr k off) n).map sval

/-- At release the sequencer gives an instance of a disabled strip IN and AUX blocks of zeros (R170). -/
def deliverZeros (s : State) : State :=
  (validEntries s.eng).foldl (fun t e =>
    let kind := e.2.2.fld 0 2
    let idx := e.2.2.fld 2 11
    let key := if kind = 0 then keyIS idx 0 else keyOS idx 0
    let dyn := if kind = 0 then keyIS idx 0x1C else keyOS idx 8
    if 2 ≤ kind ∨ t.enB key 0 then t
    else
      let n := t.blockLen (t.enF key 1 2)
      let w := t.enp (keyInst e.1 e.2.1 1)
      let t := putExch e.1 (w.fld 0 10) (zeros n) t
      if t.enB dyn 31 then putExch e.1 (w.fld 20 10) (zeros n) t else t) s

/-- Whether every instance of a task has its IN and AUX blocks (R171). -/
def inputsDelivered (k t : Nat) (s : State) : Bool :=
  (liveEntries k t s).all (fun j =>
    let w := s.enp (keyInst k j 0)
    let idx := w.fld 2 11
    match w.fld 0 2 with
    | 0 => !s.enB (keyIS idx 0) 0 || (Tbl.getD s.engine.ins idx {}).phase != .waiting
    | 1 => !s.enB (keyOS idx 0) 0 || (Tbl.getD s.engine.ous idx {}).phase != .waiting
    | _ => true)

/-- TASK_DISPATCH: once the inputs of the next task are delivered, 12 cycles of dispatch and the registers of R171. -/
def execTaskDispatch (core : Fin 64) (wait : Nat) (s : State) : Res :=
  .next (match nextEnabled core s 16 (s.core core).nextTask with
  | none => s
  | some t => onlyIf ((s.core core).st == .dispatch && inputsDelivered core t s) s (dispatchTask core wait s))

end Sys2Proof.Machine
end

