-- ==== Sys2Proof/Machine/Section.lean ====
section
/-!
DEFINITION. The section engine (R137 to R154): the arithmetic of a section, chains, crossfades, and what a commit and
a block boundary do to the pool.
-/

namespace Sys2Proof.Machine

open Sys2Proof

/-- The coefficients of section `n` in a parameter set. -/
def coefsOf (ps : Tbl Word) (n : Nat) : Coefs :=
  { b0 := sval (pget ps (keySec n 4)), b1 := sval (pget ps (keySec n 8)), b2 := sval (pget ps (keySec n 12)),
    a1 := sval (pget ps (keySec n 16)), a2 := sval (pget ps (keySec n 20)) }

def secDom (ps : Tbl Word) (n : Nat) : Nat := pfld ps (keySec n 24) 0 2
def secRamp (ps : Tbl Word) (n : Nat) : Nat := pfld ps (keySec n 24) 16 12
def secPartner (ps : Tbl Word) (n : Nat) : Nat := pfld ps (keySec n 28) 0 16

/-- Saturation to Q7.56. -/
def sat64 (x : Int) : Int := max (-(2 ^ 63)) (min (2 ^ 63 - 1) x)

/-- The accumulator of a section before saturation (R137, R138). -/
def biquadAcc (c : Coefs) (h : SecHist) (x : Int) : Int :=
  c.b0 * x + c.b1 * h.x1 + c.b2 * h.x2 - narrowRound (c.a1 * h.y1) 29 - narrowRound (c.a2 * h.y2) 29

/-- One sample through a section: its output, the new histories, and whether it saturates (R137 to R140). -/
def biquad (c : Coefs) (h : SecHist) (x : Int) : Int × SecHist × Bool :=
  let acc := biquadAcc c h x
  let y := sat64 acc
  (narrow y 29, { x1 := x, x2 := h.x1, y1 := y, y2 := h.y1 }, decide (y ≠ acc) || narrowSats y 29)

/-- A block through a section: its outputs, the new histories, and the first sample at which it saturates. -/
def biquadBlock (c : Coefs) : SecHist → List Int → List Int × SecHist × Option Nat
  | h, [] => ([], h, none)
  | h, x :: xs =>
    let r := biquad c h x
    let t := biquadBlock c r.2.1 xs
    (r.1 :: t.1, t.2.1, if r.2.2 then some 0 else t.2.2.map (· + 1))

/-- The mix of a crossfade (R148). -/
def fadeMix (old new r : Int) : Int := narrowRound (old * (2 ^ 30 - r) + new * r) 30

def State.hist (s : State) (n : Nat) : SecHist := Tbl.getD s.engine.secs.hist n {}

def State.setSecs (s : State) (q : Sections) : State := { s with engine := { s.engine with secs := q } }

/-- The section's bit of the saturation map (R139). -/
def satMark (m : Tbl Word) (n : Nat) : Tbl Word :=
  Tbl.set m (n / 32) (Tbl.getD m (n / 32) 0 ||| Word.ofNat (2 ^ (n % 32))) 0

/-- The section that saturates at the earliest sample, the first in chain order where several do: (sample, section). -/
def firstSat : List (Nat × Nat) → Option (Nat × Nat)
  | [] => none
  | e :: es =>
    match firstSat es with
    | none => some e
    | some f => some (if e.1 ≤ f.1 then e else f)

/-- Saturations of a chain, each the sample and the section: map bits, SYS_SAT_FLAGS, and the event for the first after a
swap (R139). The chain runs sample by sample, so the first is the earliest (R141). -/
def secSats (es : List (Nat × Nat)) (s : State) : State :=
  match firstSat es with
  | none => s
  | some e =>
    let q := s.engine.secs
    let t := (s.setSecs { q with
      satmap := es.foldl (fun m x => satMark m x.2) q.satmap, satArmed := false }).setSat true 1
    t.raiseIf q.satArmed 0x0C30 e.2

/-- A section's saturation as an entry for `secSats`. -/
def satEntry (n : Nat) (at' : Option Nat) : List (Nat × Nat) :=
  match at' with
  | none => []
  | some j => [(j, n)]

/-- A block through section `n`, with its crossfade where one runs: outputs, saturations, and the histories after it. Where
section and partner saturate first at one sample, the section stands first (log entry 104). -/
def secRun (n : Nat) (ts xs : List Int) (s : State) : List Int × List (Nat × Nat) × State :=
  let r := biquadBlock (coefsOf s.eng n) (s.hist n) xs
  let q := s.engine.secs
  match Tbl.find q.fades n with
  | none => (r.1, satEntry n r.2.2, s.setSecs { q with hist := Tbl.set q.hist n r.2.1 {} })
  | some f =>
    let o := biquadBlock f.coefs (s.hist f.partner) xs
    let h := Tbl.set (Tbl.set q.hist n r.2.1 {}) f.partner o.2.1 {}
    (List.zipWith (fun t p => fadeMix p.1 p.2 (rampVal s.engine.rampsEng f.ramp t)) ts (o.1.zip r.1),
      satEntry n r.2.2 ++ satEntry f.partner o.2.2, s.setSecs { q with hist := h })

/-- A block through `cnt` sections from `base` (R141), with the saturations in chain order. -/
def chainRun (ts : List Int) : Nat → Nat → List Int → State → List Int × List (Nat × Nat) × State
  | _, 0, xs, s => (xs, [], s)
  | base, cnt + 1, xs, s =>
    let r := secRun base ts xs s
    let t := chainRun ts (base + 1) cnt r.1 r.2.2
    (t.1, r.2.1 ++ t.2.1, t.2.2)

/-! ## Chains of a parameter set (R141, R143) -/

/-- The chain of a strip: first section, number, domain. -/
def isChain (ps : Tbl Word) (i : Nat) : Nat × Nat × Nat :=
  (pfld ps (keyIS i 0x18) 0 16, pfld ps (keyIS i 0x18) 16 2 + pfld ps (keyIS i 0x18) 20 4, pfld ps (keyIS i 0) 1 2)

def osChain (ps : Tbl Word) (k : Nat) : Nat × Nat × Nat :=
  (pfld ps (keyOS k 4) 0 16, pfld ps (keyOS k 4) 16 5, pfld ps (keyOS k 0) 1 2)

/-- The chains of every enabled strip. -/
def chains (ps : Tbl Word) : List (Nat × Nat × Nat) :=
  (enabledIS ps).map (isChain ps) ++ (enabledOS ps).map (osChain ps)

/-- Whether a section lies in a chain. -/
def inChain (c : Nat × Nat × Nat) (n : Nat) : Bool := decide (c.1 ≤ n ∧ n < c.1 + c.2.1)

/-- Whether a section lies in some enabled strip's chain. -/
def runsIn (ps : Tbl Word) (n : Nat) : Bool := (chains ps).any (fun c => inChain c n)

/-- The sections of a chain. -/
def chainSecs (c : Nat × Nat × Nat) : List Nat := (List.range c.2.1).map (fun j => c.1 + j)

/-- Every section that runs, in chain order; one that lies in two chains stands twice. -/
def runningSecs (ps : Tbl Word) : List Nat := ((chains ps).map chainSecs).flatten

/-- Every section that runs, once, rising. -/
def runningSet (ps : Tbl Word) : List Nat := (runningSecs ps).foldr insertNat []

/-- Section-samples per block of a section of a domain (R145). -/
def State.secCost (s : State) (dom : Nat) : Nat := s.blockLen dom

/-! ## What a commit does, as its block reaches the processing stage (R143, R144, R148, R151) -/

/-- End a crossfade: the partner stops and loses its state. -/
def fadeEnd (n : Nat) (s : State) : State :=
  let q := s.engine.secs
  match Tbl.find q.fades n with
  | none => s
  | some f => s.setSecs { q with fades := Tbl.del q.fades n, hist := Tbl.del q.hist f.partner }

/-- Start a crossfade of section `n` from coefficients `old`. -/
def fadeStart (n : Nat) (old : Coefs) (ps : Tbl Word) (s : State) : State :=
  let q := s.engine.secs
  s.setSecs { q with
    fades := Tbl.put q.fades n ⟨secPartner ps n, old, secRamp ps n⟩,
    hist := Tbl.set q.hist (secPartner ps n) (s.hist n) {} }

/-- A change of a section's coefficients ends its running crossfade, with event 0x0C31 (R151). -/
def fadeCut (n : Nat) (s : State) : State :=
  if (Tbl.find s.engine.secs.fades n).isSome then (fadeEnd n s).raise 0x0C31 n else s

/-- Clear sections whose strip R83 resets: histories zero, crossfades end without an event. -/
def secReset (ns : List Nat) (s : State) : State :=
  ns.foldl (fun t n =>
    let t := fadeEnd n t
    t.setSecs { t.engine.secs with hist := Tbl.del t.engine.secs.hist n }) s

/-- The pool at a commit: sections that stop lose their state and `reset` ones are cleared (R143); of those that run on both
sides of B with other coefficients, every running crossfade ends first (R151), then those with an XF_RAMP start one (R148). A
crossfade that goes on keeps the slot and the partner it started with, in whatever chain the new set puts that partner (log
entry 104). -/
def secsCommit (old new : Tbl Word) (reset : List Nat) (s : State) : State :=
  let before := runningSet old
  let after := runningSet new
  let t := secReset (before.filter (fun n => !after.contains n)) s
  let t := secReset reset t
  let changed := before.filter (fun n => after.contains n && decide (coefsOf old n ≠ coefsOf new n))
  let t := changed.foldl (fun u n => fadeCut n u) t
  (changed.filter (fun n => secRamp new n != 0)).foldl (fun u n => fadeStart n (coefsOf old n) new u) t

/-- R150: crossfades whose last sample of the processed block read R = 2^30 end at this boundary. -/
def fadesEnd (s : State) : State :=
  s.engine.secs.fades.foldl (fun t e =>
    if rampVal s.engine.rampsEng e.2.ramp (s.lastTime (secDom s.eng e.1)) = 2 ^ 30 then fadeEnd e.1 t else t) s

end Sys2Proof.Machine
end

