-- ==== Sys2Proof/Machine/Player.lean ====
section
/-!
DEFINITION. Message players (R232, R486, R487): where a player stands at a sample, and the samples its Tally task forms.
-/

namespace Sys2Proof.Machine

open Sys2Proof

def State.withZk (s : State) (z : Zekor) : State := { s with zk := z }

def State.player (s : State) (p : Nat) : Player := Tbl.getD s.zk.players p {}
def State.setPlayer (s : State) (p : Nat) (x : Player) : State :=
  s.withZk { s.zk with players := Tbl.set s.zk.players p x {} }

/-- A stored message's domain and length. -/
def State.message (s : State) (m : Nat) : Message := Tbl.getD s.zk.messages m ⟨0, 0⟩

/-- Samples of a domain in a millisecond. -/
def State.perMs (s : State) (dom : Nat) : Nat := if dom = 1 then 48 * s.hRatio else if dom = 2 then 16 else 48

/-- The index in its own domain of the sample at SCTR `t`, counted from a player's first sample. -/
def State.playIndex (s : State) (dom : Nat) (start t : Nat) : Int :=
  if dom = 2 then ((t / 3 : Nat) : Int) - ((start + 2) / 3 : Nat)
  else if dom = 1 then ((t : Int) - start) * s.hRatio
  else (t : Int) - start

/-- The items a player plays in turn: message and length. -/
def State.playItems (s : State) (x : Player) : List (Nat × Nat) :=
  (x.msg, (s.message x.msg).len) :: (match x.msg2 with | none => [] | some m => [(m, (s.message m).len)])

/-- The place `n` samples into a sequence of items that each end in a gap: the item and the position in it. -/
def placeIn (gap : Nat) : List (Nat × Nat) → Nat → Option (Nat × Nat)
  | [], _ => none
  | (m, len) :: t, n => if n < len then some (m, n) else if n < len + gap then none else placeIn gap t (n - len - gap)

/-- A player at a sample index: state (0 over, 1 waiting, 2 playing, 3 gap), repetitions done, and message with position. -/
def State.playAt (s : State) (x : Player) (n : Int) : Nat × Nat × Option (Nat × Nat) :=
  let items := s.playItems x
  let gap := x.gap * s.perMs ((s.message x.msg).dom)
  let period := (items.map (fun e => e.2 + gap)).sum
  if n < 0 then (1, 0, none)
  else if period = 0 then (0, x.rep, none)
  else
    let k := n.toNat
    if x.rep ≠ 0 ∧ x.rep * period ≤ k + gap then (0, x.rep, none)
    else match placeIn gap items (k % period) with
      | some e => (2, k / period, some e)
      | none => (3, k / period, none)

/-- A sample index lies in the gap after a player's last item: the repetition is done. -/
def State.lastGap (s : State) (x : Player) (n : Int) : Bool :=
  let items := s.playItems x
  let gap := x.gap * s.perMs ((s.message x.msg).dom)
  let period := (items.map (fun e => e.2 + gap)).sum
  decide (0 ≤ n ∧ period ≠ 0 ∧ period ≤ n.toNat % period + gap)

/-- A ramp from 0 to 1 that starts at sample `c` with a definition. -/
def rampFrom (cfg : Word) (c : Nat) (t : Int) : Int := SlotDef.val { cfg := cfg, start := c } t

/-- A player's state as MSG STATUS shows it at SCTR `t`; 4 is fading (R487). -/
def State.playerState (s : State) (x : Player) (t : Nat) : Nat :=
  if x.st = 0 then 0
  else
    let v := (s.playAt x (s.playIndex (s.message x.msg).dom x.start t)).1
    match x.stopAt with
    | none => v
    | some e => if v = 0 ∨ rampFrom e.2 e.1 t = 2 ^ 30 then 0 else if e.1 ≤ t then 4 else v

/-- One output sample at SCTR `t`: the decoded sample × LEVEL × r, exact and narrowed once (R486); a STOP ramps the level to
0 (R487). -/
def State.playSample (s : State) (x : Player) (n t : Int) : Int × Bool :=
  match (s.playAt x n).2.2 with
  | none => (0, false)
  | some e =>
    let level := match x.stopAt with
      | none => sval x.level
      | some f => rampGain (sval x.level) 0 (rampFrom f.2 f.1 t)
    let p := Config.msgSample e.1 e.2 * level * rampFrom x.cfg x.start t
    (narrow p 57, narrowSats p 57)

/-- A player's block. -/
def State.playBlock (s : State) (p : Nat) : List (Int × Bool) :=
  let x := s.player p
  let dom := s.playerDom p
  let n0 := s.playIndex dom x.start s.procBase
  ((s.rampTimes dom).zipIdx).map (fun e => s.playSample x (n0 + e.2) e.1)

/-- SV of the core whose task saturated, and SYS_SAT_FLAGS.TLY (R486). -/
def playSat (k : Nat) (b : Bool) (s : State) : State :=
  if b then
    let c := s.core k
    (s.setCore k { c with main := { c.main with st := c.main.st.setBit 9 true } }).setSat true 2
  else s

end Sys2Proof.Machine
end

