-- ==== Sys2Proof/Machine/Strip.lean ====
section
/-!
DEFINITION. Input strips, output strips, raw feed taps, rate bridges, players and generators in the processing stage
(R49 to R53, R62 to R84), the meter table, and what a commit does to strips (R65, R70, R73, R83).
-/

namespace Sys2Proof.Machine

open Sys2Proof

def State.inS (s : State) (i : Nat) : InStrip := Tbl.getD s.engine.ins i {}
def State.setInS (s : State) (i : Nat) (x : InStrip) : State :=
  { s with engine := { s.engine with ins := Tbl.set s.engine.ins i x {} } }
def State.ouS (s : State) (k : Nat) : OutStrip := Tbl.getD s.engine.ous k {}
def State.setOuS (s : State) (k : Nat) (x : OutStrip) : State :=
  { s with engine := { s.engine with ous := Tbl.set s.engine.ous k x {} } }

/-- Ledger numbers of strips (R460): class 0x01 input strip, 0x02 output strip. -/
def State.isLedger (s : State) (i : Nat) : Nat := s.ledger 1 i
def State.osLedger (s : State) (k : Nat) : Nat := s.ledger 2 k

/-! ## The A/B selector (R72, R73) -/

/-- The weight of B at position `c` of `t`; with `t` = 0 the target side has it all. -/
def weightB (shape c t : Nat) (sel : Bool) : Int :=
  if t = 0 then (if sel then unity else 0) else if t ≤ c then unity else shapeRound shape 27 c t

/-- One selector output. -/
def selMix (a b wb : Int) : Int := narrow (a * (unity - wb) + b * wb) 27

/-- A step of the position toward its target. -/
def selStep (c t : Nat) (sel : Bool) : Nat := if sel then min t (c + 1) else c - 1

/-- A block through the selector: the output and the position after it. -/
def selBlock (shape t : Nat) (sel : Bool) : Nat → List Int → List Int → List Int × Nat
  | c, a :: as, b :: bs =>
    let r := selBlock shape t sel (selStep c t sel) as bs
    (selMix a b (weightB shape c t sel) :: r.1, r.2)
  | c, _, _ => ([], c)

/-! ## Delays (R69, R70, R79) -/

/-- Granules of a delay (R69). -/
def granules (delay blockLen : Nat) : Nat := if delay = 0 then 0 else (delay + blockLen + 63) / 64

/-- A delay buffer in addressed memory: its first byte, its length in samples, and the end of the memory it lies in. -/
structure DlyBuf where
  base : Nat
  len : Nat
  top : Nat
  deriving DecidableEq, Repr

/-- Where the buffer holds the sample with index `n` of the strip's domain. The rules fix the buffer and not the place at
which it begins to turn (log entry 14). -/
def DlyBuf.addr (l : DlyBuf) (n : Nat) : Nat := l.base + 4 * ((n + Config.delayStart l.base) % l.len)

/-- Write the sample with index `n` and read the one `d` back, where `fill` samples have been written before: zero for a
position not written (R70, R79), and for one whose word cannot be read (R517). -/
def dlyStep (l : DlyBuf) (d n fill : Nat) (x : Int) (s : State) : Int × State :=
  let s := if l.addr n < l.top then s.putWord (l.addr n) (Word.ofInt x) else s
  let a := l.addr (n + l.len - d)
  if fill < d ∨ l.top ≤ a then (0, s)
  else if s.eccBad a then (0, s.eccRead a)
  else (sval (s.word a), s.eccSeen a)

/-- A block through a delay buffer: the samples read, how many have been written, and the memory. -/
def dlyBlock (l : DlyBuf) (d : Nat) : Nat → Nat → List Int → State → List Int × Nat × State
  | _, fill, [], s => ([], fill, s)
  | n, fill, x :: xs, s =>
    let r := dlyStep l d n fill x s
    let t := dlyBlock l d (n + 1) (min l.len (fill + 1)) xs r.2
    (r.1 :: t.1, t.2)

/-- Index in its domain of the first sample of the block in the processing stage (R46). -/
def State.firstIndex (s : State) (dom : Nat) : Nat :=
  if dom = 1 then s.procBase * s.hRatio else if dom = 2 then s.procBase / 3 else s.procBase

/-- The input delay pool's first byte (R69). -/
def State.poolBase (s : State) : Nat := 0x03800000 - min 16 (s.fldN 0x10038008 0 5) * 0x40000

/-- The granules of a strip with this IS_DLY word and a block of `n` samples (R69). -/
def State.inBuf (s : State) (dly : Word) (n : Nat) : DlyBuf :=
  ⟨s.poolBase + 256 * dly.fld 16 14, 64 * granules (dly.fld 0 11) n, 0x03800000⟩

/-- The buffer of an output strip (R79). -/
def outBuf (k : Nat) : DlyBuf := ⟨0x40000000 + k * 0x80000, 131072, 0x60000000⟩

/-- The output delay region is in use: ODLY_EN as it reads (R79). -/
def State.odlyOn (s : State) : Bool := s.bitN 0x10038008 31 && s.dramSize != 0

/-! ## Domain mismatches (R60, R77, R80) -/

/-- The domain a destination requires (R80). -/
def State.destDom (s : State) (d : Nat × Nat) : Nat :=
  if d.1 = 2 then s.fldN (0x10060000 + 0x80 * (d.2 / 32)) 12 2 else 0

/-- The destination a strip of a set names: kind and index, none for kinds 0 and 5 to 7 (R80). -/
def destOf (ps : Tbl Word) (k : Nat) : Option (Nat × Nat) :=
  let w := pget ps (keyOS k 0x18)
  let kind := w.fld 0 3
  if 1 ≤ kind ∧ kind ≤ 4 then some (kind, w.fld 16 15) else none

/-- A key or sense input is read: DYN_EN and KEY_EN or SENSE_EN. One that no task receives shows no mismatch (log entry
91). -/
def dynKey (dyn : Word) : Bool := dyn.bit 0 && dyn.bit 31

/-- IS_STAT.DOMERR under a set: a feed, the key or a direct-out reader is of another domain. -/
def State.isDomErr (s : State) (ps : Tbl Word) (i : Nat) : Bool :=
  let w := pget ps (keyIS i 0)
  let f := pget ps (keyIS i 4)
  let dyn := pget ps (keyIS i 0x1C)
  let dom := w.fld 1 2
  (w.bit 0 && (s.feedMis ps (f.fld 0 15) dom || s.feedMis ps (f.fld 16 15) dom ||
    (dynKey dyn && s.feedMis ps (dyn.fld 16 15) dom))) ||
  (enabledOS ps).any (fun k =>
    let o := pget ps (keyOS k 0)
    o.bit 3 && o.fld 16 12 == i && o.fld 1 2 != dom)

/-- OS_STAT.DOMERR under a set and the directory of a page: the source, the sense feed or the destination is of another
domain. -/
def State.osDomErr (s : State) (ps : Tbl Word) (page k : Nat) : Bool :=
  let w := pget ps (keyOS k 0)
  let dyn := pget ps (keyOS k 8)
  let dom := w.fld 1 2
  let src := w.fld 16 12
  w.bit 0 && (
    (if w.bit 3 then pfld ps (keyIS src 0) 1 2 != dom else s.slotDomIn ps page (2048 + src) != dom) ||
    (dynKey dyn && s.feedMis ps (dyn.fld 16 15) dom) ||
    (match destOf ps k with | none => false | some d => s.destDom d != dom))

/-- Raise 0x0C41 when a strip first shows DOMERR after a commit (R60, R86). -/
def showDomErrIn (i : Nat) (s : State) : State :=
  let x := s.inS i
  if s.isDomErr s.eng i && !x.errShown then
    (s.setInS i { x with errShown := true }).raise 0x0C41 (s.isLedger i)
  else s

def showDomErrOut (k : Nat) (s : State) : State :=
  let x := s.ouS k
  if s.osDomErr s.eng s.engine.abx.amdEng k && !x.errShown then
    (s.setOuS k { x with errShown := true }).raise 0x0C41 (s.osLedger k)
  else s

/-! ## Input strips (R64 to R76) -/

/-- Stages 7 to 9: delay, fader, mute; the strip's source slot. -/
def inBack (i : Nat) (x6 : List Int) (s : State) : State :=
  let st := s.inS i
  let dom := s.enF (keyIS i 0) 1 2
  let ts := s.rampTimes dom
  let t := s.lastTime dom
  let ds := s.engine.rampsEng
  let dly := s.enp (keyIS i 0x20)
  let dl := if dly.fld 0 11 = 0 then (x6, 0, s)
    else dlyBlock (s.inBuf dly (s.blockLen dom)) (dly.fld 0 11) (s.firstIndex dom) st.fill x6 s
  let f := gainBlock st.fader ds ts dl.1
  let m := gainBlock st.mute ds ts f.1
  let st := { st with
    fill := dl.2.1, fader := st.fader.after ds t, mute := st.mute.after ds t,
    phase := .done, dout := if s.enF (keyIS i 0) 8 2 = 3 then m.1 else st.dout,
    pkDyn := peakOf x6, pkPre := peakOf dl.1 }
  ((dl.2.2.setInS i st).setSat (f.2 || m.2) 1).putSlot i m.1

/-- Stages 1 to 5, and stage 6 as far as the strip sequencer does it. -/
def inFront (i : Nat) (s : State) : State :=
  let st := s.inS i
  let ctl := s.enp (keyIS i 0)
  let dom := ctl.fld 1 2
  let ts := s.rampTimes dom
  let ds := s.engine.rampsEng
  let a := s.readFeed (s.enF (keyIS i 4) 0 15) dom
  let b := s.readFeed (s.enF (keyIS i 4) 16 15) dom
  let dyn := s.enp (keyIS i 0x1C)
  let key := s.readFeed (dyn.fld 16 15) dom
  let sel := selBlock (ctl.fld 6 1) (ctl.fld 16 16) (ctl.bit 4) st.c a.1 b.1
  let g := gainBlock st.trim ds ts sel.1
  let pol := if ctl.bit 3 then g.1.map negSat else g.1
  let polSat := ctl.bit 3 && g.1.any (fun x => decide (x = s32Min))
  let sect := s.enp (keyIS i 0x18)
  let h := chainRun ts (sect.fld 0 16) (sect.fld 16 2) pol (s.setSat (g.2 || polSat) 1)
  let e := chainRun ts (sect.fld 0 16 + sect.fld 16 2) (sect.fld 20 4) h.1 h.2.2
  let tap := ctl.fld 8 2
  let st := { st with
    c := sel.2, trim := st.trim.after ds (s.lastTime dom),
    dout := if tap = 1 then h.1 else if tap = 2 then e.1 else [],
    phase := .delivered, given := e.1 }
  let t := showDomErrIn i ((secSats (h.2.1 ++ e.2.1) e.2.2).setInS i st)
  match (if dyn.bit 0 then s.stripEntry 0 i dyn else none) with
  | some (k, j) =>
    if s.taskRuns k (dyn.fld 8 4) then
      let w := s.enp (keyInst k j 1)
      let t := putExch k (w.fld 0 10) e.1 t
      if dynKey dyn then putExch k (w.fld 20 10) key.1 t else t
    else inBack i e.1 t
  | none => inBack i e.1 t

/-- What stage 6 gives back once the task has ended: its OUT block, or the IN block where it is bypassed (R172). -/
def taskBlock (kind idx dom : Nat) (dyn : Word) (given : List Int) (s : State) : Option (List Int) :=
  match s.stripEntry kind idx dyn with
  | none => some given
  | some (k, j) =>
    match s.taskEnd k (dyn.fld 8 4) with
    | none => none
    | some true => some (s.getExch k (s.enF (keyInst k j 1) 10 10) (s.blockLen dom))
    | some false => some given

/-- An input strip in the processing stage. -/
def inProcess (i : Nat) (s : State) : State :=
  if !s.enB (keyIS i 0) 0 then s
  else match (s.inS i).phase with
    | .waiting => inFront i s
    | .delivered =>
      (match taskBlock 0 i (s.enF (keyIS i 0) 1 2) (s.enp (keyIS i 0x1C)) (s.inS i).given s with
       | none => s
       | some x => inBack i x s)
    | .done => s

/-- A direct-out tap: ready, and its block (R71). -/
def State.doutReady (s : State) (i : Nat) : Bool :=
  !s.enB (keyIS i 0) 0 ||
    (match s.enF (keyIS i 0) 8 2 with
     | 0 => true
     | 3 => (s.inS i).phase == .done
     | _ => (s.inS i).phase != .waiting)

def State.doutBlock (s : State) (i : Nat) : List Int :=
  let n := s.blockLen (s.enF (keyIS i 0) 1 2)
  if s.enB (keyIS i 0) 0 && s.enF (keyIS i 0) 8 2 != 0 then fitBlock n (s.inS i).dout else zeros n

/-! ## Output strips (R77 to R81) -/

/-- R81: an enabled strip with a lower index names the same destination. -/
def destConf (ps : Tbl Word) (k : Nat) : Bool :=
  match destOf ps k with
  | none => false
  | some d => (enabledOS ps).any (fun j => decide (j < k) && (destOf ps j == some d))

/-- Key of a destination block. -/
def destKey (d : Nat × Nat) : Nat := d.1 * 0x10000 + d.2

/-- The source of an output strip: ready, block, and domain. -/
def State.osSource (s : State) (k : Nat) : Bool × List Int × Nat :=
  let w := s.enp (keyOS k 0)
  let src := w.fld 16 12
  if w.bit 3 then (s.doutReady src, s.doutBlock src, s.enF (keyIS src 0) 1 2)
  else (s.slotReady (2048 + src), s.slotBlock (2048 + src), s.slotDom (2048 + src))

/-- Stages 4 to 7: delay, gain, mute, destination. -/
def outBack (k : Nat) (x3 : List Int) (s : State) : State :=
  let st := s.ouS k
  let dom := s.enF (keyOS k 0) 1 2
  let ts := s.rampTimes dom
  let t := s.lastTime dom
  let ds := s.engine.rampsEng
  let dl := if s.odlyOn then dlyBlock (outBuf k) (s.enF (keyOS k 0xC) 0 17) (s.firstIndex dom) st.fill x3 s
    else (x3, st.fill, s)
  let g := gainBlock st.gain ds ts dl.1
  let m := gainBlock st.mute ds ts g.1
  let st := { st with
    fill := dl.2.1, gain := st.gain.after ds t, mute := st.mute.after ds t, phase := .done,
    pkPost := peakOf x3, out := m.1 }
  let s := (dl.2.2.setOuS k st).setSat (g.2 || m.2) 1
  match destOf s.eng k with
  | none => s
  | some dst =>
    if s.destDom dst = dom && !destConf s.eng k then
      { s with engine := { s.engine with outs := Tbl.put s.engine.outs (destKey dst) m.1 } }
    else s

/-- Stages 1 to 3, as far as the strip sequencer does them. -/
def outFront (k : Nat) (s : State) : State :=
  let st := s.ouS k
  let w := s.enp (keyOS k 0)
  let dom := w.fld 1 2
  let ts := s.rampTimes dom
  let src := s.osSource k
  let bad := decide (src.2.2 ≠ dom)
  let x1 := if bad then zeros (s.blockLen dom) else src.2.1
  let dyn := s.enp (keyOS k 8)
  let sense := s.readFeed (dyn.fld 16 15) dom
  let sect := s.enp (keyOS k 4)
  let e := chainRun ts (sect.fld 0 16) (sect.fld 16 5) x1 s
  let t := showDomErrOut k ((secSats e.2.1 e.2.2).setOuS k { st with
    pkPre := peakOf e.1, phase := .delivered, given := e.1 })
  -- a direct-out reader of another domain also shows at the input strip
  let t := if bad && w.bit 3 then showDomErrIn (w.fld 16 12) t else t
  match (if dyn.bit 0 then s.stripEntry 1 k dyn else none) with
  | some (c, j) =>
    if s.taskRuns c (dyn.fld 8 4) then
      let wj := s.enp (keyInst c j 1)
      let t := putExch c (wj.fld 0 10) e.1 t
      if dynKey dyn then putExch c (wj.fld 20 10) sense.1 t else t
    else outBack k e.1 t
  | none => outBack k e.1 t

/-- An output strip in the processing stage: as soon as its source is complete (R14). -/
def outProcess (k : Nat) (s : State) : State :=
  if !s.enB (keyOS k 0) 0 then s
  else match (s.ouS k).phase with
    | .waiting => if (s.osSource k).1 then outFront k s else s
    | .delivered =>
      (match taskBlock 1 k (s.enF (keyOS k 0) 1 2) (s.enp (keyOS k 8)) (s.ouS k).given s with
       | none => s
       | some x => outBack k x s)
    | .done => s

/-! ## Raw feed taps, players, generators (R62, R63, R169) -/

/-- A raw feed tap passes its feed. -/
def tapProcess (t : Nat) (s : State) : State :=
  if s.enB (tapKey t) 31 then s.putSlot (6912 + t) (s.feedBlock (s.enF (tapKey t) 0 15)) else s

/-- A player's (KIND 3) or generator's (KIND 2) OUT block once its task has ended; zeros where the task faulted, or
where no single entry names a generator. It is the source slot now and the feed of the block being received (R59). -/
def unitProcess (kind idx slot feed dom : Nat) (s : State) : State :=
  match entriesOf s.eng kind idx with
  | [] => s
  | e :: rest =>
    let n := s.blockLen dom
    match s.taskEnd e.1 (e.2.2.fld 13 4) with
    | none => s
    | some ok =>
      let xs := if ok && rest.isEmpty then s.getExch e.1 (s.enF (keyInst e.1 e.2.1 1) 10 10) n else zeros n
      (s.putSlot slot xs).putRx feed xs

/-- What the decoder task of a playing player has left in its OUT block when it ends: a block of the message (R486; log
entry 86). -/
def playerDecode (p : Nat) (e : Nat × Nat × Word) (s : State) : State :=
  let b := s.playBlock p
  playSat e.1 (b.any (fun x => x.2)) (putExch e.1 (s.enF (keyInst e.1 e.2.1 1) 10 10) (b.map (fun x => x.1)) s)

/-- A player's block: the OUT block of its task, which holds the message while the player plays; zeros where no entry names
the player (R170, R486). -/
def playerProcess (p : Nat) (s : State) : State :=
  let s := match entriesOf s.eng 3 p with
    | [e] => if (s.player p).st ≠ 0 ∧ s.taskEnd e.1 (e.2.2.fld 13 4) = some true then playerDecode p e s else s
    | _ => s
  unitProcess 3 p (6144 + p) (1536 + p) (s.playerDom p) s

/-! ## Rate bridges (R49 to R53) -/

/-- The factor and the number of taps of a channel. -/
def State.rbShape (s : State) (n : Nat) : Nat × Nat :=
  if 256 ≤ n then (3, 145) else if s.hRatio = 4 then (4, 193) else (2, 97)

/-- Whether a channel interpolates: M to H, V to M. -/
def rbUp (ps : Tbl Word) (n : Nat) : Bool := if n < 256 then !pbit ps (rbKey n) 14 else pbit ps (rbKey n) 14

/-- The exact sum of products of taps and past inputs. -/
def firSum (hs xs : List Int) : Int := (List.zipWith (· * ·) hs xs).sum

/-- Every `l`-th tap from `r`. -/
def polyTaps (l r : Nat) (hs : List Int) : List Int :=
  (List.range ((hs.length - r + l - 1) / l)).map (fun m => hs.getD (l * m + r) 0)

/-- The sums of an interpolating channel: `all` is every input, newest first, `n` of them new. -/
def rbInterp (l : Nat) (hs all : List Int) (n : Nat) : List Int :=
  ((List.range n).map (fun j => (List.range l).map (fun r => firSum (polyTaps l r hs) (all.drop (n - 1 - j))))).flatten

/-- The sums of a decimating channel. -/
def rbDecim (l : Nat) (hs all : List Int) (n : Nat) : List Int :=
  (List.range (n / l)).map (fun j => firSum hs (all.drop (n - 1 - l * j)))

/-- A rate-bridge channel processes its source slot; its output is the feed of the block being received. -/
def rbProcess (n : Nat) (s : State) : State :=
  let w := s.enp (rbKey n)
  let b := Tbl.getD s.engine.bridges n {}
  let slot := w.fld 0 13
  let bad := decide (s.slotDom slot ≠ rbInDom s.eng n)
  if !w.bit 31 || b.done || !(bad || s.slotReady slot) then s
  else
    let len := s.blockLen (rbInDom s.eng n)
    let xs := if bad then zeros len else s.slotBlock slot
    let l := (s.rbShape n).1
    let taps := (s.rbShape n).2
    let hs := rbTaps l taps (if rbUp s.eng n then l else 1)
    let all := xs.reverse ++ b.hist
    let acc := if rbUp s.eng n then rbInterp l hs all len else rbDecim l hs all len
    let ys := if bad then acc.map (fun _ => 0) else acc.map (fun x => narrow x 29)
    let t := { s with engine := { s.engine with
      bridges := Tbl.set s.engine.bridges n { hist := all.take taps, done := true } {},
      okRx := if bad then s.engine.okRx else (2048 + n) :: s.engine.okRx } }
    (t.setSat (!bad && acc.any (fun x => narrowSats x 29)) 4).putRx (2048 + n) ys

/-! ## Meters (R84) -/

/-- Every enabled strip has finished the block: the section engine's completion mark (R103). -/
def State.stripsDone (s : State) : Bool :=
  (enabledIS s.eng).all (fun i => (s.inS i).phase == .done) && (enabledOS s.eng).all (fun k => (s.ouS k).phase == .done)

/-- SEC_METER.RANGE. -/
def State.meterRange (s : State) : Bool := decide (0x800000 < 64 * s.fldN 0x1003800C 6 17 + 24584)

/-- The words of the meter table. -/
def State.meterWords (s : State) : List Word :=
  let mark := Word.ofNat (s.procBase / 24)
  let ins := (List.range 2048).map (fun i =>
    if s.enB (keyIS i 0) 0 then [Word.ofNat (s.inS i).pkPre, Word.ofNat (s.inS i).pkDyn] else [0, 0])
  let ous := (List.range 1024).map (fun k =>
    if s.enB (keyOS k 0) 0 then [Word.ofNat (s.ouS k).pkPre, Word.ofNat (s.ouS k).pkPost] else [0, 0])
  mark :: (ins.flatten ++ ous.flatten ++ [mark])

/-- The sequencer writes the table once per processing stage. -/
def meterProcess (s : State) : State :=
  if s.bitN 0x1003800C 0 && s.stripsDone && !s.engine.metered && !s.meterRange then
    (s.putWords (0x03000000 + 64 * s.fldN 0x1003800C 6 17) s.meterWords
      |> fun t => { t with engine := { t.engine with metered := true } })
  else s

/-- STRIP_PROCESS (R14): a unit of the processing stage, once every input it reads is complete. A strip whose task
runs is taken up again when the task has ended. No block is in the stage before the second boundary. -/
def execStripProcess (u : StripUnit) (s : State) : Res :=
  .next (if s.engine.abx.released then s
  else match u with
    | .inStrip i => inProcess i s
    | .outStrip k => outProcess k s
    | .rawTap t => tapProcess t s
    | .rateBridge n => rbProcess n s
    | .player p => playerProcess p s
    | .generator g => unitProcess 2 g (6656 + g) (1024 + g) 0 s
    | .meterTable => meterProcess s)

/-! ## Commits and boundaries -/

/-- R83: EN goes from 0 to 1, or DOMAIN changes. -/
def stripResets (old new : Word) : Bool := (!old.bit 0 && new.bit 0) || old.fld 1 2 != new.fld 1 2

/-- The gain a MUTE bit means (R66). -/
def muteTo (b : Bool) : Int := if b then 0 else unity

/-- An input strip at a commit (R65, R66, R70, R73, R76, R83); `b` is the block of the boundary. -/
def inCommit (old new : Tbl Word) (b hr : Nat) (i : Nat) (st : InStrip) : InStrip :=
  let o := pget old (keyIS i 0)
  let n := pget new (keyIS i 0)
  let t := n.fld 16 16
  let trim := sval (pget new (keyIS i 8))
  let fader := sval (pget new (keyIS i 0xC))
  let ramp := pget new (keyIS i 0x10)
  let mute := pget new (keyIS i 0x14)
  let st := { st with errShown := false, selBlock := if o.bit 4 != n.bit 4 then some b else st.selBlock }
  if stripResets o n then
    { st with
      c := if n.bit 4 then t else 0, fill := 0,
      trim := .start trim (ramp.fld 0 12), fader := .start fader (ramp.fld 16 12),
      mute := .start (muteTo (mute.bit 0)) (mute.fld 16 12) }
  else
    let told := o.fld 16 16
    let len := fun (w : Word) => if w.fld 1 2 = 1 then 24 * hr else if w.fld 1 2 = 2 then 8 else 24
    let od := pget old (keyIS i 0x20)
    let nd := pget new (keyIS i 0x20)
    { st with
      -- from XF_LEN 0 the position stands whole on its side (log entry 91)
      c := if t = told then st.c else if t = 0 then 0
           else if told = 0 then (if o.bit 4 then t else 0)
           else (roundDiv ((st.c * t : Nat) : Int) told).toNat,
      fill := if od.fld 16 14 = nd.fld 16 14 ∧ granules (od.fld 0 11) (len o) = granules (nd.fld 0 11) (len n)
              then st.fill else 0,
      trim := st.trim.commit trim (ramp.fld 0 12), fader := st.fader.commit fader (ramp.fld 16 12),
      mute := st.mute.commit (muteTo (mute.bit 0)) (mute.fld 16 12) }

/-- An output strip at a commit. -/
def outCommit (old new : Tbl Word) (k : Nat) (st : OutStrip) : OutStrip :=
  let o := pget old (keyOS k 0)
  let n := pget new (keyOS k 0)
  let gain := sval (pget new (keyOS k 0x10))
  let ramp := pget new (keyOS k 0x14)
  let st := { st with errShown := false, fill := if o.bit 0 == n.bit 0 && o.fld 1 2 == n.fld 1 2 then st.fill else 0 }
  if stripResets o n then
    { st with gain := .start gain (ramp.fld 0 12), mute := .start (muteTo (ramp.bit 31)) (ramp.fld 16 12) }
  else
    { st with gain := st.gain.commit gain (ramp.fld 0 12),
              mute := st.mute.commit (muteTo (ramp.bit 31)) (ramp.fld 16 12) }

/-- The sections R83 clears: those of strips whose EN or DOMAIN changes. -/
def resetSecs (old new : Tbl Word) : List Nat :=
  let is := (enabledIS new).filter (fun i => stripResets (pget old (keyIS i 0)) (pget new (keyIS i 0)))
  let os := (enabledOS new).filter (fun k => stripResets (pget old (keyOS k 0)) (pget new (keyOS k 0)))
  ((is.map (fun i => chainSecs (isChain new i))) ++ (os.map (fun k => chainSecs (osChain new k)))).flatten

/-- A rate bridge at a commit: EN from 0 to 1 or a change of DIR while enabled clears the history (R53). -/
def rbCommit (old new : Tbl Word) (n : Nat) (b : RBridge) : RBridge :=
  let o := pget old (rbKey n)
  let w := pget new (rbKey n)
  if w.bit 31 && (!o.bit 31 || o.bit 14 != w.bit 14) then { b with hist := [] } else b

/-- Enabled bridges of a set. -/
def enabledRB (ps : Tbl Word) : List Nat :=
  ps.filterMap (fun e => if 0x10001000 ≤ e.1 ∧ e.1 < 0x10001800 ∧ e.2.bit 31 then some ((e.1 - 0x10001000) / 4) else none)

/-- Strips that a commit may concern: those with state, and those whose word 0 is listed in a set. -/
def stripsOf {α : Type} (base : Nat) (old new : Tbl Word) (held : Tbl α) : List Nat :=
  (held.map (fun e => e.1) ++ listedIn base 0x40 old ++ listedIn base 0x40 new).foldr insertNat []

/-- The LIVE sets of an accepted swap reach the processing stage with the block that starts at its boundary (R113). Every
accepted commit is such a swap, one without a page as well: it re-arms the events of a first time after a swap (log entry
91). -/
def swapReaches (b : Nat) (s : State) : State :=
  let old := s.eng
  let new := s.live
  let s := secsCommit old new (resetSecs old new) s
  let e := s.engine
  let ins := (stripsOf 0x100000000 old new e.ins).foldl (fun t i =>
    Tbl.set t i (inCommit old new (b / 24) s.hRatio i (Tbl.getD t i {})) {}) e.ins
  let ous := (stripsOf 0x200000000 old new e.ous).foldl (fun t k => Tbl.set t k (outCommit old new k (Tbl.getD t k {})) {}) e.ous
  let rbs := (enabledRB new).foldl (fun t n => Tbl.set t n (rbCommit old new n (Tbl.getD t n {})) {}) e.bridges
  { s with
    eng := new
    engine := { e with
      ins := ins, ous := ous, bridges := rbs, rampsEng := e.ramps,
      secs := { s.engine.secs with satArmed := true },
      cmt := { e.cmt with swapped := none },
      abx := { e.abx with mainEng := e.abx.mainLive, amdEng := e.abx.amdLive, domArmed := true, satArmed := true } } }

/-- The state as an accepted swap will leave strips and sections: their ramps and crossfades run from its boundary
(R148, R150), before its block is processed. -/
def State.landed (s : State) : State :=
  match s.engine.cmt.swapped with
  | none => s
  | some b => swapReaches b s

/-- Crossfades that run (SEC_XSTAT, R150). -/
def State.fades (s : State) : Tbl Fade := s.landed.engine.secs.fades

/-- SEC_BUDGET_LIVE: running sections and running partners. -/
def State.budgetLive (s : State) : Nat :=
  ((runningSet s.live).map (fun n => s.secCost (secDom s.live n))).sum +
    (s.fades.map (fun e => s.secCost (secDom s.live e.1))).sum

/-- R75: an AUTO selector whose target feed is invalid for the block while the other is valid. -/
def autoAct (i : Nat) (s : State) : State :=
  let w := s.enp (keyIS i 0)
  let f := s.enp (keyIS i 4)
  let sel := w.bit 4
  let va := s.feedValid (f.fld 0 15)
  let vb := s.feedValid (f.fld 16 15)
  let mine := if sel then vb else va
  let other := if sel then va else vb
  if w.bit 5 && !mine && other && (s.inS i).selBlock != some (s.procBase / 24) then
    let k := keyIS i 0
    let t := { s with eng := Tbl.set s.eng k (w.setBit 4 (!sel)) (paramReset k) }
    let t := t.setLiv k ((s.liv k).setBit 4 (!sel))
    let t := if s.marks.contains k then t else t.setNxtUnmarked k ((s.nxt k).setBit 4 (!sel))
    t.raise 0x0C40 (s.isLedger i)
  else s

/-- Every AUTO selector at a boundary. -/
def autoAll (s : State) : State := (enabledIS s.eng).foldl (fun t i => autoAct i t) s

end Sys2Proof.Machine
end

