-- ==== Sys2Proof/Machine/Abacus.lean ====
section
/-!
DEFINITION. The Abacus matrix (R87 to R111): beads, the sum of a rod, pieces and the collector, page halves, the checker
and its admission of images.
-/

namespace Sys2Proof.Machine

open Sys2Proof

/-! ## Beads (R87) -/

structure Bead where
  src : Nat
  supersede : Bool
  ramp : Nat
  frm : Int
  tgt : Int
  reservedBad : Bool
  /-- it holds an uncorrectable ECC error (R517) -/
  unread : Bool
  deriving DecidableEq, Repr

/-- The bead at index `i` of a page's main or amendment area. -/
def State.bead (s : State) (page : Nat) (amd : Bool) (i : Nat) : Bead :=
  let a := beadAddr page amd i
  let w := s.word a
  { src := w.fld 0 13, supersede := w.bit 14, ramp := w.fld 16 12, frm := sval (s.word (a + 4)),
    tgt := sval (s.word (a + 8)), reservedBad := w.bit 13 || w.bit 15 || w.fld 28 4 != 0,
    unread := s.eccBad a || s.eccBad (a + 8) }

def State.setAbx (s : State) (a : Abacus) : State := { s with engine := { s.engine with abx := a } }

/-! ## Pieces (R99, R100) -/

/-- Main pieces of a rod, as index ranges. -/
def mainPieces (e : RodEntry) : List (Nat × Nat) :=
  if e.count = 0 then []
  else (List.range (e.split + 1)).map (fun j =>
    (e.first + e.count * j / (e.split + 1), e.first + e.count * (j + 1) / (e.split + 1)))

/-- Every piece: amendment area or main, first index, end index. -/
def rodPieces (e : RodEntry) : List (Bool × Nat × Nat) :=
  (mainPieces e).map (fun p => (false, p.1, p.2)) ++
    (if e.acount = 0 then [] else [(true, e.afirst, e.afirst + e.acount)])

/-- Lane cycles and half-units per bead of a domain. -/
def beadCycles (hr dom : Nat) : Nat :=
  if dom = 2 then 10 else if dom = 1 then (if hr = 4 then 98 else 50) else 26
def beadUnits (hr dom : Nat) : Nat := if dom = 2 then 1 else if dom = 1 then 2 * hr else 2

/-- The cost of a piece of `n` beads. -/
def pieceCost (hr dom n : Nat) : Nat := 16 + n * beadCycles hr dom

/-! ## The sum of a rod (R95 to R98) -/

/-- The SRC of every SUPERSEDE bead of a rod. -/
def State.cancelled (s : State) (page : Nat) (e : RodEntry) : List Nat :=
  (List.range e.acount).filterMap (fun i =>
    let b := s.bead page true (e.afirst + i)
    if b.supersede then some b.src else none)

/-- One bead's products over the block, and whether its source is in another domain (R96, R97). -/
def State.beadTerms (s : State) (dom : Nat) (b : Bead) : List Int × Bool :=
  if s.slotDom b.src ≠ dom then ((s.rampTimes dom).map (fun _ => 0), true)
  else (List.zipWith (fun t x => x * rampGain b.frm b.tgt (rampVal s.engine.rampsEng b.ramp t))
    (s.rampTimes dom) (s.slotBlock b.src), false)

/-- The beads of a piece whose gain is applied. A cancelled main bead's is not, nor does its source count as a mismatch of
R97 (log entry 91). -/
def State.pieceBeads (s : State) (e : RodEntry) (p : Bool × Nat × Nat) : List Bead :=
  let x := s.engine.abx
  let page := if p.1 then x.amdEng else x.mainEng
  let bs := (List.range (p.2.2 - p.2.1)).map (fun i => s.bead page p.1 (p.2.1 + i))
  if p.1 then bs
  else
    let cut := s.cancelled x.amdEng e
    bs.filter (fun b => !cut.contains b.src)

/-- The exact sums of a piece for every sample of the block. -/
def State.pieceSums (s : State) (e : RodEntry) (p : Bool × Nat × Nat) : List Int × Bool :=
  (s.pieceBeads e p).foldl (fun acc b =>
    let t := s.beadTerms e.dom b
    (List.zipWith (· + ·) acc.1 t.1, acc.2 || t.2)) (zeros (s.blockLen e.dom), false)

/-- The 64-bit words a piece reads. -/
def State.pieceAddrs (s : State) (p : Bool × Nat × Nat) : List Nat :=
  let page := if p.1 then s.engine.abx.amdEng else s.engine.abx.mainEng
  ((List.range (p.2.2 - p.2.1)).map (fun i =>
    let a := beadAddr page p.1 (p.2.1 + i)
    [a, a + 8])).flatten

/-- Ledger number of a rod (R460): class 0x03. -/
def State.rodLedger (s : State) (r : Nat) : Nat := s.ledger 3 r

/-- Narrow a rod's sums into its source slot, with its saturation (R96, R98). A rod in which an uncorrectable error was read
gives zeros (R111). -/
def rodWrite (r : Nat) (sums : List Int) (s : State) : State :=
  let wrapped := if s.engine.abx.badRods.contains r then sums.map (fun _ => 0) else sums.map (wrapS 72)
  let t := s.putSlot (2048 + r) (wrapped.map (fun x => narrow x 27))
  if wrapped.any (fun x => narrowSats x 27) then
    let a := t.engine.abx
    let t := (t.setAbx { a with
      satmap := Tbl.set a.satmap (r / 32) (Tbl.getD a.satmap (r / 32) 0 ||| Word.ofNat (2 ^ (r % 32))) 0,
      satArmed := false }).setSat true 0
    t.raiseIf a.satArmed 0x0C12 (s.rodLedger r)
  else t

/-- A domain mismatch in rod `r` (R97). -/
def rodDomErr (r : Nat) (b : Bool) (s : State) : State :=
  if b then
    let a := s.engine.abx
    let t := s.setAbx { a with
      domErr := true, domArmed := false,
      domNow := some (match a.domNow with | none => r | some q => min q r) }
    t.raiseIf a.domArmed 0x0C11 (s.rodLedger r)
  else s

/-- Whether every tier below `k` that has pieces is complete. -/
def State.tiersBelow (s : State) (k : Nat) : Bool :=
  let page := s.engine.abx.amdEng
  (s.enabledRods page).all (fun r =>
    let e := s.rod page r
    decide (k ≤ e.tier) || (rodPieces e).isEmpty || s.engine.abx.tiers.contains e.tier)

/-- A lane finishes a piece (R102): an unsplit rod is narrowed and written, a split rod's partial waits for the
collector. An uncorrectable error in a bead or an entry makes the device give up, and the rod gives zeros (R111). -/
def pieceDone (r j : Nat) (s : State) : State :=
  let a := s.engine.abx
  let e := s.rod a.amdEng r
  let ps := rodPieces e
  match ps[j]? with
  | none => s
  | some p =>
    if a.released || !e.en || a.doneP.contains (r * 128 + j) || !s.tiersBelow e.tier ||
        !(s.pieceBeads e p).all (fun b => s.slotReady b.src) then s
    else
      let addrs := dirAddr a.amdEng r :: (dirAddr a.amdEng r + 8) :: s.pieceAddrs p
      let bad := addrs.any s.eccBad
      let t := addrs.foldl State.eccSeen s
      let t := if bad then giveUp 1 0 t else t
      let t := if bad then t.setAbx { t.engine.abx with badRods := insertNat r t.engine.abx.badRods } else t
      let sums := if bad then (zeros (s.blockLen e.dom), false) else s.pieceSums e p
      let t := rodDomErr r sums.2 t
      let t := t.setAbx { t.engine.abx with doneP := insertNat (r * 128 + j) t.engine.abx.doneP }
      if ps.length = 1 then rodWrite r sums.1 t
      else t.setAbx { t.engine.abx with waiting := Tbl.put t.engine.abx.waiting (r * 128 + j) sums.1 }

/-- LANE_PIECE_DONE (R102). -/
def execLanePieceDone (rod : Fin 4096) (piece : Nat) (s : State) : Res := .next (pieceDone rod piece s)

/-- The collector adds a waiting partial modulo 2^72; the last one narrows the rod (R102). -/
def collect (r j : Nat) (s : State) : State :=
  let a := s.engine.abx
  match Tbl.find a.waiting (r * 128 + j) with
  | none => s
  | some xs =>
    let sum := (List.zipWith (· + ·) (Tbl.getD a.sums r (xs.map (fun _ => 0))) xs).map (wrapS 72)
    let n := Tbl.getD a.added r 0 + 1
    let t := s.setAbx { a with
      waiting := Tbl.del a.waiting (r * 128 + j), sums := Tbl.put a.sums r sum, added := Tbl.put a.added r n }
    if n = (rodPieces (s.rod a.amdEng r)).length then rodWrite r sum t else t

/-- COLLECTOR_PARTIAL (R102). -/
def execCollectorPartial (rod : Fin 4096) (piece : Nat) (s : State) : Res := .next (collect rod piece s)

/-- A tier is complete once every rod of it stands at its source slot. -/
def State.tierDone (s : State) (k : Nat) : Bool :=
  let page := s.engine.abx.amdEng
  s.tiersBelow k && (s.enabledRods page).all (fun r => decide ((s.rod page r).tier ≠ k) || s.slotDone (2048 + r))

/-- TIER_COMPLETE (R101). -/
def execTierComplete (tier : Fin 4) (s : State) : Res :=
  let a := s.engine.abx
  .next (onlyIf (!a.released && s.tierDone tier) s (s.setAbx { a with tiers := insertNat tier a.tiers }))

/-- DRAINING halves become BUILDING when the collector releases the last block that read them (R94), and a check that
waits for them freezes them. -/
def drained (s : State) : State :=
  let a := s.engine.abx
  let f := fun (h : Half) => if h = .draining then Half.building else h
  s.setAbx { a with mainOther := f a.mainOther, amdOther := f a.amdOther }

/-- Whether everything the collector waits for has come: all five marks and every tier with pieces (R103). -/
def State.canRelease (s : State) : Bool :=
  !s.engine.abx.released && s.stripsDone && (List.range 4).all (fun c => s.tly.marks.contains c) && s.tiersBelow 4

/-- COLLECTOR_RELEASE (R103): the processed block is complete, for the transmit stage to take at the boundary. -/
def execCollectorRelease (s : State) : Res :=
  .next (onlyIf s.canRelease s
    (let t := drained s
     let e := t.engine
     { t with engine := { e with
        shownAt := some (s.procBase + 23), rampsShown := e.rampsEng,
        abx := { e.abx with released := true, domRod := e.abx.domNow } } }))

/-! ## The deal and the checker (R101, R104 to R109) -/

/-- The place of the lowest clock, the first where several are equal. -/
def lowestLane (lanes : List Nat) : Nat := lanes.findIdx (fun x => lanes.all (fun y => decide (x ≤ y)))

/-- Deal pieces (rod, cost) to lanes: the clocks after it, and the first rod whose piece ends too late. -/
def dealPieces : List (Nat × Nat) → List Nat → Option Nat → List Nat × Option Nat
  | [], lanes, late => (lanes, late)
  | (r, c) :: ps, lanes, late =>
    let i := lowestLane lanes
    let fin := lanes.getD i 0 + c
    dealPieces ps (lanes.set i fin) (if late.isNone && decide (499500 < fin + 128) then some r else late)

/-- The pieces of a tier in deal order: rod and cost. -/
def tierPieces (hr tier : Nat) (rods : List (Nat × RodEntry)) : List (Nat × Nat) :=
  ((rods.filter (fun p => p.2.tier == tier)).map (fun p =>
    (rodPieces p.2).map (fun q => (p.1, pieceCost hr p.2.dom (q.2.2 - q.2.1))))).flatten

/-- Deal the tiers in order from a start time: the finish, and the first rod that ends too late. -/
def dealTiers (hr : Nat) (rods : List (Nat × RodEntry)) : List Nat → Nat → Option Nat → Nat × Option Nat
  | [], t0, late => (t0, late)
  | k :: ks, t0, late =>
    let ps := tierPieces hr k rods
    if ps.isEmpty then dealTiers hr rods ks t0 late
    else
      let r := dealPieces ps (List.replicate 64 t0) late
      dealTiers hr rods ks (r.1.foldl max 0 + 128) r.2

/-- The enabled rods of an image with their entries. -/
def State.imageRods (s : State) (amd : Nat) : List (Nat × RodEntry) :=
  (s.enabledRods amd).map (fun r => (r, s.rod amd r))

/-- The half-units of a rod (R104). -/
def rodUnits (hr : Nat) (e : RodEntry) : Nat := (e.count + e.acount) * beadUnits hr e.dom

/-- The rod at which the running sum passes the capacity. -/
def overUnits (hr : Nat) : Nat → List (Nat × RodEntry) → Option Nat
  | _, [] => none
  | acc, (r, e) :: t =>
    if 2097152 < acc + rodUnits hr e then some r else overUnits hr (acc + rodUnits hr e) t

/-- Two index ranges share an index. -/
def overlaps (a n b m : Nat) : Bool := decide (0 < n ∧ 0 < m ∧ a < b + m ∧ b < a + n)

/-- What the checker finds: STATUS, REASON, ROD, INDEX, AREA. -/
structure Finding where
  status : Nat
  reason : Nat
  rod : Nat
  index : Nat
  area : Nat
  deriving DecidableEq, Repr

/-- The beads of a rod in an image: area, index, bead. -/
def State.imageBeads (s : State) (main amd : Nat) (e : RodEntry) : List (Nat × Nat × Bead) :=
  (List.range e.count).map (fun i => (0, e.first + i, s.bead main false (e.first + i))) ++
    (List.range e.acount).map (fun i => (1, e.afirst + i, s.bead amd true (e.afirst + i)))

/-- The first bead that breaks a rule. -/
def badBead (p : Nat → Bead → Bool) (bs : List (Nat × Nat × Bead)) : Option (Nat × Nat) :=
  (bs.find? (fun b => p b.1 b.2.2)).map (fun b => (b.1, b.2.1))

/-- The first BAD_PARAM reason of a rod, in rising REASON order (R106). -/
def State.checkRod (s : State) (main amd : Nat) (rods : List (Nat × RodEntry)) (r : Nat) (e : RodEntry) :
    Option Finding :=
  let bad := fun (reason : Nat) => some (Finding.mk 3 reason r 0 0)
  -- an entry that cannot be read is refused as one with a reserved bit (R517)
  if s.eccBad (dirAddr amd r) || s.eccBad (dirAddr amd r + 8) then bad 0x15
  else if 983040 < e.first + e.count ∨ 65536 < e.afirst + e.acount then bad 0x10
  else if 16384 < e.count + e.acount then bad 0x11
  else if (0 < e.count ∧ e.count < e.split + 1) ∨ (e.count = 0 ∧ e.split ≠ 0) then bad 0x12
  else if (rodPieces e).any (fun p => decide (4096 < p.2.2 - p.2.1)) then bad 0x13
  else if e.dom = 3 then bad 0x14
  else if e.reservedBad then bad 0x15
  else
    let bs := s.imageBeads main amd e
    match badBead (fun area b => b.reservedBad || b.unread || (area == 0 && b.supersede)) bs with
    | some p => some ⟨3, 0x15, r, p.2, p.1⟩
    | none =>
      match badBead (fun _ b => decide (2048 ≤ b.src ∧ b.src < 6144 ∧ e.tier ≤ (s.rod amd (b.src - 2048)).tier)) bs with
      | some p => some ⟨3, 0x16, r, p.2, p.1⟩
      | none =>
        if rods.any (fun q => q.1 != r &&
            (overlaps e.first e.count q.2.first q.2.count || overlaps e.afirst e.acount q.2.afirst q.2.acount))
        then bad 0x17 else none

/-- The sums of an image: half-units, finish, pieces, and the rod of reason 0x02. They are formed of every image, one refused
with BAD_PARAM too, in which a rod of DOMAIN 3 costs what one of M costs (log entry 91). -/
def State.imageSums (s : State) (amd : Nat) : Nat × Nat × Nat × Option Nat :=
  let rods := s.imageRods amd
  let d := dealTiers s.hRatio rods [0, 1, 2, 3] 0 none
  ((rods.map (fun p => rodUnits s.hRatio p.2)).sum, d.1, (rods.map (fun p => (rodPieces p.2).length)).sum, d.2)

/-- The cycles of the LIVE page, and of the one that an image prepares. -/
def State.liveCycles (s : State) : Nat := (s.imageSums s.engine.abx.amdLive).2.1
def State.nextCycles (s : State) : Nat := (s.imageSums (1 - s.engine.abx.amdLive)).2.1

/-- What the checker finds in an image: OK is STATUS 0. -/
def State.checkImage (s : State) (main amd : Nat) : Finding :=
  let rods := s.imageRods amd
  match rods.findSome? (fun p => s.checkRod main amd rods p.1 p.2) with
  | some f => f
  | none =>
    match overUnits s.hRatio 0 rods with
    | some r => ⟨5, 1, r, 0, 0⟩
    | none =>
      let sums := s.imageSums amd
      if 499500 < sums.2.1 then ⟨5, 2, sums.2.2.2.getD 0, 0, 0⟩ else ⟨0, 0, 0, 0, 0⟩

/-- Pages of the image a check of `kind` reads: its main and its amendment half. -/
def Abacus.imagePages (a : Abacus) (kind : Nat) : Nat × Nat :=
  (if kind = 0 then 1 - a.mainLive else a.mainLive, 1 - a.amdLive)

/-- Freeze the BUILDING halves a check names; it runs once none of them drains (R105). -/
def Abacus.freeze (a : Abacus) : Abacus :=
  let f := fun (h : Half) => if h = .building then Half.frozen else h
  let m := if a.chkKind = 0 then f a.mainOther else a.mainOther
  let d := f a.amdOther
  { a with mainOther := m, amdOther := d,
           chkRun := (a.chkKind != 0 || m == .frozen) && d == .frozen }

/-- A write of CHECK (R105). -/
def abxCheck (kind : Nat) (s : State) : State :=
  let a := s.engine.abx
  if a.chkBusy || a.mainOther == .frozen || a.amdOther == .frozen then s.setAbx { a with chkIgn := true }
  else s.setAbx (Abacus.freeze { a with chkBusy := true, chkKind := kind, accepted := false, done := false })

/-- CHECK: a write of ABX_COMMIT with CHECK = 1 and this KIND. -/
def execCheck (kind : PageKind) (s : State) : Res :=
  let k := match kind with | .full => 0 | .amend => 1
  .next (abxCheck k (s.setFldN 0x10010004 0 1 k))

/-- CHECK_START: the halves a waiting check lacks have become BUILDING (R105). -/
def execCheckStart (s : State) : Res :=
  let a := s.engine.abx
  .next (onlyIf (a.chkBusy && !a.chkRun) s (s.setAbx a.freeze))

/-- The errors a reader of an image meets. -/
def State.imageAddrs (s : State) (main amd : Nat) : List Nat :=
  (s.imageRods amd).foldr (fun p acc =>
    dirAddr amd p.1 :: (dirAddr amd p.1 + 8) ::
      ((s.imageBeads main amd p.2).map (fun b => beadAddr (if b.1 = 0 then main else amd) (b.1 != 0) b.2.1)) ++ acc) []

/-- The end of a check (R106). -/
def checkDone (s : State) : State :=
  let a := s.engine.abx
  if !(a.chkBusy && a.chkRun) then s
  else
    let pg := a.imagePages a.chkKind
    let f := s.checkImage pg.1 pg.2
    let sums := s.imageSums pg.2
    let ok := decide (f.status = 0)
    let s := if s.memc.ecc.isEmpty then s else (s.imageAddrs pg.1 pg.2).foldl State.eccRead s
    let back := fun (h : Half) => if h = .frozen then (if ok then Half.frozen else .building) else h
    let t := s.setAbx { a with
      chkBusy := false, chkRun := false, done := true, accepted := ok, status := f.status, reason := f.reason,
      rod := f.rod, index := f.index, area := f.area, units := min 0xFFFFFF sums.1,
      cycles := min 0xFFFFFF sums.2.1, pieces := sums.2.2.1, mainOther := back a.mainOther,
      amdOther := back a.amdOther }
    t.raiseIf (!ok) 0x0C10 (f.status + f.reason * 2 ^ 8 + f.rod * 2 ^ 16)

/-- CHECK_DONE (R106). -/
def execCheckDone (s : State) : Res := .next (checkDone s)

/-- A write of ABORT: no frozen half and no check, no effect (R107). The result then shows ABORTED with DONE = 1 and no rod and
no bead (log entry 91). -/
def abxAbort (s : State) : State :=
  let a := s.engine.abx
  if !a.chkBusy && a.mainOther != .frozen && a.amdOther != .frozen then s
  else
    let back := fun (h : Half) => if h = .frozen then Half.building else h
    s.setAbx { a with chkBusy := false, chkRun := false, accepted := false, done := true, status := 8, reason := 0,
                      rod := 0, index := 0, area := 0, mainOther := back a.mainOther, amdOther := back a.amdOther }

/-- ABORT (R107). -/
def execAbort (s : State) : Res := .next (abxAbort s)

/-- R107: an image of kind ABX_COMMIT.KIND is FROZEN with check OK. -/
def State.imageReady (s : State) : Bool :=
  let a := s.engine.abx
  a.accepted && !a.chkBusy && a.chkKind == s.fldN 0x10010004 0 1

/-- The swap of halves (R94): the old LIVE halves drain until the block in the stage is released. -/
def abxSwap (s : State) : State :=
  let a := s.engine.abx
  let gone := if a.released then Half.building else .draining
  s.setAbx { a with
    mainLive := if a.chkKind = 0 then 1 - a.mainLive else a.mainLive,
    mainOther := if a.chkKind = 0 then gone else a.mainOther,
    amdLive := 1 - a.amdLive, amdOther := gone, accepted := false,
    liveUnits := a.units, liveCycles := a.cycles, livePieces := a.pieces }

/-! ## Fabric access (R93, R94) -/

/-- The offset lies in the main area, the amendment area or the directory of its page. -/
def pageArea (a : Nat) : Option Bool :=
  let o := a % 0x01100000
  if o < 0x00F00000 then some false else if o < 0x01010000 then some true else none

/-- Whether a half of a page takes fabric writes. -/
def Abacus.writable (a : Abacus) (page : Nat) (amd : Bool) : Bool :=
  if amd then page != a.amdLive && a.amdOther == .building else page != a.mainLive && a.mainOther == .building

/-- A dropped page write. -/
def pageDrop (addr : Nat) (s : State) : State :=
  let a := s.engine.abx
  (s.setAbx { a with wrDrop := incHold 0xFFFF a.wrDrop, wrArmed := false }).raiseIf a.wrArmed 0x0C13 addr

/-- A fabric write to the Abacus pages, with its error response where it is dropped. -/
def pageWrite (addr : Nat) (w : Word) (s : State) : State × Bool :=
  match pageArea addr with
  | none => (pageDrop addr s, true)
  | some amd =>
    if s.engine.abx.writable (addr / 0x01100000) amd then (s.putWord addr w, false) else (pageDrop addr s, true)

/-- A fabric read of the Abacus pages: the reserved range reads 0. -/
def pageRead (addr : Nat) (s : State) : Word := if (pageArea addr).isNone then 0 else s.word addr

/-- Clear the drop count and re-arm event 0x0C13. -/
def wrDropClr (s : State) : State := s.setAbx { s.engine.abx with wrDrop := 0, wrArmed := true }

/-- WRDROP_CLR (R94). -/
def execWrdropClr (s : State) : Res := .next (wrDropClr s)

/-! ## ABX registers -/

def Half.code : Half → Nat
  | .building => 0
  | .frozen => 1
  | .draining => 2

def abxRead (addr : Nat) (s : State) : Word :=
  let a := s.engine.abx
  if 0x10010100 ≤ addr then (if addr < 0x10010300 then Tbl.getD a.satmap ((addr - 0x10010100) / 4) 0 else 0)
  else match addr - 0x10010000 with
    | 0x00 => packW [(0, a.mainLive), (1, a.amdLive), (4, a.mainOther.code), (6, a.amdOther.code), (8, bitOf a.chkBusy),
        (9, bitOf a.domErr), (10, bitOf a.chkIgn)]
    | 0x04 => (s.reg addr).setBit 31 a.chkBusy
    | 0x08 => packW [(0, a.status), (8, a.reason), (16, a.rod), (31, bitOf a.done)]
    | 0x0C => packW [(0, a.index), (31, a.area)]
    | 0x10 => Word.ofNat a.units
    | 0x14 => Word.ofNat a.cycles
    | 0x18 => Word.ofNat a.pieces
    | 0x20 => Word.ofNat a.liveUnits
    | 0x24 => Word.ofNat a.liveCycles
    | 0x28 => Word.ofNat a.livePieces
    | 0x30 => Word.ofNat a.wrDrop
    | 0x34 => (match a.domRod with | none => 0 | some r => packW [(0, r), (31, 1)])
    | _ => 0

/-- A write that sets ABORT and CHECK together acts in that order. -/
def abxWrite (addr : Nat) (v : Word) (s : State) : State :=
  let a := s.engine.abx
  if 0x10010100 ≤ addr then
    (if addr < 0x10010300 then
      let n := (addr - 0x10010100) / 4
      s.setAbx { a with satmap := Tbl.set a.satmap n (Tbl.getD a.satmap n 0 &&& ~~~v) 0 }
     else s)
  else match addr - 0x10010000 with
    | 0x00 => s.setAbx { a with domErr := a.domErr && !v.bit 9, chkIgn := a.chkIgn && !v.bit 10 }
    | 0x04 =>
      let t := s.writeRW addr v
      let t := if v.bit 30 then abxAbort t else t
      if v.bit 31 then abxCheck (v.fld 0 1) t else t
    | 0x30 => if v.bit 31 then wrDropClr s else s
    | _ => s

end Sys2Proof.Machine
end

