-- ==== Sys2Proof/Machine/NextCheck.lean ====
section
/-!
DEFINITION. The rules every NEXT set is checked against (R124, R146, R170): RMP_NEXT_BAD, SEC_NEXT_BAD and
TLY_NEXT_BAD are computed from the NEXT sets whenever they are asked for.
-/

namespace Sys2Proof.Machine

open Sys2Proof

/-! ## Strips and ramp slots (R67, R69, R77, R79, R80, R85, R115) -/

/-- A chain passes index 65,535 or holds a section of another domain. -/
def badChain (ps : Tbl Word) (c : Nat × Nat × Nat) : Bool :=
  (0 < c.2.1 && decide (65536 < c.1 + c.2.1)) || (chainSecs c).any (fun n => secDom ps n != c.2.2)

/-- Granules of the input delay pool (R69). -/
def State.poolGranules (s : State) : Nat := min 16 (s.fldN 0x10038008 0 5) * 1024

def State.badIS (s : State) (ps : Tbl Word) (i : Nat) : Bool :=
  let w := pget ps (keyIS i 0)
  let sect := pget ps (keyIS i 0x18)
  let dly := pget ps (keyIS i 0x20)
  let need := granules (dly.fld 0 11) (s.blockLen (w.fld 1 2))
  w.fld 1 2 == 3 ||
    (w.bit 0 && (sect.fld 16 2 == 3 || decide (8 < sect.fld 20 4) || badChain ps (isChain ps i) ||
      (0 < need && decide (s.poolGranules < dly.fld 16 14 + need))))

/-- The number of destinations of each kind (R80). -/
def destRange (kind : Nat) : Nat :=
  if kind = 1 then 64 else if kind = 2 then 512 else if kind = 3 then 2048 else 24576

def State.badOS (s : State) (ps : Tbl Word) (k : Nat) : Bool :=
  let w := pget ps (keyOS k 0)
  w.fld 1 2 == 3 ||
    (w.bit 0 && (decide (16 < pfld ps (keyOS k 4) 16 5) || badChain ps (osChain ps k) ||
      (0 < pfld ps (keyOS k 0xC) 0 17 && !s.odlyOn) ||
      (w.bit 3 && decide (2047 < w.fld 16 12)) ||
      (match destOf ps k with | none => false | some d => decide (destRange d.1 ≤ d.2))))

/-- Failing input strips, output strips and ramp slots of the NEXT set. -/
def State.badStripsI (s : State) : List Nat := (listedIn 0x100000000 0x40 s.next).filter (s.badIS s.next)
def State.badStripsO (s : State) : List Nat := (listedIn 0x200000000 0x40 s.next).filter (s.badOS s.next)
def State.badRamps (s : State) : List Nat :=
  s.next.filterMap (fun e => if 0x10020004 ≤ e.1 ∧ e.1 < 0x10024000 ∧ 6 ≤ e.2.fld 0 3
    then some ((e.1 - 0x10020000) / 4) else none)

/-! ## Sections (R146) -/

/-- A section will start a crossfade at the next boundary. -/
def State.willFade (s : State) (n : Nat) : Bool :=
  runsIn s.live n && runsIn s.next n && decide (coefsOf s.next n ≠ coefsOf s.live n) && secRamp s.next n != 0

/-- The boundary at which the NEXT sets could land next: the one that has come while its armed commit is not resolved, else
the one that ends the block being received. -/
def State.nextBoundary (s : State) : Nat :=
  match s.engine.cmt.armed with
  | some a => if a.c / 24 * 24 ≤ s.sctr then s.sctr else s.sctr + 24
  | none => s.sctr + 24

/-- The running crossfade `f` of section `n` goes on past the next boundary: the commit leaves the section and its strip as
they are (R143, R151), and the last sample before the boundary does not read R = 2^30 (R150). -/
def State.fadeStays (s : State) (n : Nat) (f : Fade) : Bool :=
  let last : Int := (s.nextBoundary : Int) - (if secDom s.live n = 2 then 3 else 1)
  runsIn s.next n && decide (coefsOf s.next n = coefsOf s.live n) && !(resetSecs s.live s.next).contains n &&
    decide (rampVal s.landed.engine.rampsEng f.ramp last ≠ 2 ^ 30)

/-- R149 broken by the NEXT partner of a section that will start a crossfade. -/
def State.badPartner (s : State) (starting : List Nat) (n : Nat) : Bool :=
  let p := secPartner s.next n
  p == n || runsIn s.live p || runsIn s.next p ||
    s.fades.any (fun e => e.2.partner == p && s.fadeStays e.1 e.2) ||
    starting.any (fun m => m != n && secPartner s.next m == p)

/-- The reasons 1 to 3 of every failing section, lowest section first, lowest reason first; the indexes of a chain beyond the
pool count as sections too (log entry 104). -/
def State.badSecs (s : State) : List (Nat × Nat) :=
  let run := runningSecs s.next
  let starting := run.filter s.willFade
  let all := (listedAt 0x300000000 0x20 0x18 s.next ++ run).foldr insertNat []
  all.filterMap (fun n =>
    if secDom s.next n = 3 then some (n, 1)
    else if 2 ≤ run.count n then some (n, 2)
    else if starting.contains n && s.badPartner starting n then some (n, 3)
    else none)

/-- SEC_BUDGET_NEXT: the section-samples as they will be at the next boundary; a DOMAIN of 3 costs as M (log entry 104). -/
def State.budgetNext (s : State) : Nat :=
  let run := runningSet s.next
  let cost := fun n => s.secCost (secDom s.next n)
  (run.map cost).sum + ((run.filter s.willFade).map cost).sum +
    ((s.fades.filter (fun e => s.fadeStays e.1 e.2)).map (fun e => cost e.1)).sum

def State.budgetOver (s : State) : Bool := decide (1572864 < s.budgetNext)

/-- SEC_NEXT_BAD. ANY reads 1 also where the budget alone is exceeded (log entry 104). -/
def State.secNextBad (s : State) : Word :=
  let bad := s.badSecs
  let tooMuch := s.budgetOver
  packW [(0, match bad with | [] => if tooMuch then 0xFFFF else 0 | e :: _ => e.1),
    (16, match bad with | [] => if tooMuch then 4 else 0 | e :: _ => e.2),
    (19, bitOf tooMuch), (31, bitOf (!bad.isEmpty || tooMuch))]

/-! ## Tally instances (R170) -/

/-- The unit an entry names: its domain in a set. -/
def State.unitDom (s : State) (ps : Tbl Word) (w : Word) : Nat :=
  match w.fld 0 2 with
  | 0 => pfld ps (keyIS (w.fld 2 11) 0) 1 2
  | 1 => pfld ps (keyOS (w.fld 2 11) 0) 1 2
  | 2 => 0
  | _ => s.playerDom (w.fld 2 11)

/-- The DYN word and the EN bit of the strip an entry names. -/
def entryDyn (ps : Tbl Word) (w : Word) : Word :=
  if w.fld 0 2 = 0 then pget ps (keyIS (w.fld 2 11) 0x1C) else pget ps (keyOS (w.fld 2 11) 8)
def entryOn (ps : Tbl Word) (w : Word) : Bool :=
  if w.fld 0 2 = 0 then pbit ps (keyIS (w.fld 2 11) 0) 0 else pbit ps (keyOS (w.fld 2 11) 0) 0

/-- The exchange blocks of an entry, in 16-byte units: offset and length. -/
def State.entryBlocks (s : State) (ps : Tbl Word) (k j : Nat) (w : Word) : List (Nat × Nat) :=
  let x := pget ps (keyInst k j 1)
  let len := s.blockLen (s.unitDom ps w) / 4
  let out := (x.fld 10 10, len)
  if 2 ≤ w.fld 0 2 then [out]
  else
    (x.fld 0 10, len) :: ((if x.fld 10 10 = x.fld 0 10 then [] else [out]) ++
      (if (entryDyn ps w).bit 31 then [(x.fld 20 10, len)] else []))

def blocksClash (as bs : List (Nat × Nat)) : Bool := as.any (fun a => bs.any (fun b => overlaps a.1 a.2 b.1 b.2))

/-- Some two blocks of one list overlap. -/
def selfClash : List (Nat × Nat) → Bool
  | [] => false
  | a :: t => blocksClash [a] t || selfClash t

/-- The lowest reason of R170 a VALID entry fails. -/
def State.entryReason (s : State) (ps : Tbl Word) (all : List (Nat × Nat × Word)) (e : Nat × Nat × Word) :
    Option Nat :=
  let k := e.1
  let j := e.2.1
  let w := e.2.2
  let kind := w.fld 0 2
  let dyn := entryDyn ps w
  let mine := all.filter (fun q => q.1 == k)
  let task := (mine.filter (fun q => q.2.2.fld 13 4 == w.fld 13 4)).map (fun q => q.2.1)
  let blocks := s.entryBlocks ps k j w
  if kind < 2 ∧ entryOn ps w ∧ ¬ (dyn.bit 0 ∧ dyn.fld 1 6 = k ∧ dyn.fld 8 4 = w.fld 13 4) then some 2
  else if task.any (fun a => task.any (fun b => decide (a + task.length ≤ b))) then some 3
  else if 2 ≤ kind ∧ 2 ≤ (all.filter (fun q => q.2.2.fld 0 2 == kind && q.2.2.fld 2 11 == w.fld 2 11)).length then some 4
  else if selfClash blocks || blocks.any (fun b => decide (1024 < b.1 + b.2)) ||
      mine.any (fun q => q.2.1 != j && blocksClash blocks (s.entryBlocks ps k q.2.1 q.2.2)) then some 5
  else if (kind = 1 ∧ 1023 < w.fld 2 11) ∨ (kind = 2 ∧ 255 < w.fld 2 11) ∨ (kind = 3 ∧ 511 < w.fld 2 11) then some 7
  else none

/-- An enabled strip with DYN_EN that no entry of its core and task names: core and reason 1. A failure that concerns no
entry stands after those of entries, as entry 64. -/
def missingEntry (all : List (Nat × Nat × Word)) (kind idx : Nat) (dyn : Word) : Option (Nat × Nat × Nat) :=
  if dyn.bit 0 && !all.any (fun q => q.1 == dyn.fld 1 6 && q.2.2.fld 0 2 == kind && q.2.2.fld 2 11 == idx &&
      q.2.2.fld 13 4 == dyn.fld 8 4)
  then some (dyn.fld 1 6, 64, 1) else none

/-- Every failure: core, entry, reason. -/
def State.badTally (s : State) : List (Nat × Nat × Nat) :=
  let ps := s.next
  let all := validEntries ps
  (enabledIS ps).filterMap (fun i => missingEntry all 0 i (pget ps (keyIS i 0x1C))) ++
    (enabledOS ps).filterMap (fun k => missingEntry all 1 k (pget ps (keyOS k 8))) ++
    all.filterMap (fun e => (s.entryReason ps all e).map (fun r => (e.1, e.2.1, r))) ++
    (List.range 64).filterMap (fun k => if 499500 < s.budgetSum k then some (k, 64, 6) else none)

/-- One failure comes before another: core, then entry, then reason. -/
def failLe (a b : Nat × Nat × Nat) : Bool :=
  decide (a.1 < b.1 ∨ (a.1 = b.1 ∧ (a.2.1 < b.2.1 ∨ (a.2.1 = b.2.1 ∧ a.2.2 ≤ b.2.2))))

/-- TLY_NEXT_BAD. -/
def State.tlyNextBad (s : State) : Word :=
  let bad := s.badTally
  match bad.find? (fun a => bad.all (failLe a)) with
  | none => 0
  | some a => packW [(0, a.1), (8, a.2.2), (16, a.2.1 % 64), (31, 1)]

/-! ## The count (R124) -/

/-- The full count of failing units. -/
def State.nextBadCount (s : State) : Nat :=
  s.badStripsI.length + s.badStripsO.length + s.badRamps.length + s.badSecs.length + bitOf s.budgetOver +
    s.badTally.length

/-- The unit INDEX and KIND name. -/
def State.nextBadUnit (s : State) : Option (Nat × Nat) :=
  match s.badStripsI, s.badStripsO, s.badRamps with
  | i :: _, _, _ => some (0, i)
  | [], k :: _, _ => some (1, k)
  | [], [], n :: _ => some (2, n)
  | [], [], [] => none

/-- RMP_NEXT_BAD. -/
def State.nextBadWord (s : State) : Word :=
  let c := min 0x1FFF s.nextBadCount
  match s.nextBadUnit with
  | none => Word.ofNat c
  | some u => packW [(0, c), (16, u.2), (28, u.1), (31, 1)]

end Sys2Proof.Machine
end

