-- ==== Sys2Proof/Machine/Commit.lean ====
section
/-!
DEFINITION. The commit unit (R112 to R132): arming, cancelling, confirming, the resolution at the boundary, writes of
NEXT parameters and their epochs, and the registers of ramps, strips, sections and formats.
-/

namespace Sys2Proof.Machine

open Sys2Proof

def State.setCmt (s : State) (c : Commit) : State := { s with engine := { s.engine with cmt := c } }

/-- B = 24 floor(C / 24) (R112). -/
def boundaryOf (c : Nat) : Nat := c / 24 * 24

/-- RMP_CMT_TGT. -/
def State.cmtTarget (s : State) : Nat := s.regN 0x1002C000 + s.regN 0x1002C004 * 2 ^ 32

/-- A refused arm or resolution (R125, R126, R136). -/
def cmtRefuse (status reason : Nat) (s : State) : State :=
  let c := s.engine.cmt
  (s.setCmt { c with armed := none, confirm := false, cancelled := false, state := 3, status := status,
                     reason := reason }).raiseIf (reason ≠ 0x23) 0x0C21 (status * 2 ^ 8 + reason)

/-- A commit that CANCEL has withdrawn no longer holds the unit: an arm before its B ends it (R126, R127, R470; log entry
45). -/
def cmtMakeRoom (s : State) : State :=
  if s.engine.cmt.armed.isSome ∧ s.engine.cmt.cancelled then
    let t := s.csc.tree
    let s := if t.mine ∧ t.res = 0 then { s with csc := { s.csc with tree := { t with res := 2 } } } else s
    cmtRefuse 8 0x24 s
  else s

/-- Arm for a commit sample (R125). -/
def cmtArm (c : Nat) (page cond : Bool) (s : State) : State :=
  let s := cmtMakeRoom s
  let u := s.engine.cmt
  if u.armed.isSome then s.setCmt { u with armIgn := true }
  else if boundaryOf c < 24 * (s.sctr / 24 + 2) then cmtRefuse 3 0x20 s
  else s.setCmt { u with armed := some ⟨c, page, cond⟩, confirm := false, cancelled := false, state := 1 }

/-- CANCEL and CONFIRM have an effect only while a commit is armed (R127). -/
def cmtCancel (s : State) : State :=
  let u := s.engine.cmt
  if u.armed.isSome then s.setCmt { u with cancelled := true } else s

def cmtConfirm (s : State) : State :=
  let u := s.engine.cmt
  if u.armed.isSome then s.setCmt { u with confirm := true } else s

/-- A write of RMP_CMT_CTL. -/
def cmtCtlWrite (v : Word) (s : State) : State :=
  let t := s.writeRW 0x1002C008 v
  let t := if v.bit 31 then cmtArm t.cmtTarget (v.bit 0) (v.bit 1) t else t
  let t := if v.bit 29 then cmtConfirm t else t
  if v.bit 30 then cmtCancel t else t

/-- COMMIT_ARM: a write of RMP_CMT_CTL with ARM = 1 (R125). -/
def execCommitArm (ctl : Word) (s : State) : Res := .next (cmtCtlWrite (ctl.setBit 31 true) s)

/-- CANCEL (R127). -/
def execCancel (s : State) : Res := .next (cmtCancel s)

/-- CONFIRM (R126, R131). -/
def execConfirm (s : State) : Res := .next (cmtConfirm s)

/-! ## The resolution (R118, R126) -/

/-- Status and reason at B, in the order of R126. -/
def State.cmtVerdict (s : State) (a : Armed) : Nat × Nat :=
  let u := s.engine.cmt
  if u.cancelled then (8, 0x24)
  else if a.cond && !u.confirm then (7, 0x23)
  else if s.nextBadCount ≠ 0 then (3, 0x21)
  else if a.page && !s.imageReady then (6, 0x22)
  else (0, 0)

/-- Re-arm every marked slot (R118). -/
def rearmAll (b c : Nat) (s : State) : State :=
  let ns := s.marks.filterMap (fun k =>
    if 0x10020004 ≤ k ∧ k < 0x10024000 then some ((k - 0x10020000) / 4)
    else if 0x10024004 ≤ k ∧ k < 0x10028000 then some ((k - 0x10024000) / 4) else none)
  { s with engine := { s.engine with ramps := ns.foldl (fun t n =>
      Tbl.put t n (rearm (s.nxt (0x10020000 + 4 * n)) (s.nxt (0x10024000 + 4 * n)) b c)) s.engine.ramps } }

/-- LIVE entries whose RESET bit the cluster sets (R173). -/
def resetEntries (old new : Tbl Word) : List Nat :=
  (validEntries new).filterMap (fun e =>
    let w := e.2.2
    let kind := w.fld 0 2
    let idx := w.fld 2 11
    let key := if kind = 0 then keyIS idx 0 else keyOS idx 0
    let fresh := !pbit old (keyInst e.1 e.2.1 0) 31
    let strip := decide (kind < 2) && (stripResets (pget old key) (pget new key) ||
      (entryDyn old w).fld 0 7 != (entryDyn new w).fld 0 7 || (entryDyn old w).fld 8 4 != (entryDyn new w).fld 8 4)
    if fresh || strip then some (64 * e.1 + e.2.1) else none)

/-- An accepted commit: everything that happens in one step at B (R126). -/
def cmtAccept (a : Armed) (s : State) : State :=
  let b := boundaryOf a.c
  let s := rearmAll b a.c s
  let s := if a.page then abxSwap s else s
  let fresh := resetEntries s.live s.next
  let s := { s with live := s.next, marks := [],
                    tly := { s.tly with fresh := fresh.foldl (fun l e => insertNat e l) s.tly.fresh } }
  let u := s.engine.cmt
  let s := s.setCmt { u with armed := none, confirm := false, cancelled := false, state := 2, status := 0, reason := 0,
                             epoch := (u.epoch + 1) % 2 ^ 32, lastC := a.c, swapped := some b }
  let s := s.raise 0x0C20 ((u.epoch + 1) % 2 ^ 16)
  match (enabledOS s.live).find? (destConf s.live) with
  | none => s
  | some k => s.raise 0x0C42 (s.osLedger k)

/-- The armed commit's boundary has come. -/
def State.cmtDue (s : State) : Option Armed :=
  match s.engine.cmt.armed with
  | none => none
  | some a => if boundaryOf a.c ≤ s.sctr then some a else none

/-- The resolution at B, with its status and reason where one was due. -/
def cmtResolve (s : State) : State × Option (Armed × Nat × Nat) :=
  match s.cmtDue with
  | none => (s, none)
  | some a =>
    let v := s.cmtVerdict a
    if v.1 = 0 then (cmtAccept a s, some (a, v))
    else
      ((cmtRefuse v.1 v.2 s).raiseIf (v.2 = 0x23) 0x0C22 s.node, some (a, v))

/-! ## NEXT writes (R121, R122) -/

/-- The parameter behind a register address as an initiator sees it, with its writable bits: windows show the strip
or section its SEC_SSEL or SEC_XSEL selects (R85, R153). -/
def State.paramKey (s : State) (i : Init) (a : Nat) : Option (Nat × Nat) :=
  let off := a % 0x40
  if 0x10038100 ≤ a ∧ a < 0x10038124 then some (keyIS ((s.iniReg 0x10038000 i).fld 0 11) off, regMask a)
  else if 0x10038200 ≤ a ∧ a < 0x1003821C then some (keyOS ((s.iniReg 0x10038000 i).fld 16 10) off, regMask a)
  else if 0x10030004 ≤ a ∧ a < 0x10030020 then some (keySec ((s.iniReg 0x10030000 i).fld 0 16) (a % 0x20), regMask a)
  else if (0x10039000 ≤ a ∧ a < 0x1003A400) ∨ (0x10001000 ≤ a ∧ a < 0x10001800) ∨ (0x10020004 ≤ a ∧ a < 0x10024000) ∨
      (0x10024004 ≤ a ∧ a < 0x10028000) ∨ (0x100E1000 ≤ a ∧ a < 0x100E1200) ∨
      a = 0x100E0120 ∨ a = 0x100E0160 ∨ a = 0x100E01A0 then some (a, regMask a)
  else if 0x02400000 ≤ a ∧ a < 0x02C00000 ∧ 0x1C200 ≤ (a - 0x02400000) % 0x20000 then some (keyTly a, 0xFFFFFFFF)
  else none

def keyWepoch : Nat := 0x1002801C

/-- A write of a NEXT parameter: stamped, marked, and checked whenever NEXT_BAD is read (R122 to R124). Bit 30 of an
instance entry is LIVE only (R169). -/
def nextWrite (i : Init) (a : Nat) (v : Word) (s : State) : State :=
  match s.paramKey i a with
  | none => s
  | some (k, m) =>
    let v := if k = keyTly a ∧ (a - 0x02400000) % 0x20000 < 0x1C400 ∧ a % 8 = 0 then v.setBit 30 false else v
    (s.setNxt k (mergeMask (s.nxt k) v (Word.ofNat m))).setIniReg keyWepoch i (Word.ofNat s.engine.cmt.epoch)

/-- What the response to a NEXT write carries: bits [7:0] of its epoch (R122). -/
def State.writeEpoch (s : State) : Word := Word.ofNat (s.engine.cmt.epoch % 256)

/-! ## Registers of ramps and the commit unit (0x1002) -/

/-- The definition and the place a slot window shows (RMP_WSTAT, RMP_WVAL). -/
def State.slotShown (s : State) (n : Nat) : Nat × Nat :=
  match s.engine.shownAt with
  | none => (2, 2 ^ 30)
  | some t => (rampStage s.engine.rampsShown n t, (rampVal s.engine.rampsShown n t).toNat)

def rmpRead (i : Init) (a : Nat) (s : State) : Word :=
  if a < 0x10028000 then (if a = 0x10020000 ∨ a = 0x10024000 then 0 else s.nxt a)
  else
    let n := (s.iniReg 0x10028000 i).fld 0 12
    let d := if n = 0 then {} else Tbl.getD s.engine.ramps n {}
    let u := s.engine.cmt
    let start := (d.start % 2 ^ 64).toNat
    match a - 0x10028000 with
    | 0x0000 => s.iniReg 0x10028000 i
    | 0x0004 => Word.ofNat (s.slotShown n).1
    | 0x0008 => Word.ofNat (s.slotShown n).2
    | 0x000C => Word.ofNat start
    | 0x0010 => Word.ofNat (start / 2 ^ 32)
    | 0x0014 => d.cfg
    | 0x4000 => s.reg a
    | 0x4004 => s.reg a
    | 0x4008 => ((s.reg a).setBit 29 u.confirm).setBit 31 u.armed.isSome
    | 0x400C => packW [(0, u.state), (2, bitOf u.armIgn), (8, u.status), (16, u.reason)]
    | 0x4010 => s.nextBadWord
    | 0x4018 => Word.ofNat u.epoch
    | 0x401C => s.iniReg keyWepoch i
    | 0x4020 => Word.ofNat u.lastC
    | 0x4024 => Word.ofNat (u.lastC / 2 ^ 32)
    | _ => 0

def rmpWrite (i : Init) (a : Nat) (v : Word) (s : State) : State :=
  if a < 0x10028000 then nextWrite i a v s
  else match a - 0x10028000 with
    | 0x0000 => s.setIniReg a i (v &&& 0xFFF)
    | 0x4000 => s.writeRW a v
    | 0x4004 => s.writeRW a v
    | 0x4008 => cmtCtlWrite v s
    | 0x400C => s.setCmt { s.engine.cmt with armIgn := s.engine.cmt.armIgn && !v.bit 2 }
    | _ => s

/-! ## Registers of strips and sections (0x1003) -/

/-- Every output delay buffer reads zero again (R79). -/
def odlyClear (s : State) : State :=
  let cleared := s.engine.ous.map (fun e => (e.1, { e.2 with fill := 0 }))
  { s with engine := { s.engine with ous := cleared.filter (fun e => decide (e.2 ≠ ({} : OutStrip))) } }

/-- SEC_DLYCFG.ODLY_EN (R79). A change of IPOOL moves the pool at once; input delays that are LIVE go on at the same places of
the pool as it then lies (log entry 91). -/
def odlyWrite (v : Word) (s : State) : State :=
  let t := s.setFldN 0x10038008 0 5 (v.fld 0 5)
  let delays := fun (ps : Tbl Word) => (enabledOS ps).any (fun k => pfld ps (keyOS k 0xC) 0 17 != 0)
  if v.bit 31 then
    (if s.dramSize = 0 ∨ s.bitN 0x10038008 31 then t
     else
       odlyClear (t.setFldN 0x10038008 31 1 1))
  else if delays s.live || delays s.next then t
  else t.setFldN 0x10038008 31 1 0

/-- ODLY_EN_WRITE: a write of SEC_DLYCFG (R79). -/
def execOdlyEnWrite (_init : Init) (val : Word) (s : State) : Res := .next (odlyWrite val s)

/-- IS_STAT: the LIVE state of a strip. -/
def State.isStat (s : State) (i : Nat) : Word :=
  let st := s.inS i
  let w := s.liv (keyIS i 0)
  let f := s.liv (keyIS i 4)
  packW [(0, bitOf (s.isDomErr s.live i)), (1, bitOf (s.feedValid (f.fld 0 15))),
    (2, bitOf (s.feedValid (f.fld 16 15))), (3, bitOf (w.bit 4)),
    (4, bitOf (decide (0 < st.c ∧ st.c < w.fld 16 16))), (16, st.c)]

/-- SEC_XSTAT. -/
def State.xstat (s : State) (n : Nat) : Word :=
  let fs := s.fades
  let asP := fs.find? (fun e => e.2.partner == n)
  let other := match Tbl.find fs n, asP with
    | some f, _ => f.partner
    | none, some e => e.1
    | none, none => 0
  packW [(0, bitOf (runsIn s.live n)), (1, bitOf (Tbl.find fs n).isSome), (2, bitOf asP.isSome), (16, other)]

def secRead (i : Init) (a : Nat) (s : State) : Word :=
  match s.paramKey i a with
  | some (k, m) => s.nxt k &&& Word.ofNat m
  | none =>
    if 0x10030100 ≤ a ∧ a < 0x10032100 then Tbl.getD s.engine.secs.satmap ((a - 0x10030100) / 4) 0
    else match a - 0x10030000 with
      | 0x0000 => s.iniReg a i
      | 0x0020 => s.xstat ((s.iniReg 0x10030000 i).fld 0 16)
      | 0x0040 => Word.ofNat s.budgetLive
      | 0x0044 => Word.ofNat (s.budgetNext % 2 ^ 22)
      | 0x0048 => s.secNextBad
      | 0x8000 => s.iniReg a i
      | 0x8008 => (s.reg a).setBit 31 s.odlyOn
      | 0x800C => (s.reg a).setBit 31 s.meterRange
      | 0x813C => s.isStat ((s.iniReg 0x10038000 i).fld 0 11)
      | 0x823C =>
        let k := (s.iniReg 0x10038000 i).fld 16 10
        packW [(0, bitOf (s.osDomErr s.live s.engine.abx.amdLive k)), (1, bitOf (pbit s.live (keyOS k 0) 0 && destConf s.live k))]
      | _ => 0

def secWrite (i : Init) (a : Nat) (v : Word) (s : State) : State :=
  if (s.paramKey i a).isSome then nextWrite i a v s
  else if 0x10030100 ≤ a ∧ a < 0x10032100 then
    let n := (a - 0x10030100) / 4
    let q := s.engine.secs
    s.setSecs { q with satmap := Tbl.set q.satmap n (Tbl.getD q.satmap n 0 &&& ~~~v) 0 }
  else match a - 0x10030000 with
    | 0x0000 => s.setIniReg a i (v &&& 0xFFFF)
    | 0x8000 => s.setIniReg a i (v &&& 0x03FF07FF)
    | 0x8008 => odlyWrite v s
    | 0x800C => s.writeRW a v
    | _ => s

/-! ## Registers of formats and rate bridges (0x1000) -/

/-- SCTR as the AUDIO island counts it, sample by sample (R23). The table has no row for a sample, so where a bus operation
falls in its block is a free value (log entry 90), at or after the read before it; before engine start SCTR stands. -/
def State.audioSctr (s : State) : Nat :=
  s.sctr + (if s.started then max s.engine.pos (Config.audioPos s.freeCtr % 24) else 0)

/-- SCTR has reached `v` in this block. -/
def audioAt (v : Nat) (s : State) : State := { s with engine := { s.engine with pos := v - s.sctr } }

/-- What the AUDIO island does at a free sample of the block is done. -/
def audioDone (s : State) : State := (audioAt s.audioSctr s).tickFree

/-- A read of SYS_SCTR_LO that the AUDIO island serves at SCTR `v`: the reader gets the low word, which is kept as its last
answer, and its holding register the high word (R42). -/
def sctrServe (i : Init) (v : Nat) (s : State) : State :=
  ((audioAt v s).setIniReg 0x10000100 i (Word.ofNat v)).setIniReg 0x10000104 i (Word.ofNat (v / 2 ^ 32))

/-- A read at position `pos` of the block, or at that of the read before it where that lies later; before engine start SCTR stands. -/
def sctrLoRead (i : Init) (pos : Nat) (s : State) : State :=
  sctrServe i (if s.started then s.sctr + max s.engine.pos pos else s.sctr) s

/-- A read over the bus, whose place in the block no command gives. -/
def sctrBusRead (i : Init) (s : State) : State := (sctrServe i s.audioSctr s).tickFree

/-- SCTR_LO_READ (R42). -/
def execSctrLoRead (init : Init) (pos : Fin 24) (s : State) : Res := .next (sctrLoRead init pos s)

/-- SYS_RB`n`_CTL.DOMERR: the LIVE source slot is not in the channel's input domain (R53). -/
def State.rbDomErr (s : State) (n : Nat) : Bool :=
  s.slotDomIn s.live s.engine.abx.amdLive (pfld s.live (rbKey n) 0 13) != rbInDom s.live n

def sysRead (i : Init) (a : Nat) (s : State) : Word :=
  match s.paramKey i a with
  | some (k, m) =>
    (s.nxt k &&& Word.ofNat m).setBit 30 (s.rbDomErr ((a - 0x10001000) / 4))
  | none =>
    match a - 0x10000000 with
    | 0x100 => Word.ofNat s.audioSctr
    | 0x104 => s.iniReg a i
    | 0x110 => (s.reg a).setBit 31 s.started
    | 0x120 => s.sat
    | _ => 0

def sysWrite (i : Init) (a : Nat) (v : Word) (s : State) : State :=
  if (s.paramKey i a).isSome then nextWrite i a v s
  else match a - 0x10000000 with
    | 0x110 => if s.started then s else s.writeRW a v
    | 0x120 => { s with sat := s.sat &&& ~~~v }
    | _ => s

end Sys2Proof.Machine
end

