-- ==== Sys2Proof/Machine/Fdc.lean ====
section
/-!
DEFINITION. The decimation chains and their detectors (R207 to R223).
-/

namespace Sys2Proof.Machine

open Sys2Proof

def fdcReg (c off : Nat) : Nat := 0x10050000 + 0x40 * c + off

def State.chain (s : State) (c : Nat) : Chain := Tbl.getD s.fdc.ch c {}
def State.setChain (s : State) (c : Nat) (x : Chain) : State :=
  { s with fdc := { s.fdc with ch := Tbl.set s.fdc.ch c x {} } }

/-! ## Configuration (R210, R213) -/

def State.chEn (s : State) (c : Nat) : Bool := s.bitN (fdcReg c 0) 0
def State.chFir (s : State) (c : Nat) : Bool := s.bitN (fdcReg c 0) 1
def State.chSet (s : State) (c : Nat) : Nat := s.fldN (fdcReg c 0) 2 3
def State.chF (s : State) (c : Nat) : Nat := 2 ^ s.fldN (fdcReg c 0) 5 2
def State.chL (s : State) (c : Nat) : Nat := s.fldN (fdcReg c 0) 16 9
def State.setN (s : State) (k : Nat) : Nat := s.fldN (0x10051000 + 0x10 * k) 0 9

/-- FDC_STAT.CFGERR. -/
def State.chErr (s : State) (c : Nat) : Bool :=
  decide (s.chL c < 8 ∨ 256 < s.chL c) ||
    (s.chFir c && decide (s.chL c * s.chF c < 64 ∨ s.setN (s.chSet c) = 0 ∨ 384 < s.setN (s.chSet c)))

/-- Input periods from a restart to the first output that is not held at zero, before rounding up (R217). -/
def State.chSpan (s : State) (c : Nat) : Nat :=
  4 * (s.chL c - 1) + 1 + (if s.chFir c then s.chL c * (s.setN (s.chSet c) - 1) else 0)

/-- Decimation of the chain's output. -/
def State.chRate (s : State) (c : Nat) : Nat := s.chL c * (if s.chFir c then s.chF c else 1)

/-- A monitor chain whose group scans: it never gives a valid feed (R291). -/
def State.chScans (s : State) (c : Nat) : Bool := decide (c < 32) && (Tbl.getD s.mon.groups (c / 2) {}).scan

/-- FDC_STAT.FEEDOK (R216). -/
def State.feedOk (s : State) (c : Nat) : Bool :=
  s.chEn c && !s.chErr c && !(s.chain c).settling && s.chRate c == 64 && !s.chScans c

/-- The feed of a chain. -/
def chainFeed (c : Nat) : Nat := if c < 32 then 544 + c else 512 + (c - 32)

/-- R217: every stored value and the detectors clear, SETTLING sets; the chain goes on with the first input period that begins
now (R218). -/
def chainRestart (c : Nat) (s : State) : State :=
  s.setChain c { sat := (s.chain c).sat, settling := true, wake := (s.chain c).wake,
                 idx := max (s.chain c).idx (max s.fdc.now (64 * s.sctr)) }

/-- Zekor's rebuild writes FDC_CTL again: every chain that it enables restarts (R217, R424). -/
def chainsRestart (s : State) : State :=
  (List.range 48).foldl (fun t c => if t.chEn c then chainRestart c t else t) s

/-! ## Filters (R208 to R212) -/

/-- Moving sums of length `l` over a list, with zeros beyond its ends. -/
def movingSums (l : Nat) (xs : List Int) : List Int :=
  (List.range (xs.length + l - 1)).map (fun k =>
    ((List.range l).map (fun j => if k < j then 0 else xs.getD (k - j) 0)).sum)

/-- The four-fold convolution of length-`l` boxcars: the 4(l − 1) + 1 weights of R208. -/
def boxWeights (l : Nat) : List Int :=
  movingSums l (movingSums l (movingSums l (List.replicate l 1)))

/-- R209: scale the decimator's sum. -/
def chainScale (y : Int) (scale : Word) (shift : Nat) : Int × Bool :=
  (narrow (y * scale.toNat) shift, narrowSats (y * scale.toNat) shift)

/-- Zekor's SHIFT and SCALE for a length (R209): the smallest SHIFT for which SCALE is at least 2^31. -/
def scaleFor (l : Nat) : Option (Nat × Word) :=
  let scale := fun (k : Nat) => (roundDiv (2 ^ (27 + k)) (l ^ 4)).toNat
  ((List.range 64).find? (fun k => decide (2 ^ 31 ≤ scale k))).map (fun k => (k, Word.ofNat (scale k)))

/-- Tap `k` of a symmetric set (R210, R211). -/
def State.tap (s : State) (set n k : Nat) : Int :=
  wrapS 24 ((s.reg (0x10052000 + 0x400 * set + 4 * min k (n - 1 - k))).fld 0 24 : Nat)

/-- R212: the FIR over past decimator outputs. -/
def State.firOut (s : State) (c : Nat) (xs : List Int) : Int :=
  let n := s.setN (s.chSet c)
  firSum ((List.range n).map (s.tap (s.chSet c) n)) xs

/-! ## Detectors (R220 to R222) -/

/-- The peak detector: P and h. -/
def peakStep (p h a hold : Nat) (dk : Word) : Nat × Nat :=
  if p ≤ a then (a, hold)
  else if 0 < h then (p, h - 1)
  else ((narrowRound ((p * dk.toNat : Nat) : Int) 32).toNat, 0)

/-- The window's end of the RMS detector. -/
def rmsLatch (win : Nat) (ch : Chain) : Chain :=
  { ch with ms := min 0xFFFFFFFF (roundDiv (ch.acc : Int) (2 ^ 30 * win)).toNat, seq := (ch.seq + 1) % 2 ^ 32,
            acc := 0, cnt := 0 }

/-- The envelope detector. -/
def envStep (e : Int) (a : Nat) (att rel : Word) : Int :=
  let d := (a : Int) - e
  e + narrowRound (d * (if 0 < d then att.toNat else rel.toNat : Nat)) 32

/-- Zekor's ATT or REL for a time constant `tau` in s at an output rate of `fo` Hz (R222, log entry 102). -/
def envFactor (tau fo : Rat) : Word :=
  let e := expFix (1 / (tau * fo))
  Word.ofInt (roundDiv (2 ^ 32 * ((e : Int) - 2 ^ 256)) e)

/-- FDC_RMSWIN; 0 acts as 1. -/
def State.rmsWin (s : State) (c : Nat) : Nat := max 1 (s.fldN (fdcReg c 0x1C) 0 22)

/-- The three detectors take an output; a window that has run full ends first. -/
def detect (c : Nat) (x : Int) (s : State) (ch : Chain) : Chain :=
  let a := x.natAbs
  let p := peakStep ch.pk ch.hold a (s.fldN (fdcReg c 0x10) 0 20) (s.reg (fdcReg c 0x14))
  let ch := if s.rmsWin c ≤ ch.cnt then rmsLatch (s.rmsWin c) ch else ch
  { ch with pk := p.1, hold := p.2, acc := ch.acc + a * a, cnt := ch.cnt + 1,
            env := envStep ch.env a (s.reg (fdcReg c 0x28)) (s.reg (fdcReg c 0x2C)) }

/-- A value of a block at a position, the places before it filled with zeros. -/
def placeAt (p : Nat) (y : Int) (xs : List Int) : List Int := fitBlock p xs ++ [y]

/-- The whole impulse response of the output at input `i` lies after the restart (R217): by then that many periods had passed. -/
def State.chSettled (s : State) (c i : Nat) : Bool :=
  !(s.chain c).wake && decide (s.chSpan c + (s.chain c).idx ≤ (s.chain c).age + (i + 1))

/-- The chain's output at input `i` (R215): held at zero while it settles, else it saturates, drives the detectors and, at
L F = 64, is the feed's value for SCTR floor(i / 64) (R207, R216). -/
def chainOut (c i : Nat) (x : Int) (sat : Bool) (s : State) : State × Int :=
  let ch := s.chain c
  let settling := !s.chSettled c i
  let ch := { ch with settling := settling }
  let y := if settling then 0 else x
  let ch := if settling then ch else { detect c x s ch with sat := ch.sat || sat }
  let t := (s.setChain c ch).setSat (sat && !settling) 3
  let f := chainFeed c
  (if s.chRate c = 64 ∧ s.sctr ≤ i / 64 ∧ i / 64 < s.sctr + 24 then
    t.putRx f (placeAt (i / 64 - s.sctr) y (Tbl.getD t.engine.rx f [])) else t, y)

/-- FIR_OUTPUT: the filter emits the output that has fallen due (R212). -/
def firEmit (c : Nat) (s : State) : State × Option Int :=
  let ch := s.chain c
  match ch.firDue with
  | none => (s, none)
  | some i =>
    if s.chEn c && !s.chErr c && s.chFir c then
      let z := s.firOut c ch.xs
      let o := chainOut c i (narrow z 23) (narrowSats z 23) (s.setChain c { ch with firDue := none })
      (o.1, some o.2)
    else (s, none)

/-- Input periods pass: the chain's index and its age move on. -/
def inputsPass (c n : Nat) (s : State) : State :=
  let ch := s.chain c
  let t := s.setChain c { ch with idx := ch.idx + n, age := ch.age + n }
  { t with fdc := { t.fdc with now := max t.fdc.now (ch.idx + n) } }

/-- Inputs taken in order (a 1 is +1, a 0 is −1). -/
def inputsTake (c : Nat) (bits : List Int) (s : State) : State :=
  let t := inputsPass c bits.length s
  let ch := t.chain c
  let new := bits.map (fun b => if b = 0 then (-1 : Int) else 1)
  t.setChain c { ch with ins := (new.reverse ++ ch.ins).take (4 * (s.chL c - 1) + 1) }

/-- The decimator's output at the last input taken (R208, R209). With the FIR a due output comes first, and the next falls due
where (i + 1) mod (L F) = 0 (R212). Answers the input and the chain's output where the chain has no FIR. -/
def decimEmit (c : Nat) (s : State) : State × List (Nat × Int) :=
  let r := chainScale (firSum (boxWeights (s.chL c)) (s.chain c).ins) (s.reg (fdcReg c 4)) (s.fldN (fdcReg c 8) 0 6)
  let i := (s.chain c).idx - 1
  if s.chFir c then
    let s := (firEmit c s).1
    let ch := s.chain c
    ((s.setChain c { ch with xs := (r.1 :: ch.xs).take 384
                             firDue := if (i + 1) % (s.chL c * s.chF c) = 0 then some i else none }).setSat r.2 3, [])
  else
    let o := chainOut c i r.1 r.2 s
    (o.1, [(i, o.2)])

/-- Inputs of a running chain: an output at every (i + 1) mod L = 0 (R208). -/
def decimRun (c : Nat) : Nat → List Int → State → State × List (Nat × Int)
  | 0, _, s => (s, [])
  | fuel + 1, bits, s =>
    let need := s.chL c - (s.chain c).idx % s.chL c
    if bits.length < need then (inputsTake c bits s, [])
    else
      let r := decimEmit c (inputsTake c (bits.take need) s)
      let q := decimRun c fuel (bits.drop need) r.1
      (q.1, r.2 ++ q.2)

/-- PDM_CLK`c` is asked for (R255). -/
def State.pdmWanted (s : State) (c : Nat) : Bool :=
  s.bitN 0x10061000 c || (List.range 4).any (fun i => s.chEn (32 + 4 * c + i))

/-- PDM_CLK`c` runs. -/
def State.pdmRuns (s : State) (c : Nat) : Bool := s.ports.pdmRun.testBit c && s.pdmWanted c

/-- The chain that takes the bits which data pin PDM_D`d` carries at an edge of its clock, and that clock (R254). -/
def pdmChain (d : Nat) (rising : Bool) : Nat := 32 + 2 * d + (if rising then 1 else 0)
def pdmClock (d : Nat) : Nat := d / 2

/-- The chain has inputs: a monitor chain always, a PDM chain while its clock runs (R254). -/
def State.chFed (s : State) (c : Nat) : Bool := decide (c < 32) || s.pdmRuns (pdmClock ((c - 32) / 2))

/-- DECIMATOR_OUTPUT on the chain alone: the next inputs in order. A chain that does not run, whose configuration is invalid
(R213), or whose PDM clock stands lets their periods pass. -/
def decimate (c : Nat) (bits : List Int) (s : State) : State × List (Nat × Int) :=
  if !s.chEn c || s.chErr c || !s.chFed c then (inputsPass c bits.length s, []) else decimRun c (bits.length + 1) bits s

/-- FIR_OUTPUT (R212). A chain with the FIR gives supervision no measurement (R291). -/
def execFirOutput (c : Fin 48) (s : State) : Res := .next (firEmit c s).1

/-- RMS_WINDOW_END: WIN outputs have been summed (R221). -/
def execRmsWindowEnd (c : Fin 48) (s : State) : Res :=
  .next (onlyIf (decide (s.rmsWin c ≤ (s.chain c).cnt)) s (s.setChain c (rmsLatch (s.rmsWin c) (s.chain c))))

/-- CHAIN_RESTART (R217). -/
def execChainRestart (c : Fin 48) (s : State) : Res := .next (chainRestart c s)

/-- SETTLING_END: the whole impulse response lies after the restart (R217). -/
def execSettlingEnd (c : Fin 48) (s : State) : Res :=
  .next (onlyIf (decide (s.chSpan c ≤ (s.chain c).age ∧ (s.chain c).idx % s.chRate c = 0) && !(s.chain c).wake) s (s.setChain c { s.chain c with settling := false }))

/-- Clear P and h. -/
def pkClr (c : Nat) (s : State) : State := s.setChain c { s.chain c with pk := 0, hold := 0 }

/-- PK_CLR (R220). -/
def execPkClr (c : Fin 48) (s : State) : Res := .next (pkClr c s)

/-- A write of WIN: a window begins with the next output (R221). -/
def rmsWinWrite (c : Nat) (v : Word) (s : State) : State :=
  (s.writeRW (fdcReg c 0x1C) v).setChain c { s.chain c with acc := 0, cnt := 0 }

/-- RMS_WIN_WRITE (R221). -/
def execRmsWinWrite (c : Fin 48) (val : Word) (s : State) : Res := .next (rmsWinWrite c val s)

/-- A coefficient write, dropped while an enabled chain uses the set (R214). -/
def coefWrite (a : Nat) (v : Word) (s : State) : State :=
  let set := (a - 0x10052000) / 0x400
  if (List.range 48).any (fun c => s.chEn c && s.chFir c && s.chSet c == set) then
    { s with fdc := { s.fdc with drop := incHold 0xFFFF s.fdc.drop } }
  else s.writeRW a v

/-- FDC_COEF_WRITE (R211, R214). -/
def execFdcCoefWrite (set : Fin 8) (k : Fin 192) (val : Word) (s : State) : Res :=
  .next (coefWrite (0x10052000 + 0x400 * set + 4 * k) val s)

/-- FDC_DROP_CLR. -/
def execFdcDropClr (s : State) : Res := .next { s with fdc := { s.fdc with drop := 0 } }

/-- A write of FDC_CTL: EN from 0 to 1 and changes of L, FIR_EN, FIRSET, FDIV restart the chain (R217). -/
def fdcCtlWrite (c : Nat) (v : Word) (s : State) : State :=
  let a := fdcReg c 0
  let t := s.writeRW a v
  let o := s.reg a
  let n := t.reg a
  if (!o.bit 0 && n.bit 0) || o.fld 1 6 != n.fld 1 6 || o.fld 16 9 != n.fld 16 9 then chainRestart c t else t

/-- A write of FDC_FSET: a new N restarts the chains that use the set (R217). -/
def fsetWrite (a : Nat) (v : Word) (s : State) : State :=
  let t := s.writeRW a v
  let k := (a - 0x10051000) / 0x10
  if (s.reg a).fld 0 9 = (t.reg a).fld 0 9 then t
  else (List.range 48).foldl (fun u c => if u.chFir c && u.chSet c == k then chainRestart c u else u) t

/-! ## Coefficient files (R211) -/

/-- A DXP-2200 file: N and the half-set; none where Zekor refuses it with FORMAT. -/
def coefFile (bs : List Byte) : Option (Nat × List Word) :=
  let word := fun (k : Nat) => Word.ofNat (((List.range 4).map (fun j => (bs.getD (4 * k + j) 0).toNat * 256 ^ j)).sum)
  let n := (word 0).toNat
  if 4 ≤ bs.length ∧ 1 ≤ n ∧ n ≤ 384 ∧ bs.length = 4 * (1 + (n + 1) / 2) then
    some (n, (List.range ((n + 1) / 2)).map (fun k => word (k + 1)))
  else none

/-- Zekor loads a file into a set, or refuses it with FORMAT (0x0A). -/
def coefLoad (set : Nat) (bs : List Byte) (s : State) : Nat × State :=
  match coefFile bs with
  | none => (0x0A, s)
  | some (n, ws) =>
    (0, (ws.zipIdx).foldl (fun t p => coefWrite (0x10052000 + 0x400 * set + 4 * p.2) p.1 t)
      (fsetWrite (0x10051000 + 0x10 * set) (Word.ofNat n) s))

/-! ## FDC registers (R223) -/

def fdcRead (a : Nat) (s : State) : Word :=
  if 0x10052000 ≤ a then s.reg a
  else if a = 0x10051100 then Word.ofNat s.fdc.drop
  else if 0x10051000 ≤ a then s.reg a
  else
    let c := (a - 0x10050000) / 0x40
    let ch := s.chain c
    match (a % 0x40) / 4 with
    | 3 => packW [(0, bitOf ch.settling), (1, bitOf (s.chErr c)), (2, bitOf ch.sat), (3, bitOf (s.feedOk c))]
    | 6 => Word.ofNat ch.pk
    | 8 => Word.ofNat ch.ms
    | 9 => Word.ofNat ch.seq
    | 12 => Word.ofInt ch.env
    | _ => s.reg a

def fdcWrite (a : Nat) (v : Word) (s : State) : State :=
  if 0x10052000 ≤ a then coefWrite a v s
  else if a = 0x10051100 then (if v.bit 31 then { s with fdc := { s.fdc with drop := 0 } } else s)
  else if 0x10051000 ≤ a then fsetWrite a v s
  else
    let c := (a - 0x10050000) / 0x40
    match (a % 0x40) / 4 with
    | 0 => fdcCtlWrite c v s
    | 3 => s.setChain c { s.chain c with sat := (s.chain c).sat && !v.bit 2 }
    | 4 =>
      let t := s.writeRW a v
      if v.bit 31 then pkClr c t else t
    | 7 => rmsWinWrite c v s
    | _ => s.writeRW a v

end Sys2Proof.Machine
end

