-- ==== Sys2Proof/Machine/Bridge.lean ====
section
/-!
DEFINITION. The bridge channels (R259 to R286): the interpolator, the drive and the quantiser, the channel states, what
drives the pins, clear pins, clock errors, overcurrent and retries.
-/

namespace Sys2Proof.Machine

open Sys2Proof

def brReg (n off : Nat) : Nat := 0x10070000 + 0x40 * n + off
def bankReg (b off : Nat) : Nat := 0x10071000 + 0x20 * b + off

def State.br (s : State) (n : Nat) : BrCh := Tbl.getD s.mod.ch n {}
def State.setBr (s : State) (n : Nat) (x : BrCh) : State :=
  { s with mod := { s.mod with ch := Tbl.set s.mod.ch n x {} } }
def State.bank (s : State) (b : Nat) : Bank := Tbl.getD s.mod.banks b {}
def State.setBank (s : State) (b : Nat) (x : Bank) : State :=
  { s with mod := { s.mod with banks := Tbl.set s.mod.banks b x {} } }
def State.brLedger (s : State) (n : Nat) : Nat := s.ledger 9 n

/-- The EN bit as the states follow it: a channel parked by a clear waits for EN to be written 0 and then 1 (R276). -/
def State.brEn (s : State) (n : Nat) : Bool := s.bitN (brReg n 0) 0 && !(s.br n).offByClear

/-- A state in which the pins are low and a write of STAGGER or FS_CODE acts (R267, R268). -/
def BrState.idle : BrState → Bool
  | .parked => true
  | .trip => true
  | .latched => true
  | _ => false

def BrState.code : BrState → Nat
  | .parked => 0
  | .cmUp => 1
  | .lvlUp => 2
  | .run => 3
  | .lvlDn => 4
  | .cmDn => 5
  | .trip => 6
  | .retry => 7
  | .latched => 8

/-! ## The monitor mux during a dwell (R287 to R290) -/

def State.monG (s : State) (j : Nat) : MonGroup := Tbl.getD s.mon.groups j {}
def State.setMonG (s : State) (j : Nat) (x : MonGroup) : State :=
  { s with mon := { s.mon with groups := Tbl.set s.mon.groups j x {} } }
def State.monC (s : State) (n : Nat) : MonCh := Tbl.getD s.mon.ch n {}
def State.setMonC (s : State) (n : Nat) (x : MonCh) : State :=
  { s with mon := { s.mon with ch := Tbl.set s.mon.ch n x {} } }

/-- Switch a group's mux: both chains restart where it moves (R217, R289). -/
def muxTo (j pos : Nat) (s : State) : State :=
  if (s.monG j).cur = pos then s
  else chainRestart (2 * j + 1) (chainRestart (2 * j) (s.setMonG j { s.monG j with cur := pos }))

/-- The position of a group outside a dwell: the scan slot's, or POS (R289, R291). -/
def State.slotPos (s : State) (j : Nat) : Nat :=
  if (s.monG j).scan then s.sctr / 12000 % 4 else (s.monG j).pos

/-- Begin a channel's window, of a slot or of a retry dwell: the sums and the counts are empty. -/
def windowOpen (n : Nat) (retry : Bool) (s : State) : State :=
  s.setMonC n { s.monC n with sums := [], nV := 0, nI := 0, notRun := false, retry := retry,
                              clipAdv := false }

/-- A dwell that overlaps a slot loses it (R290). -/
def slotLose (n : Nat) (s : State) : State := s.setMonC n { s.monC n with lost := true }

/-- STAGGER in effect. -/
def BrCh.stag (c : BrCh) (n : Nat) : Nat := c.stagger.getD (n % 16)

/-- The carrier period that starts next, counted from period 8 X of the block: where STAGGER is below 8 that one starts before
the boundary at X (R268). -/
def BrCh.period (c : BrCh) (n : Nat) : Nat := c.per.getD (if c.stag n < 8 then 1 else 0)

/-- The AUDIO tick at which the channel's next carrier period starts, 128 ticks on (R268). -/
def State.perTick (s : State) (n : Nat) : Nat := 256 * (8 * s.sctr + (s.br n).period n) + 16 * (s.br n).stag n

/-- The dwell takes the mux: one that began first keeps it, at equal starts the lower-numbered channel's (R290). -/
def State.dwellTakes (s : State) (n : Nat) : Bool :=
  match (s.monG (n / 4)).owner with
  | none => true
  | some o => (s.monG (n / 4)).ownerAt == s.perTick n && decide (n < o)

/-- A channel enters its dwell: the mux moves to it unless another dwell of the group keeps it (R290). -/
def dwellStart (n : Nat) (s : State) : State :=
  let j := n / 4
  let s := s.setMonC n { s.monC n with dwellDone := false }
  if !s.dwellTakes n then s
  else
    let s := match (s.monG j).owner with
      | some o => s.setMonC o { s.monC o with retry := false }
      | none => s
    windowOpen n true (slotLose (4 * j + s.slotPos j)
      (muxTo j (n % 4) (s.setMonG j { s.monG j with owner := some n, ownerAt := s.perTick n })))

/-- A dwell ends: the mux returns to the slot's position. -/
def dwellStop (n : Nat) (s : State) : State :=
  let j := n / 4
  if (s.monG j).owner = some n then muxTo j (s.slotPos j) (s.setMonG j { s.monG j with owner := none }) else s

/-! ## Ramps (R270, R271) -/

/-- N of a common-mode ramp that starts now. -/
def State.cmN (s : State) (n : Nat) : Nat := max 5 (min 200 (s.fldN (brReg n 0) 8 8)) * 384

/-- M of a level ramp that starts now. -/
def State.lvlM (s : State) (n : Nat) : Nat := s.fldN (brReg n 0) 16 8 * 384

/-- λ at ramp period `i`. -/
def lamAt (lam0 target i m : Nat) : Nat :=
  if m ≤ i then target
  else if lam0 ≤ target then lam0 + (target - lam0) * i / m else lam0 - (lam0 - target) * i / m

/-- Start a level ramp over `m` periods. -/
def BrCh.lvlRamp (c : BrCh) (target m : Nat) : BrCh :=
  { c with lam0 := c.lam, lamI := 0, lamM := m, lamTo := target, lam := if m = 0 then target else c.lam }

/-- The λ target of a state (R271). -/
def State.lamTarget (s : State) (c : BrCh) : Nat :=
  match c.st, c.step with
  | .lvlUp, _ => 65536
  | .run, _ => 65536
  | .retry, .cm => 0
  | .retry, _ => s.fldN 0x10072004 0 17
  | _, _ => 0

/-- The level ramp moves on a period; a new target starts a new ramp. -/
def State.lamStep (s : State) (n : Nat) (c : BrCh) : BrCh :=
  let tgt := s.lamTarget c
  if c.lamTo ≠ tgt then c.lvlRamp tgt (s.lvlM n)
  else
    let i := min c.lamM (c.lamI + 1)
    { c with lamI := i, lam := lamAt c.lam0 c.lamTo i c.lamM }

/-- The common-mode width at ramp period `i` of `n`. -/
def cmWidth (i n : Nat) : Nat := if n = 0 then 0 else 128 * i / n

/-- The width of a state. -/
def BrCh.width (c : BrCh) : Nat :=
  match c.st, c.step with
  | .parked, _ => 0
  | .trip, _ => 0
  | .latched, _ => 0
  | .cmUp, _ => cmWidth c.i c.n
  | .cmDn, _ => cmWidth c.i c.n
  | .lvlDn, _ => cmWidth c.i c.n
  | .retry, .cm => cmWidth c.i c.n
  | _, _ => 128

/-- A state that carries audio. -/
def BrCh.audio (c : BrCh) : Bool :=
  match c.st, c.step with
  | .lvlUp, _ => true
  | .run, _ => true
  | .lvlDn, _ => true
  | .retry, .cm => false
  | .retry, _ => true
  | _, _ => false

/-! ## Transitions (R272, R279, R280) -/

/-- Enter RETRY at its first step. -/
def BrCh.toRetry (c : BrCh) (n : Nat) : BrCh :=
  { c with st := .retry, step := .cm, i := 0, n := n, lam := 0, lamTo := 0, lamM := 0, dwellN := 0, verdict := 0 }

def BrCh.toParked (c : BrCh) : BrCh := { c with st := .parked, errs := [], i := 0, lam := 0 }

/-- A failed retry: LATCHED at the third, else TRIP (R272). -/
def retryFail (n : Nat) (s : State) : State :=
  let c := s.br n
  let s := dwellStop n s
  if c.retries + 1 < 3 then
    (s.setBr n { c with st := .trip, retries := c.retries + 1, errs := [], tripN := 0, wA := 0, wB := 0, runN := 0 }).raise
      0x0204 (s.brLedger n)
  else
    (s.setBr n { c with st := .latched, retries := 3, wA := 0, wB := 0, runN := 0 }).raise 0x0203 (s.brLedger n)

/-- A trip (R279). -/
def tripAct (n : Nat) (s : State) : State :=
  let c := s.br n
  let failed := c.st == .retry || ((c.st == .lvlUp || c.st == .run) && 0 < c.retries)
  let t := ((dwellStop n s).setBr n { c with
    st := .trip, trips := incHold 0xFF c.trips, errs := [], tripN := 0, wA := 0, wB := 0, runN := 0 }).raise
      0x0201 (s.brLedger n)
  if failed then retryFail n t else t

/-- The end of a dwell (R280): a SHORT verdict fails the retry, otherwise it passes. -/
def dwellEnd (n : Nat) (s : State) : State :=
  let c := s.br n
  if c.st = .retry ∧ c.step = .dwell ∧ s.fldN 0x10072000 16 10 * 384 ≤ c.dwellN then
    (if c.verdict = 2 then retryFail n s
     else
       ((dwellStop n s).setBr n (({ c with st := .lvlUp, runN := 0 } : BrCh).lvlRamp 65536 (s.lvlM n))).raise
         0x0202 (s.brLedger n))
  else s

/-- TRIP has lasted 384,000 periods (R272). -/
def tripExpire (n : Nat) (s : State) : State :=
  let c := s.br n
  if c.st = .trip ∧ 384000 ≤ c.tripN ∧ s.bitN (brReg n 0) 1 ∧ s.brEn n then s.setBr n (c.toRetry (s.cmN n)) else s

/-- RETRIES returns to 0 after 3,840,000 consecutive periods in RUN (R279). -/
def retriesReset (n : Nat) (s : State) : State :=
  let c := s.br n
  if c.st = .run ∧ 3840000 ≤ c.runN then s.setBr n { c with retries := 0 } else s

/-- The transitions of R272 at a carrier period start, but those of trips. -/
def brTransit (n : Nat) (s : State) : State :=
  let c := s.br n
  let en := s.brEn n
  match c.st with
  | .parked => if en then s.setBr n { c with st := .cmUp, i := 0, n := s.cmN n, lam := 0, lamTo := 0 } else s
  | .cmUp =>
    if !en then s.setBr n { c with st := .lvlDn }
    else if c.n ≤ c.i then s.setBr n (({ c with st := .lvlUp, lam := 0 } : BrCh).lvlRamp 65536 (s.lvlM n)) else s
  | .lvlUp =>
    if !en then s.setBr n (({ c with st := .lvlDn } : BrCh).lvlRamp 0 (s.lvlM n))
    else if c.lam = 65536 then s.setBr n { c with st := .run, runN := 0 } else s
  | .run => if !en then s.setBr n (({ c with st := .lvlDn, runN := 0 } : BrCh).lvlRamp 0 (s.lvlM n)) else retriesReset n s
  | .lvlDn =>
    if en then
      (if c.n ≤ c.i then s.setBr n (({ c with st := .lvlUp } : BrCh).lvlRamp 65536 (s.lvlM n))
       else s.setBr n { c with st := .cmUp })
    else if c.lam = 0 then
      (if c.n ≤ c.i then s.setBr n { c with st := .cmDn, i := s.cmN n, n := s.cmN n } else s.setBr n { c with st := .cmDn })
    else s
  | .cmDn =>
    if en then s.setBr n { c with st := .cmUp }
    else if cmWidth c.i c.n = 0 then s.setBr n c.toParked else s
  | .trip => if !en then s.setBr n { c.toParked with retries := 0 } else tripExpire n s
  | .retry =>
    if !en then (dwellStop n s).setBr n (({ c with st := .lvlDn, retries := 0 } : BrCh).lvlRamp 0 (s.lvlM n))
    else match c.step with
      | .cm =>
        if c.n ≤ c.i then
          s.setBr n (({ c with step := .lvl } : BrCh).lvlRamp (s.fldN 0x10072004 0 17) (s.lvlM n))
        else s
      | .lvl => if c.lamM ≤ c.lamI then dwellStart n (s.setBr n { c with step := .dwell, dwellN := 0 }) else s
      | .dwell => dwellEnd n s
  | .latched =>
    if !en then s.setBr n { c.toParked with retries := 0 }
    else if c.clrReq then s.setBr n { c.toRetry (s.cmN n) with retries := 0 } else s

/-- The counts of RUN and of the dwell move on a period where the state stays. -/
def BrCh.counts (c : BrCh) : BrCh :=
  match c.st, c.step with
  | .run, _ => { c with runN := c.runN + 1 }
  | .retry, .dwell => { c with dwellN := c.dwellN + 1 }
  | _, _ => c

/-- Ramps and the TRIP timer move on; they hold still in a clock error (R274). -/
def State.brAdvance (s : State) (n : Nat) (c : BrCh) : BrCh :=
  let c := match c.st, c.step with
    | .cmUp, _ => { c with i := min c.n (c.i + 1) }
    | .cmDn, _ => { c with i := c.i - 1 }
    | .retry, .cm => { c with i := min c.n (c.i + 1) }
    | .trip, _ => { c with tripN := c.tripN + 1 }
    | _, _ => c
  if c.audio then s.lamStep n c else c

/-! ## Samples and drive (R263 to R267) -/

/-- The interpolator's taps: R50 with N = 65, f_c = 1/16, G = 8, β = 6.0. -/
def brTap (k : Nat) : Int :=
  let d := if k < 32 then 32 - k else k - 32
  -- 2 fc sinc(2 fc d) = sin(π d / 8) / (π d)
  let core : Int := if d = 0 then (2 ^ 256 / 8 : Nat) else sin8 d * (2 ^ 256 : Nat) / ((piFix * d : Nat) : Int)
  roundDiv (core * (besselI0 (36 * (1024 - d * d)) 1024 : Int) * 8 * 2 ^ 29) (besselI0 36 1 * 2 ^ 256)
where
  /-- sin(π m / 8) with 256 fraction bits. -/
  sin8 (m : Nat) : Int :=
    let r := m % 16
    let sgn : Int := if r < 8 then 1 else -1
    let a := if 4 < r % 8 then 8 - r % 8 else r % 8
    let v : Nat := match a with
      | 0 => 0
      | 1 => Nat.sqrt ((2 ^ 257 - sqrt2Fix) * 2 ^ 254)
      | 2 => sqrt2Fix / 2
      | 3 => Nat.sqrt ((2 ^ 257 + sqrt2Fix) * 2 ^ 254)
      | _ => 2 ^ 256
    sgn * v

def brTaps : List Int := (List.range 65).map brTap

/-- y at phase `r` after the newest sample: the sum of R263. -/
def interpolate (hist : List Int) (r : Nat) : Int := firSum (polyTaps 8 r brTaps) hist

/-- The sample of the transmit stage that enters with position `m` of the block. -/
def State.brSample (s : State) (n m : Nat) : Int := (Tbl.getD s.engine.tx (destKey (1, n)) []).getD m 0

/-- The interpolated sample of the period about to start, and the interpolator after it: period k carries y[k − 1]
(R268), so the sample of SCTR X enters with period 8 X + 1. -/
def State.brInput (s : State) (n : Nat) (c : BrCh) : Int × BrCh :=
  let p := c.period n
  let hist := if p % 8 = 1 then (s.brSample n (p / 8) :: c.hist).take 9 else c.hist
  (interpolate hist ((p + 7) % 8), { c with hist := hist, per := some (p + 1) })

/-- A crossing period (R267). -/
def isCrossing (y last : Int) : Bool := decide (y = 0 ∨ (0 < y ∧ last < 0) ∨ (y < 0 ∧ 0 < last))

/-- FSQ at step `i` of 3,840. -/
def fsqAt (frm tgt i : Nat) : Nat := (((frm : Int) * 3840 + ((tgt : Int) - frm) * i) / 3840).toNat

/-- The range change moves on a period. -/
def State.rangeStep (s : State) (n : Nat) (c : BrCh) (crossing : Bool) : BrCh :=
  let tgt := s.fldN (brReg n 4) 0 12 * 2 ^ 16
  match c.ranging with
  | .idle => c
  | .waiting k =>
    if crossing || decide (19200 ≤ k) then { c with ranging := .ramping c.fsq 1, fsq := fsqAt c.fsq tgt 1 }
    else { c with ranging := .waiting (k + 1) }
  | .ramping frm i =>
    if 3840 ≤ i + 1 then { c with ranging := .idle, fsq := tgt }
    else { c with ranging := .ramping frm (i + 1), fsq := fsqAt frm tgt (i + 1) }

/-- MINPW and DMAX. -/
def State.minPw (s : State) : Nat := s.fldN 0x10072000 0 5
def State.dMax (s : State) : Int := 128 - s.minPw

/-- K (R264). -/
def State.brK (s : State) (n : Nat) (c : BrCh) : Nat := c.fsq / (s.bank (n / 8)).good

/-- u before the clamp (R264). -/
def driveU (y : Int) (lam k : Nat) : Int := y * lam * k / 2 ^ 65

/-- A reference (R292): in mode S, K × RAIL is replaced by FSQ. -/
def State.refOf (s : State) (n : Nat) (c : BrCh) (y : Int) : Int :=
  if c.modeS then y * c.lam * c.fsq / 2 ^ 73 else driveU y c.lam (s.brK n c) * (s.bank (n / 8)).good / 2 ^ 8

/-- Clamp to ±m. -/
def clampTo (m x : Int) : Int := max (-m) (min m x)

/-- The quantiser (R265): d, the new errors, and whether d clamps. -/
def quantise (dmax u : Int) (errs : List Int) : Int × List Int × Bool :=
  let e := fun k => errs.getD k 0
  let v := u - (5 * e 0 - 10 * e 1 + 10 * e 2 - 5 * e 3 + e 4)
  let d0 := (v + 2 ^ 15) / 2 ^ 16
  let d := clampTo dmax d0
  (d, (clampTo (2 ^ 16) (d * 2 ^ 16 - v) :: errs).take 5, decide (d ≠ d0))

/-- A clamp: CLIP, the count, and the event for the first since CLIP was cleared (R264). -/
def clampCount (n : Nat) (b : Bool) (s : State) : State :=
  if b then
    let c := s.br n
    let t := if c.clipCnt < 0xFFFFFFFF then s.setMonC n { s.monC n with clipAdv := true } else s
    (t.setBr n { c with clip := true, clipCnt := incHold 0xFFFFFFFF c.clipCnt }).raiseIf (!c.clip) 0x020A (s.brLedger n)
  else s

/-- What drives the pins (R274) in a period that begins. -/
def State.pinRow (s : State) (n : Nat) (c : BrCh) : PinRow :=
  let b := s.bank (n / 8)
  if s.cus.own ≠ 2 ∧ s.cus.own ≠ 3 then .released
  else if c.st.idle then .low
  else if b.clear then .clear
  else if s.mod.clkErr then .clockErr
  else if s.cus.own = 3 then .hold
  else if b.mute then .railMute
  else .pattern

/-- A row that replaces the state's pattern by a fixed output. -/
def PinRow.overrides : PinRow → Bool
  | .clear => true
  | .clockErr => true
  | .hold => true
  | .railMute => true
  | _ => false

/-- Widths below MINPW are output as 0 (R268). -/
def State.pulse (s : State) (w : Int) : Nat := if w < s.minPw then 0 else w.toNat

/-- The pulse widths of a period. -/
def State.brWidths (s : State) (n : Nat) (c : BrCh) (row : PinRow) (d : Int) : Nat × Nat :=
  let w : Int := c.width
  let zero := (s.pulse w, s.pulse w)
  match row with
  | .released => (0, 0)
  | .low => (0, 0)
  | .clear => if s.bitN (bankReg (n / 8) 0) 0 then (0, 0) else zero
  | .pattern => if c.modeS then (0, 0) else (s.pulse (w + d), s.pulse (w - d))
  | _ => zero

/-- Mode S follows the bank: entered at once, left at a crossing period or after 19,200 periods (R275). -/
def State.modeStep (s : State) (n : Nat) (c : BrCh) (crossing : Bool) : BrCh :=
  let want := (s.bank (n / 8)).modeS
  if want = c.modeS then { c with sWait := 0 }
  else if want then { c with modeS := true, sWait := 0 }
  else if crossing || decide (19200 ≤ c.sWait) then { c with modeS := false, sWait := 0 }
  else { c with sWait := c.sWait + 1 }

/-- floor(2^27 sin(2π r / 2^32)) for r up to a quarter turn, by the Taylor series in 256 fraction bits. -/
def sinQuarter (r : Nat) : Nat :=
  if r = 2 ^ 30 then 2 ^ 27
  else
    let x : Int := (piFix * r / 2 ^ 31 : Nat)
    let q := x * x / 2 ^ 256
    let sum := (List.range 25).foldl (fun (acc : Int × Int) j =>
      let t := -(acc.2 * q / 2 ^ 256) / (((2 * j + 2) * (2 * j + 3) : Nat) : Int)
      (acc.1 + t, t)) (x, x)
    (sum.1 / 2 ^ 229).toNat

/-- A quarter's value rounded down, or up where the spec leaves the rounding open, with its sign. -/
def toneRound (up : Bool) (th : Nat) : Int :=
  let r := th % 2 ^ 30
  let m := sinQuarter (if th / 2 ^ 30 % 2 = 0 then r else 2 ^ 30 - r)
  let m := if up && r != 0 then m + 1 else m
  if th / 2 ^ 30 % 4 < 2 then m else -(m : Int)

/-- sin θ and cos θ of a tone phase: S32 values of magnitude up to 0x0800_0000 (R294; log entry 20). -/
def toneSin (th : Nat) : Int := toneRound (Config.toneUp false th) th
def toneCos (th : Nat) : Int := toneRound (Config.toneUp true th) (th + 2 ^ 30)

/-- The tone added to the interpolator sum, in its units of 2^-56: the amplitude times the wave, on a linear ramp of 384 periods
(R293; log entry 20). -/
def toneAdd (th : Nat) (amp : Word) (pos : Nat) : Int :=
  let x := sval amp * (if Config.toneCosine then toneCos th else toneSin th) * 4 * pos
  if pos = 0 then 0 else if x % 384 = 0 then x / 384 else x / 384 + (if Config.toneLsb th amp pos then 1 else 0)

/-- The tone generator moves on a period (R293). -/
def toneStep (c : BrCh) : BrCh :=
  { c with tonePhase := (c.tonePhase + 0x10AAAAAB) % 2 ^ 32,
           tonePos := if c.tone then min 384 (c.tonePos + 1) else c.tonePos - 1 }

/-- A bank enters mode S. -/
def bankModeS (b : Nat) (s : State) : State :=
  let k := s.bank b
  if k.modeS then s else (s.setBank b { k with modeS := true }).raise 0x0204 b

/-- A carrier-period start of a bank, that of its lowest channel: written control and rail window act (R273), FORCE_S enters mode
S, and after 38,400 consecutive periods of valid rail the bank returns (R275). -/
def bankTick (b : Nat) (s : State) : State :=
  let k := s.bank b
  let k := { k with ctl := s.reg (bankReg b 0), window := s.reg (bankReg b 4),
                    okPer := if k.valid then min 38400 (k.okPer + 1) else 0 }
  let s := s.setBank b k
  if k.ctl.bit 2 then bankModeS b s
  else if k.modeS ∧ 38400 ≤ k.okPer ∧ k.ctl.bit 4 then (s.setBank b { k with modeS := false }).raise 0x0205 b
  else s

/-- The clears that wait for the channel's carrier-period start (R273). -/
def brRequests (n : Nat) (s : State) : State :=
  let c := s.br n
  s.setBr n { c with
    limit := if c.occReq then 0 else c.limit, trips := if c.occReq then 0 else c.trips,
    clip := c.clip && !c.clipReq, clipCnt := if c.clipReq then 0 else c.clipCnt, ocIdle := c.ocIdle && !c.idleReq,
    occReq := false, clipReq := false, idleReq := false }

/-- A channel resumes from its common-mode ramp after a clear with CLEAR_CODE = 1 and CLRRES = 1 (R276). -/
def BrCh.resumed (cm : Nat) (c : BrCh) : BrCh :=
  match c.st with
  | .parked => c
  | .trip => c
  | .latched => c
  | .lvlDn => c.toParked
  | .cmDn => c.toParked
  | .retry => c.toRetry cm
  | _ => { c with st := .cmUp, i := 0, n := cm, lam := 0, lamTo := 0, runN := 0 }

/-- The channel's first carrier-period start after the release of a clear (R273, R276). With CLRRES = 0 a channel that is not idle
acts as though EN had been written 0; with CLRRES = 1 it resumes by R274, and after CLEAR_CODE = 1 from its ramp. Answers whether the
channel resumes so. -/
def clearEnd (n : Nat) (s : State) : Bool × State :=
  let c := s.br n
  let k := (s.bank (n / 8)).ctl
  let d := { c with ended := false }
  if !c.ended then (false, s)
  else if c.st.idle then (false, s.setBr n d)
  else if !k.bit 1 then (false, s.setBr n { d with offByClear := true })
  else if !k.bit 0 then (false, s.setBr n d)
  else (true, (if c.st = .retry then dwellStop n s else s).setBr n (d.resumed (s.cmN n)))

/-- A carrier period starts (R263 to R275). -/
def carrierStart (n : Nat) (s : State) : State :=
  let s := brRequests n (if n % 8 = 0 then bankTick (n / 8) s else s)
  let before := s.br n
  let frozen := s.mod.clkErr
  -- states: a transition takes effect now; otherwise ramps and counts move on
  let fin := clearEnd n s
  let t := if fin.1 then fin.2 else brTransit n fin.2
  let c := t.br n
  let moved := fin.1 || decide (c.st ≠ before.st ∨ c.step ≠ before.step)
  let c := if moved then c else if frozen then c.counts else t.brAdvance n c.counts
  let c := { c with clrReq := false, oc := c.oc * 2 % 256, cut := before.sCut.isSome, sCut := none,
                    tail := before.sCut.getD 0,
                    stagger := if before.st.idle || c.st.idle then some (t.fldN (brReg n 0) 2 4) else c.stagger }
  -- the row, and the resumption after a row that has ended
  let row := t.pinRow n c
  let resume := before.row.overrides && row == .pattern && (c.st == .lvlUp || c.st == .run)
  let c := if resume then ({ c with st := .lvlUp, lam := 0, runN := 0 } : BrCh).lvlRamp 65536 (t.lvlM n) else c
  -- the sample, the range, the mode and the tone
  let yc := t.brInput n c
  let cross := isCrossing yc.1 c.lastY
  let c := toneStep (t.modeStep n (t.rangeStep n yc.2 cross) cross)
  let ty := toneAdd c.tonePhase t.mon.amp c.tonePos
  -- the drive
  let u0 := driveU (yc.1 + ty) c.lam (t.brK n c)
  let um := t.dMax * 2 ^ 16
  let u := clampTo um u0
  let live := c.audio && !c.modeS
  let q := if live then quantise t.dMax u c.errs else (0, c.errs, false)
  let goal := (yc.1 + ty) * c.lam * c.fsq
  let sOver := c.audio && c.modeS && decide (2 ^ 100 < goal.natAbs)
  let w := t.brWidths n c row q.1
  let rp := t.refOf n c yc.1
  let rt := t.refOf n c ty
  let drives := row == .pattern && c.audio
  let c := { c with
    errs := q.2.1, row := row, w := c.width, wA := w.1, wB := w.2, lastY := yc.1,
    refs := ((rp, rt, c.tonePhase) :: c.refs).take 16, target := if c.modeS then clampTo (2 ^ 100) goal else 0,
    dms := if drives && t.bitN 0x10090000 2 then c.dms + ((rp + rt) * (rp + rt)).toNat else c.dms,
    pms := c.pms + (rp * rp).toNat }
  clampCount n ((live && (decide (u ≠ u0) || q.2.2)) || sOver) (t.setBr n c)

/-- CARRIER_PERIOD_START (R272). -/
def execCarrierPeriodStart (ch : Fin 64) (s : State) : Res := .next (carrierStart ch s)

/-! ## Commands of a channel -/

/-- Clear CLIP and its count, at the next carrier-period start (R273). -/
def clipClear (n : Nat) (s : State) : State := s.setBr n { s.br n with clipReq := true }

/-- CLIP_CLEAR (R264). -/
def execClipClear (ch : Fin 64) (s : State) : Res := .next (clipClear ch s)

/-- What follows a write of EN: 0 ends the parking by a clear (R276); supervision counts from 0 to 1 (R304). -/
def brEnEffect (n : Nat) (was b : Bool) (s : State) : State :=
  if !b then s.setBr n { s.br n with offByClear := false }
  else if was then s else s.setMonC n { s.monC n with validAt := s.sctr, unmeasured := false }

/-- A write of EN. -/
def brEnWrite (n : Nat) (b : Bool) (s : State) : State :=
  brEnEffect n (s.bitN (brReg n 0) 0) b (s.setFldN (brReg n 0) 0 1 (bitOf b))

/-- BRIDGE_ENABLE (R272). -/
def execBridgeEnable (ch : Fin 64) (s : State) : Res := .next (brEnWrite ch true s)

/-- BRIDGE_DISABLE (R272). -/
def execBridgeDisable (ch : Fin 64) (s : State) : Res := .next (brEnWrite ch false s)

/-- A write of FS_CODE (R267). -/
def rangeChange (n code : Nat) (s : State) : State :=
  if s.fldN (brReg n 4) 0 12 = code then s
  else
    let t := s.setFldN (brReg n 4) 0 12 code
    let c := t.br n
    if c.st.idle then t.setBr n { c with fsq := code * 2 ^ 16, ranging := .idle }
    else t.setBr n { c with ranging := .waiting 0 }

/-- RANGE_CHANGE (R267). -/
def execRangeChange (ch : Fin 64) (code : BitVec 12) (s : State) : Res := .next (rangeChange ch code.toNat s)

/-- STAGGER_WRITE: it reads back at once and acts at a period start in PARKED, TRIP or LATCHED (R268). -/
def execStaggerWrite (ch : Fin 64) (val : BitVec 4) (s : State) : Res := .next (s.setFldN (brReg ch 0) 2 4 val.toNat)

/-- CLR_LATCH acts at the next carrier period start (R272, R273). -/
def clrLatch (n : Nat) (s : State) : State := s.setBr n { s.br n with clrReq := true }

/-- CLR_LATCH (R272). -/
def execClrLatch (ch : Fin 64) (s : State) : Res := .next (clrLatch ch s)

/-- A verdict is taken during the dwell only, values 0 and 3 are ignored (R280). -/
def verdictWrite (n v : Nat) (s : State) : State :=
  let c := s.br n
  if (v = 1 ∨ v = 2) ∧ c.st = .retry ∧ c.step = .dwell then s.setBr n { c with verdict := v } else s

/-- VERDICT (R280). -/
def execVerdict (ch : Fin 64) (val : BitVec 2) (s : State) : Res := .next (verdictWrite ch val.toNat s)

/-- The first tick of a pulse of width `w` in its period: centre − ceil(w / 2), the centre being tick 128. -/
def pulseStart (w : Nat) : Nat := 128 - (w + 1) / 2

/-- The pins were high at some time up to tick `t` of the period. -/
def BrCh.wasHigh (c : BrCh) (t : Nat) : Bool :=
  (0 < c.wA && decide (pulseStart c.wA ≤ t)) || (0 < c.wB && decide (pulseStart c.wB ≤ t)) ||
    (c.modeS && c.row == .pattern)

/-- Periods of the last eight in which OC was seen. -/
def ocCount (oc : Nat) : Nat := ((List.range 8).filter (fun k => oc.testBit k)).length

/-- OC is seen at tick `t` of the carrier period (R278, R279); in mode S it acts for a period's length from there (R275). -/
def ocSeen (n t : Nat) (s : State) : State :=
  let c := s.br n
  if c.oc.testBit 0 ∨ t < c.tail then s
  else if !c.wasHigh t then s.setBr n { c with ocIdle := true }
  else
    let c := { c with oc := c.oc + 1, limit := incHold 0xFFFF c.limit, cut := true, wA := 0, wB := 0,
                      sCut := if c.modeS then some t else none }
    let u := s.setBr n c
    if 4 ≤ ocCount c.oc ∧ (c.st = .run ∨ c.st = .lvlUp ∨ c.st = .lvlDn ∨ c.st = .retry) then tripAct n u else u

/-- OC_DETECT (R278). -/
def execOcDetect (ch : Fin 64) (tick : Fin 256) (s : State) : Res := .next (ocSeen ch tick s)

/-- TRIP_TIMER_EXPIRY (R272). -/
def execTripTimerExpiry (ch : Fin 64) (s : State) : Res := .next (tripExpire ch s)

/-- RETRY_DWELL_END (R280). -/
def execRetryDwellEnd (ch : Fin 64) (s : State) : Res := .next (dwellEnd ch s)

/-- RETRIES_RESET (R279). -/
def execRetriesReset (ch : Fin 64) (s : State) : Res := .next (retriesReset ch s)

/-- Clear LIMIT and TRIPS, at the next carrier-period start (R273). -/
def occntClr (n : Nat) (s : State) : State := s.setBr n { s.br n with occReq := true }

/-- OCCNT_CLR. -/
def execOccntClr (ch : Fin 64) (s : State) : Res := .next (occntClr ch s)

/-! ## Clear pins and the clock monitor (R276, R277) -/

/-- BCLR_ACTIVE (R276). -/
def execBclrActive (bank : Fin 8) (s : State) : Res :=
  let k := s.bank bank
  .next (onlyIf (!k.clear) s ((s.setBank bank { k with clear := true }).raise 0x0208 bank))

/-- BCLR_RELEASE (R276). -/
def execBclrRelease (bank : Fin 8) (s : State) : Res :=
  let k := s.bank bank
  .next (onlyIf k.clear s
    ((List.range 8).foldl (fun t i =>
        let n := 8 * bank.val + i
        t.setBr n { t.br n with ended := true })
      ((s.setBank bank { k with clear := false }).raise 0x0209 bank)))

/-- A clock error begins or goes on. -/
def clockBad (stopped : Bool) (s : State) : State :=
  let m := s.mod
  let t := { s with mod := { m with clkErr := true, clkStopped := stopped, goodWins := 0,
                                    episodes := if m.clkErr then m.episodes else incHold 0xFFFF m.episodes } }
  t.raiseIf (!m.clkErr) 0x0206 0

/-- CLOCK_ERROR_WINDOW: a window of 1,024 oscillator periods ends with this count (R277). -/
def execClockErrorWindow (count : Nat) (s : State) : Res :=
  let s := { s with mod := { s.mod with clkCount := min 0xFFF count } }
  let m := s.mod
  .next (if count + 11 ≤ 2048 ∨ 2059 ≤ count then clockBad false s
    else if !m.clkErr then s
    else if 480 ≤ m.goodWins + 1 then
      ({ s with mod := { m with clkErr := false, goodWins := 0 } } : State).raise 0x0207 0
    else { s with mod := { m with goodWins := m.goodWins + 1 } })

/-- EDGE_CLOCK_STOPPED (R277). -/
def execEdgeClockStopped (s : State) : Res := .next (clockBad true s)

/-- A rail conversion of a bank (R266). -/
def railConvert (b code : Nat) (s : State) : State :=
  let k := s.bank b
  let lo := max 64 (k.window.fld 0 12)
  let ok := decide (lo ≤ code ∧ code ≤ k.window.fld 16 12)
  let k := { k with rail := code, valid := ok, good := if ok then code else k.good,
                    badRun := if ok then 0 else k.badRun + 1, goodRun := if ok then k.goodRun + 1 else 0 }
  let auto := k.ctl.bit 3
  let k := { k with mute := if 2 ≤ k.goodRun then false else if 2 ≤ k.badRun ∧ ¬ auto then true else k.mute }
  let t := s.setBank b k
  if 2 ≤ k.badRun ∧ auto then bankModeS b t else t

/-! ## BRG registers (R285) -/

def brgRead (a : Nat) (s : State) : Word :=
  if 0x10072000 ≤ a then
    (if a = 0x10072008 then packW [(0, s.mod.clkCount), (12, bitOf s.mod.clkErr), (13, bitOf s.mod.clkStopped),
        (16, s.mod.episodes)]
     else s.reg a)
  else if 0x10071000 ≤ a then
    let k := s.bank ((a - 0x10071000) / 0x20)
    if (a % 0x20) / 4 = 2 ∧ a < 0x10071100 then
      packW [(0, k.rail), (12, bitOf k.valid), (13, bitOf k.modeS), (14, bitOf k.clear)]
    else s.reg a
  else
    let n := (a - 0x10070000) / 0x40
    let c := s.br n
    match (a % 0x40) / 4 with
    | 0 => (s.reg a).setBit 31 c.clrReq
    | 1 => (s.reg a).setBit 31 (c.ranging != .idle)
    | 2 => packW [(0, c.st.code), (4, bitOf c.modeS), (5, bitOf (c.row == .hold)), (6, bitOf (c.row == .clockErr)),
        (7, bitOf (c.row == .clear)), (8, c.retries), (10, bitOf c.ocIdle), (11, bitOf c.clip),
        (12, bitOf ((s.bank (n / 8)).mute && !c.st.idle))]
    | 3 => 0
    | 4 => packW [(0, c.limit), (16, c.trips), (31, bitOf c.occReq)]
    | 5 => Word.ofNat c.clipCnt
    | _ => s.reg a

def brgWrite (a : Nat) (v : Word) (s : State) : State :=
  if 0x10071000 ≤ a then s.writeRW a v
  else
    let n := (a - 0x10070000) / 0x40
    match (a % 0x40) / 4 with
    | 0 =>
      let t := s.writeRW a v
      let t := brEnEffect n (s.bitN a 0) (v.bit 0) t
      if v.bit 31 then clrLatch n t else t
    | 1 => rangeChange n (v.fld 0 12) s
    | 2 =>
      let t := if v.bit 11 then clipClear n s else s
      if v.bit 10 then t.setBr n { t.br n with idleReq := true } else t
    | 3 => verdictWrite n (v.fld 0 2) s
    | 4 => if v.bit 31 then occntClr n s else s
    | _ => s

end Sys2Proof.Machine
end

