-- ==== Sys2Proof/Machine/Mon.lean ====
section
/-!
DEFINITION. Line supervision (R287 to R299, R303, R304), the supervised contact inputs (R300, R301) and the control
lines (R305 to R307).
-/

namespace Sys2Proof.Machine

open Sys2Proof

def monReg (n off : Nat) : Nat := 0x10081000 + 0x80 * n + off

/-! ## Measurement (R291 to R295) -/

/-- A chain that MON measures with (R291). -/
def State.chMeasures (s : State) (c : Nat) : Bool :=
  s.chEn c && decide (s.chL c = 16) && !s.chFir c && !s.chErr c

def State.groupMeasures (s : State) (j : Nat) : Bool := s.chMeasures (2 * j) && s.chMeasures (2 * j + 1)

/-- DWELL in milliseconds. -/
def State.dwellMs (s : State) : Nat := s.fldN 0x10072000 16 10

/-- Output `k` of a slot or a dwell lies in the window (R294). -/
def State.inWindow (s : State) (retry : Bool) (k : Nat) : Bool :=
  decide (384 ≤ k) && decide (k < if retry then (s.dwellMs - 20) * 192 else 48000)

/-- The references for the chain output at input `i`: those of carrier period floor((i − 30 − s/2) / 8) (R292). -/
def State.monRefs (s : State) (n i : Nat) : Int × Int × Nat :=
  let c := s.br n
  let k := (2 * (i : Int) - 60 - c.stag n) / 16
  -- the latest period is 8 SCTR + per − 1
  c.refs.getD ((8 * s.sctr + c.period n : Nat) - 1 - k).toNat (0, 0, 0)

/-- Add exact products to 88-bit accumulators. -/
def addSums (xs ds : List Int) : List Int :=
  (List.range 10).map (fun k => wrapS 88 (xs.getD k 0 + ds.getD k 0))

/-- What a V output and an I output add to SVR SIR SRR SVV VC VS IC IS TA TB. -/
def vTerms (v : Int) (r : Int × Int × Nat) : List Int :=
  let cs := toneCos r.2.2
  let sn := toneSin r.2.2
  [v * r.1, 0, r.1 * r.1, v * v, v * cs, v * sn, 0, 0, r.2.1 * cs, r.2.1 * sn]

def iTerms (i : Int) (r : Int × Int × Nat) : List Int :=
  [0, i * r.1, 0, 0, 0, 0, i * toneCos r.2.2, i * toneSin r.2.2, 0, 0]

/-- The output at input `i` of monitor chain `c` enters the window of the channel the mux selects (R294). -/
def monTake (c i : Nat) (x : Int) (s : State) : State :=
  if 32 ≤ c then s else
  let j := c / 2
  let n := 4 * j + (s.monG j).cur
  let m := s.monC n
  if !s.groupMeasures j || !(m.slotOpen || m.retry) then s
  else
    let isV := c % 2 == 0
    let k := if isV then m.nV else m.nI
    let m := if isV then { m with nV := k + 1 } else { m with nI := k + 1 }
    if !s.inWindow m.retry k then s.setMonC n m
    else
      let b := s.br n
      let r := s.monRefs n i
      s.setMonC n { m with
        sums := addSums m.sums (if isV then vTerms x r else iTerms x r)
        notRun := m.notRun || b.st != .run
        clipAdv := m.clipAdv && !(isV && k == 384) }

/-- DECIMATOR_OUTPUT (R208): the chain takes its next inputs, up to an output or beyond; its detectors, its feed, and MON's
sums. -/
def execDecimatorOutput (c : Fin 48) (bits : List Int) (s : State) : Res :=
  let r := decimate c bits s
  .next (r.2.foldl (fun t o => monTake c o.1 o.2 t) r.1)

/-! ## The scan (R289, R293) -/

/-- The tone decision at the start of the channel's own slot (R293). -/
def toneDecide (n : Nat) (s : State) : State :=
  let b := s.br n
  let m := s.monC n
  let pms := b.pms / (2 ^ 30 * 96000)
  let on := s.bitN (monReg n 0) 1 ||
    (s.bitN (monReg n 0) 0 && (decide (pms < s.regN 0x10080004) || m.lastLow))
  (s.setBr n { b with tone := on }).setMonC n { m with pms := pms }

/-- A slot starts in a group: the mux moves unless a dwell holds it, and the slot's channel opens its window. -/
def groupSlot (j : Nat) (s : State) : State :=
  let a := 0x10080100 + 4 * j
  let g := { s.monG j with scan := s.bitN a 0, pos := s.fldN a 1 2 }
  let s := s.setMonG j g
  let p := s.slotPos j
  let s := if g.owner = none ∧ g.cur ≠ p then muxTo j p s else s
  if !g.scan then s
  else
    let n := 4 * j + p
    let s := toneDecide n s
    let s := if g.owner = some n then s else windowOpen n false s
    s.setMonC n { s.monC n with slotOpen := true, lost := g.owner.isSome }

/-- SCAN_SLOT_START (R289): at SCTR 12,000 q, in every group. -/
def execScanSlotStart (s : State) : Res :=
  .next (onlyIf (decide (s.sctr % 12000 = 0 ∧ s.mon.slotAt ≠ some (s.sctr / 12000))) s
    (let t := (List.range 16).foldl (fun u j => groupSlot j u) { s with mon :=
        { s.mon with amp := s.reg 0x10080000, slotAt := some (s.sctr / 12000) } }
     (List.range 64).foldl (fun u n => u.setBr n { u.br n with pms := 0 }) t))

/-- Latch a window with its class, validity and cause. -/
def latchAs (n cls cause endAt : Nat) (valid : Bool) (s : State) : State :=
  let m := s.monC n
  s.setMonC n { m with
    latched := if cause = 3 then m.latched else (List.range 10).map (fun k => wrapS 64 (m.sums.getD k 0 / 2 ^ 24))
    cls := cls, valid := valid, cause := cause, seq := (m.seq + 1) % 2 ^ 16, endAt := endAt
    clipped := m.clipAdv }

/-- The end of a scan slot's window (R295). -/
def latchSlot (n : Nat) (s : State) : State :=
  let m := s.monC n
  let endAt := (s.sctr + 24) / 12000 * 12000 - 1
  let tone := (s.br n).tone
  let cause :=
    if m.lost then 3 else if !s.groupMeasures (n / 4) then 4 else if m.notRun then 1
    else if tone then 0
    else if m.sums.getD 2 0 < (s.regN 0x10080004 * 2 ^ 30 * 47616 : Nat) then 2 else 0
  let cls := if cause = 0 ∨ cause = 2 then (if tone then 2 else 1) else 0
  let t := latchAs n cls cause endAt (cause == 0) s
  let m := t.monC n
  t.setMonC n { m with slotOpen := false, lost := false, lastLow := cause == 2,
                       validAt := if cause = 0 then endAt else m.validAt
                       unmeasured := m.unmeasured && cause != 0 }

/-- The end of a retry dwell's window; a dwell without a window gives CAUSE 3. -/
def latchRetry (n : Nat) (s : State) : State :=
  let cause := if (s.monG (n / 4)).owner ≠ some n ∨ s.dwellMs < 30 then 3
    else if !s.groupMeasures (n / 4) then 4 else 0
  let t := latchAs n (if cause = 0 then 3 else 0) cause s.sctr (cause == 0) s
  t.setMonC n { t.monC n with retry := false, dwellDone := true }

/-- WINDOW_LATCH (R294, R295): in the dwell, once, 20 ms before its end; else with the last block of the channel's slot, lost
slots of its own dwell among them. -/
def execWindowLatch (ch : Fin 64) (s : State) : Res :=
  let n := ch.val
  let b := s.br n
  if b.st = .retry ∧ b.step = .dwell ∧ ¬ (s.monC n).dwellDone ∧ (s.dwellMs - 20) * 384 ≤ b.dwellN then
    .next (latchRetry n s)
  else
    .next (onlyIf ((s.monC n).slotOpen && (decide (s.sctr % 12000 = 11976) || decide (s.slotPos (n / 4) ≠ n % 4))) s
      (latchSlot n s))

/-! ## Zekor's judgement (R296 to R298) -/

/-- The square root of a rational that is not negative, floored to 48 fraction bits. -/
def qsqrt (q : Rat) : Rat := (Nat.sqrt (q * 2 ^ 96).floor.toNat : Rat) / 2 ^ 48

/-- The ratio of two magnitudes; none where the second is 0. -/
def magRatio (a b c d : Int) : Option Rat :=
  if c * c + d * d = 0 then none else some (qsqrt (((a * a + b * b : Int) : Rat) / ((c * c + d * d : Int) : Rat)))

def MonCh.l (m : MonCh) (k : Nat) : Int := m.latched.getD k 0

/-- Z over aV × GI of the latched window (R296); none is infinite. -/
def MonCh.impedance (m : MonCh) : Option Rat :=
  if m.cls = 1 then (if m.l 1 ≤ 0 then none else some ((m.l 0 : Rat) / (m.l 1 : Rat)))
  else magRatio (m.l 4) (m.l 5) (m.l 6) (m.l 7)

/-- LEARN takes a valid window of its class: the mean of ten becomes the reference. -/
def learnTake (z : Option Rat) (m : MonCh) : MonCh :=
  match z with
  | none => m
  | some z =>
    if m.cls = 1 ∧ 0 < m.learnP then
      let m := { m with learnP := m.learnP - 1, sumP := m.sumP + z }
      if m.learnP = 0 then { m with zrefP := some (m.sumP / 10), sumP := 0 } else m
    else if m.cls = 2 ∧ 0 < m.learnT then
      let g := (magRatio (m.l 4) (m.l 5) (m.l 8) (m.l 9)).getD 0
      let m := { m with learnT := m.learnT - 1, sumT := m.sumT + z, sumG := m.sumG + g }
      if m.learnT = 0 then { m with zrefT := some (m.sumT / 10), gt := some (m.sumG / 10), sumT := 0, sumG := 0 } else m
    else m

def MonCh.win (m : MonCh) : Rat := match m.winW with | none => 1 / 5 | some w => Config.supFrac w
def MonCh.thr (m : MonCh) : Rat := match m.thrW with | none => 1 / 4 | some w => Config.supFrac w

/-- The reference of the window's class. -/
def MonCh.zref (m : MonCh) : Option Rat := if m.cls = 1 then m.zrefP else m.zrefT

/-- OUT or IN; none where the class has no reference (R296). -/
def MonCh.isOut (m : MonCh) (z : Option Rat) : Option Bool :=
  m.zref.map (fun r => match z with
    | none => true
    | some z => decide (z < r * (1 - m.win) ∨ r * (1 + m.win) < z))

/-- The line's runs (R297). -/
def lineJudge (n : Nat) (z : Option Rat) (s : State) : State :=
  let m := s.monC n
  match m.isOut z with
  | none => s
  | some out =>
    if out = m.lineFault then s.setMonC n { m with runAt := none }
    else match m.runAt with
      | none => s.setMonC n { m with runAt := some m.endAt }
      | some t =>
        if t + 480000 ≤ m.endAt then
          (s.setMonC n { m with lineFault := out, runAt := none }).raise (if out then 0x0101 else 0x0102) (s.brLedger n)
        else s

/-- ε of the latched window; none where it is not judged (R298). -/
def MonCh.epsilon (m : MonCh) (n : Nat) : Option Rat :=
  if m.clipped then none
  else if m.cls = 1 then
    some (if m.l 3 * m.l 2 = 0 then Config.residual n m.seq
      else 1 - ((m.l 0 * m.l 0 : Int) : Rat) / ((m.l 3 * m.l 2 : Int) : Rat))
  else if m.cls = 2 then
    m.gt.map (fun g => match magRatio (m.l 4) (m.l 5) (m.l 8) (m.l 9) with
      | some r => if g = 0 then Config.residual n m.seq else absQ (r / g - 1)
      | none => Config.residual n m.seq)
  else none

/-- The read-back's runs (R298). -/
def outJudge (n : Nat) (e : Option Rat) (s : State) : State :=
  let m := s.monC n
  match e with
  | none => s
  | some e =>
    let above := decide (m.thr < e)
    if above = m.outFault then s.setMonC n { m with rbRun := 0 }
    else if m.rbRun + 1 < 3 then s.setMonC n { m with rbRun := m.rbRun + 1 }
    else (s.setMonC n { m with rbRun := 0, outFault := above }).raise (if above then 0x0103 else 0x0104) (s.brLedger n)

/-- The verdict of a RETRY window (R297). -/
def retryVerdict (m : MonCh) (z : Option Rat) : Nat :=
  match z, m.zrefT with
  | some z, some r => if z < r / 4 then 2 else 1
  | _, _ => 1

/-- A latched window is judged once. -/
def judge (n : Nat) (s : State) : State :=
  let m := s.monC n
  let s := s.setMonC n { m with judged := m.seq }
  if !m.valid then s
  else
    let z := m.impedance
    if m.cls = 3 then verdictWrite n (retryVerdict m z) (s.setMonC n { s.monC n with zLast := z })
    else
      let e := m.epsilon n
      let t := outJudge n e (lineJudge n z (s.setMonC n { s.monC n with zLast := z, eLast := e }))
      t.setMonC n (learnTake z (t.monC n))

/-- An enabled channel without a valid scan window for 20 s (R304). -/
def unmeasuredCheck (n : Nat) (s : State) : State :=
  let m := s.monC n
  if s.bitN (brReg n 0) 0 ∧ ¬ m.unmeasured ∧ m.validAt + 960000 ≤ s.sctr then
    (s.setMonC n { m with unmeasured := true }).raise 0x0105 (s.brLedger n)
  else s

/-- SUP_EVALUATE (R296 to R298, R304). -/
def execSupEvaluate (ch : Fin 64) (s : State) : Res :=
  .next (unmeasuredCheck ch (if (s.monC ch).judged = (s.monC ch).seq then s else judge ch s))

/-! ## Contact inputs (R300, R301) -/

def State.sinAt (s : State) (k : Nat) : Sin := Tbl.getD s.mon.sin k {}
def State.setSin (s : State) (k : Nat) (x : Sin) : State :=
  { s with mon := { s.mon with sin := Tbl.set s.mon.sin k x {} } }

/-- The states by rising code: SHORT, ACTIVE, NORMAL, OPEN. -/
def sinRank (st : Nat) : Nat := if st = 2 then 0 else if st = 1 then 1 else if st = 0 then 2 else 3

/-- The raw state of a code: HYS moves each threshold away from the accepted state. -/
def sinRaw (tShort tActive tOpen hys : Nat) (state code : Nat) : Nat :=
  let r := sinRank state
  let at' := fun (thr : Nat) (above : Bool) => if above then (thr : Int) - hys else (thr : Int) + hys
  if (code : Int) < at' tShort (decide (1 ≤ r)) then 2
  else if (code : Int) < at' tActive (decide (2 ≤ r)) then 1
  else if (code : Int) ≤ at' tOpen (decide (3 ≤ r)) then 0
  else 3

/-- The raw state of a conversion of input `k`. -/
def State.sinRawOf (s : State) (k code : Nat) : Nat :=
  sinRaw (s.fldN 0x10084004 0 12) (s.fldN 0x10084004 16 12) (s.fldN 0x10084008 0 12) (s.fldN 0x10084000 24 8)
    (s.sinAt k).state code

/-- A conversion of contact input `k`. -/
def sinSample (k code : Nat) (s : State) : State :=
  let x := s.sinAt k
  let raw := s.sinRawOf k code
  let run := if raw = x.raw then x.run + 1 else 1
  let deb := max 1 (s.fldN 0x10084000 16 8)
  let x := { x with code := code, raw := raw, run := run }
  if deb ≤ run ∧ raw ≠ x.state then
    (audioDone (s.setSin k { x with state := raw, changes := incHold 0xFFFF x.changes, seen := some s.audioSctr })).raise
      (0x0110 + raw) (s.ledger 11 k)
  else s.setSin k x

/-- SIN_SAMPLE (R301): only an enabled input is converted. -/
def execSinSample (k : Fin 16) (code : BitVec 12) (s : State) : Res :=
  .next (onlyIf (s.bitN 0x10084000 k) s (sinSample k code.toNat s))

/-- A threshold write restarts the debounce counts (R301). -/
def sinThrWrite (a : Nat) (v : Word) (s : State) : State :=
  (List.range 16).foldl (fun t k => t.setSin k { t.sinAt k with run := 0 }) (s.writeRW a v)

/-- SIN_THRESHOLD_WRITE (R301). -/
def execSinThresholdWrite (second : Bool) (val : Word) (s : State) : Res :=
  .next (sinThrWrite (if second then 0x10084008 else 0x10084004) val s)

/-! ## Control lines (R305 to R307) -/

/-- A write of LEVEL: it ends the latch's hold of the half's lines. -/
def ctlLevelWrite (half : Nat) (v : Word) (s : State) : State :=
  let t := s.writeRW (0x10160000 + 4 * half) v
  { t with mon := { t.mon with ctl := { t.mon.ctl with written := t.mon.ctl.written ||| 2 ^ half } } }

/-- A write of one line's LEVEL by Zekor: before the first write of the half it takes the levels of CTL_PINLVL, so that no other
line moves (R305). -/
def ctlLineWrite (k : Nat) (level : Bool) (s : State) : State :=
  let half := k / 32
  let now := if s.mon.ctl.written.testBit half then s.reg (0x10160000 + 4 * half) else s.ctlPins half
  ctlLevelWrite half (now.setBit (k % 32) level) s.tickFree

/-- CTL_LEVEL_WRITE (R305). -/
def execCtlLevelWrite (half : Fin 2) (val : Word) (s : State) : Res := .next (ctlLevelWrite half val s)

/-- A sample of a control input (R306). -/
def ctlInSample (line : Nat) (level : Bool) (s : State) : State :=
  let c := s.mon.ctl
  let run := Tbl.getD c.runs line 0 + 1
  let c :=
    if level = c.inLvl.getLsbD line then { c with runs := Tbl.set c.runs line 0 0 }
    else if max 1 (s.fldN 0x10160024 0 8) ≤ run then
      { c with runs := Tbl.set c.runs line 0 0, inLvl := c.inLvl ^^^ Word.ofNat (2 ^ line),
               chg := c.chg ||| Word.ofNat (2 ^ line) }
    else { c with runs := Tbl.set c.runs line run 0 }
  { s with mon := { s.mon with ctl := c } }

/-- CTL_IN_SAMPLE (R306). -/
def execCtlInSample (line : Fin 32) (level : Bool) (s : State) : Res := .next (ctlInSample line level s)

/-! ## MON and CTL registers (R303, R307) -/

def monRead (a : Nat) (s : State) : Word :=
  if 0x10084000 ≤ a then
    (if 0x10084010 ≤ a then
      let x := s.sinAt ((a - 0x10084010) / 4)
      packW [(0, x.code), (12, x.state), (14, x.raw), (16, x.changes)]
     else s.reg a)
  else if 0x10081000 ≤ a then
    let n := (a - 0x10081000) / 0x80
    let m := s.monC n
    let off := a % 0x80
    if off = 4 then
      packW [(0, m.cls), (2, bitOf m.valid), (3, m.cause), (6, bitOf (s.br n).tone), (16, m.seq)]
    else if 8 ≤ off ∧ off < 0x58 then
      let x := m.l ((off - 8) / 8)
      Word.ofInt (if off % 8 = 0 then x else x / 2 ^ 32)
    else if off = 0x58 then Word.ofNat m.pms
    else s.reg a
  else if 0x10080100 ≤ a then
    let j := (a - 0x10080100) / 4
    (s.reg a &&& 7) ||| packW [(3, (s.monG j).cur), (5, bitOf (s.monG j).owner.isSome)]
  else s.reg a

def monWrite (a : Nat) (v : Word) (s : State) : State :=
  if a = 0x10084004 ∨ a = 0x10084008 then sinThrWrite a v s else s.writeRW a v

/-- A read of CTL_PINLVL consumes a free value for the lines that nothing of the device drives. -/
def ctlRead (a : Nat) (s : State) : Word × State :=
  if a = 0x10160018 then (s.ctlPins 0, s.tickFree)
  else if a = 0x1016001C then (s.ctlPins 1, s.tickFree)
  else if a = 0x10160020 then (s.mon.ctl.inLvl, s)
  else if a = 0x10160028 then (s.mon.ctl.chg, s)
  else (s.reg a, s)

def ctlWrite (a : Nat) (v : Word) (s : State) : State :=
  if a = 0x10160000 then ctlLevelWrite 0 v s
  else if a = 0x10160004 then ctlLevelWrite 1 v s
  else if a = 0x10160028 then { s with mon := { s.mon with ctl := { s.mon.ctl with chg := s.mon.ctl.chg &&& ~~~v } } }
  else s.writeRW a v

end Sys2Proof.Machine
end

