-- ==== Sys2Proof/Machine/Sar.lean ====
section
/-!
DEFINITION. The SAR converter, the charge accumulator and the drive-power detectors (R308 to R313, R324).
-/

namespace Sys2Proof.Machine

open Sys2Proof

def State.withSar (s : State) (x : Sar) : State := { s with sar := x }

/-- Entry `m` mod 15 of the slow list: BAT_V, then inputs 10 to 23. -/
def slowInput (m : Nat) : Nat := if m % 15 = 0 then 8 else 9 + m % 15

/-- The input a slot converts (R309). -/
def sarInput (sup frame slot : Nat) : Nat :=
  if frame = 124 ∧ slot = 2 * sup % 8 then 9
  else if frame = 124 ∧ slot = (2 * sup + 1) % 8 then slowInput sup
  else slot

/-- The schedule moves on by a slot. -/
def sarNext (x : Sar) : Sar :=
  if x.slot < 7 then { x with slot := x.slot + 1 }
  else if x.frame < 124 then { x with slot := 0, frame := x.frame + 1 }
  else { x with slot := 0, frame := 0, sup := x.sup + 1 }

/-- The latest code of an input. -/
def State.sarCode (s : State) (i : Nat) : Nat := (Tbl.getD s.sar.codes i (0, 0)).1

/-- A conversion of input `i` (R266, R310 to R312). -/
def sarTake (i code : Nat) (s : State) : State :=
  let x := s.sar
  let x := { x with codes := Tbl.set x.codes i (code, ((Tbl.getD x.codes i (0, 0)).2 + 1) % 2 ^ 16) (0, 0) }
  let s := s.withSar x
  if i < 8 then railConvert i code s
  else if i = 8 then
    (if code < s.fldN 0x10090008 0 12 then (s.withSar { x with batLow := true }).raise 0x0306 (s.ledger 0x15 0) else s)
  else if i = 9 then
    (if s.bitN 0x10090000 1 then
      s.withSar { x with qacc := wrapS 48 (x.qacc + code - s.fldN 0x10090004 0 12), qcnt := (x.qcnt + 1) % 2 ^ 32 }
     else s)
  else if i < 18 then
    (if code < 16 ∨ 4080 < code then
      (s.withSar { x with thmFlt := x.thmFlt ||| Word.ofNat (2 ^ (i - 10)) }).raise 0x0309 (i - 10)
     else s)
  else s

/-- SAR_SLOT (R309): the schedule runs while EN = 1. -/
def execSarSlot (code : BitVec 12) (s : State) : Res :=
  .next (onlyIf (s.bitN 0x10090000 0) s
    (let t := sarTake (sarInput s.sar.sup s.sar.frame s.sar.slot) code.toNat s
     t.withSar (sarNext t.sar)))

/-- A read of RSV_QACC_LO copies the rest into the holding registers (R311). -/
def qaccRead (s : State) : Word × State :=
  let x := s.sar
  (Word.ofInt x.qacc, s.withSar { x with heldHi := (x.qacc / 2 ^ 32 % 2 ^ 16).toNat, heldCnt := x.qcnt })

/-- QACC_LO_READ (R311). -/
def execQaccLoRead (s : State) : Res := .next (qaccRead s).2

/-- Clear QACC and QCNT. -/
def qclr (s : State) : State := s.withSar { s.sar with qacc := 0, qcnt := 0 }

/-- QCLR (R324). -/
def execQclr (s : State) : Res := .next (qclr s)

/-- The drive mean square of a second (R313). -/
def dmsOf (sum : Nat) : Nat := min 0xFFFFFFFF (roundDiv (sum : Int) (2 ^ 30 * 384000)).toNat

/-- DMS_LATCH (R313): at SCTR multiples of 48,000. -/
def execDmsLatch (s : State) : Res :=
  .next (onlyIf (decide (s.sctr % 48000 = 0 ∧ s.sar.dmsAt ≠ some (s.sctr / 48000)) && s.bitN 0x10090000 2) s
    (let t := (List.range 64).foldl (fun u n =>
        u.setBr n { u.br n with dmsLatched := dmsOf (u.br n).dms, dms := 0 }) s
     t.withSar { t.sar with dmsSeq := (t.sar.dmsSeq + 1) % 2 ^ 32, dmsAt := some (s.sctr / 48000) }))

/-! ## RSV registers (R324) -/

def rsvRead (a : Nat) (s : State) : Word × State :=
  let x := s.sar
  let off := a - 0x10090000
  if off = 8 then (s.reg a ||| packW [(12, bitOf x.batLow)], s)
  else if off = 0xC then qaccRead s
  else if off = 0x10 then (Word.ofNat x.heldHi, s)
  else if off = 0x14 then (Word.ofNat x.heldCnt, s)
  else if 0x20 ≤ off ∧ off < 0x80 then
    (let c := Tbl.getD x.codes ((off - 0x20) / 4) (0, 0)
     (packW [(0, c.1), (16, c.2)], s))
  else if 0x100 ≤ off ∧ off < 0x200 then (Word.ofNat (s.br ((off - 0x100) / 4)).dmsLatched, s)
  else if off = 0x200 then (Word.ofNat x.dmsSeq, s)
  else if off = 0x204 then (x.thmFlt, s)
  else (s.reg a, s)

/-- A write of RSV_CTL: EN from 0 to 1 starts the schedule anew, DMS_EN from 0 to 1 its count of latches and
its sums (R313). -/
def rsvCtlWrite (v : Word) (s : State) : State :=
  let t := s.writeRW 0x10090000 v
  let x := t.sar
  let x := if v.bit 0 && !s.bitN 0x10090000 0 then { x with sup := 0, frame := 0, slot := 0 } else x
  let x := if v.bit 2 && !s.bitN 0x10090000 2 then { x with dmsSeq := 0 } else x
  let t := t.withSar x
  let t := if v.bit 2 && s.bitN 0x10090000 2 then t
    else (List.range 64).foldl (fun u n => u.setBr n { u.br n with dms := 0 }) t
  if v.bit 31 then qclr t else t

def rsvWrite (a : Nat) (v : Word) (s : State) : State :=
  let off := a - 0x10090000
  if off = 0 then rsvCtlWrite v s
  else if off = 8 then
    let t := s.writeRW a v
    if v.bit 12 then t.withSar { t.sar with batLow := false } else t
  else if off = 0x204 then s.withSar { s.sar with thmFlt := s.sar.thmFlt &&& ~~~v }
  else s.writeRW a v

end Sys2Proof.Machine
end

