-- ==== Sys2Proof/Machine/RefClock.lean ====
section
/-!
DEFINITION. Reference selection and the clock loop (R326 to R346). Phases and Φ_res are in 1/16 AUDIO periods.
-/

namespace Sys2Proof.Machine

open Sys2Proof

def slotReg (n off : Nat) : Nat := 0x100A0100 + 0x20 * n + off

def State.refSlot (s : State) (n : Nat) : RefSlot := Tbl.getD s.ref.slot n {}
def State.setRefSlot (s : State) (n : Nat) (x : RefSlot) : State :=
  { s with ref := { s.ref with slot := Tbl.set s.ref.slot n x {} } }
def State.withRef (s : State) (x : RefClock) : State := { s with ref := x }
def State.refLedger (s : State) (n : Nat) : Nat := s.ledger 0x0C n

/-- The block that the inputs receive. -/
def State.blk (s : State) : Nat := s.sctr / 24

/-! ## Registers in effect (R345) -/

/-- A REF register as the last update took it: a write takes effect at the next one. -/
def State.refReg (s : State) (a : Nat) : Word := Tbl.getD s.ref.eff a (regReset a)
def State.refFld (s : State) (a lo len : Nat) : Nat := (s.refReg a).fld lo len
def State.refBit (s : State) (a k : Nat) : Bool := (s.refReg a).bit k

/-- An update takes the registers. -/
def refTake (s : State) : State :=
  s.withRef { s.ref with eff := s.regs.filter (fun e => decide (0x100A0000 ≤ e.1 ∧ e.1 < 0x100B0000)) }

/-! ## Phases (R329) -/

/-- The period E of a slot's reference event in 1/16 AUDIO periods. -/
def State.refPeriod (s : State) (n : Nat) : Nat :=
  match n with
  | 4 => 32768
  | 6 =>
    match s.fldN (0x10060000 + 0x80 * s.refFld (slotReg 6 0) 8 4) 12 2 with
    | 1 => 32768 / s.hRatio
    | 2 => 98304
    | _ => 32768
  | 7 => 1572864000
  | _ => 786432

/-- A phase reduced to −E/2 ≤ φ < E/2. -/
def reducePhase (e : Nat) (x : Int) : Int := (x + (e / 2 : Nat)) % (e : Int) - (e / 2 : Nat)

/-! ## Loss and qualification (R330, R333, R334) -/

/-- A condition of R330 that the state shows: SWFAIL, slot 5's upstream cascade port down, or slot 6's port without a
frame clock. -/
def State.slotFails (s : State) (n : Nat) : Bool :=
  s.refBit (slotReg n 0) 4 ||
    (n == 5 && !(s.fldN 0x100E0000 0 2 == 2 && (Tbl.getD s.csc.port 0 {}).st == 3)) ||
    (n == 6 && (match (Tbl.getD s.ports.port (s.refFld (slotReg 6 0) 8 4) {}).st with
      | .acquire => false
      | .run => false
      | _ => true))

/-- The slot becomes LOST at once; the update that sees it is the next one. -/
def slotLost (n : Nat) (s : State) : State :=
  let x := s.refSlot n
  let t := s.setRefSlot n { x with
    q := 0, onTime := 0, count := 0, fresh := false, leftAt := if x.q = 2 then s.ref.cnt + 1 else x.leftAt }
  t.raiseIf (x.q != 0) 0x0405 (s.refLedger n)

/-- Slots that R330 fails now become LOST. -/
def slotsCheck (s : State) : State :=
  (List.range 8).foldl (fun t n => if (t.refSlot n).q != 0 && t.slotFails n then slotLost n t else t) s

/-- SLOT_LOST (R330): no event within 2E, or another loss condition. -/
def execSlotLost (slot : Fin 8) (s : State) : Res := .next (slotLost slot s)

/-- A slot's reference event (R329): the phase, and three events on time leave LOST (R334). -/
def refEvent (n : Nat) (phase : Int) (s : State) : State :=
  let x := { s.refSlot n with phase := reducePhase (s.refPeriod n) phase }
  if x.q ≠ 0 then s.setRefSlot n x
  else if s.slotFails n then s.setRefSlot n { x with onTime := 0 }
  else if x.onTime + 1 < 3 then s.setRefSlot n { x with onTime := x.onTime + 1 }
  else s.setRefSlot n { x with q := 1, onTime := 0, count := 0, fresh := true }

def State.refWin (s : State) : Int := s.refFld 0x100A0008 0 20
def State.refHys (s : State) : Int :=
  let h : Int := s.refFld 0x100A000C 0 16
  if s.refWin ≤ h then s.refWin - 1 else h

/-- R333: the filtered offset. -/
def filterOffset (fk : Nat) (f m : Int) : Int := f + (m - f) / 2 ^ fk

/-- The qualification after a measurement (R334). -/
def qualify (n : Nat) (s : State) : State :=
  let x := s.refSlot n
  let mag : Int := x.f.natAbs
  match x.q with
  | 1 =>
    if s.refWin - s.refHys < mag then s.setRefSlot n { x with count := 0 }
    else if x.count + 1 < max 1 (s.refFld 0x100A000C 16 8) then s.setRefSlot n { x with count := x.count + 1 }
    else (s.setRefSlot n { x with q := 2, count := 0, qualAt := s.ref.cnt }).raise 0x0403 (s.refLedger n)
  | 2 =>
    if mag ≤ s.refWin then s.setRefSlot n { x with count := 0 }
    else
      let x := if x.count = 0 then { x with dwellAt := s.ref.cnt } else x
      if x.count + 1 < max 1 (s.refFld 0x100A0008 20 8) then s.setRefSlot n { x with count := x.count + 1 }
      else (s.setRefSlot n { x with q := 1, count := 0, leftAt := x.dwellAt }).raise 0x0404 (s.refLedger n)
  | _ => s

/-- SLOT_MEASUREMENT (R333): `m` in ppb. -/
def slotMeasure (n : Nat) (m : Int) (s : State) : State :=
  let x := s.refSlot n
  let f := if x.fresh then m else filterOffset (s.refFld 0x100A0008 28 3) x.f m
  qualify n (s.setRefSlot n { x with m := m, f := f, fresh := false })

def execSlotMeasurement (slot : Fin 8) (m : Int) (s : State) : Res := .next (slotMeasure slot m s)

/-! ## Selection (R335 to R337) -/

def State.slotGrade (s : State) (n : Nat) : Nat := s.refFld (slotReg n 0) 0 4

/-- The lowest enabled priority entry that names a slot. -/
def State.prioEntry (s : State) (n : Nat) : Option Nat :=
  (List.range 8).find? (fun e => s.refBit (0x100A0040 + 4 * e) 31 && s.refFld (0x100A0040 + 4 * e) 0 3 == n)

/-- A candidate: slot, entry, and key as one number, lower better. -/
structure Candidate where
  slot : Nat
  entry : Nat
  key : Nat
  deriving DecidableEq, Repr

def State.candidates (s : State) : List Candidate :=
  (List.range 8).filterMap (fun n =>
    match s.prioEntry n with
    | none => none
    | some e =>
      if (s.refSlot n).q = 2 ∧ s.slotGrade n < 15 then
        let rank := s.refFld (0x100A0040 + 4 * e) 4 3
        some ⟨n, e, if s.refBit 0x100A0000 1 then 16 * s.slotGrade n + rank else 16 * rank + s.slotGrade n⟩
      else none)

/-- QUALIFIED for WTR seconds, counted in updates. -/
def State.wtrDone (s : State) (n : Nat) : Bool :=
  (s.refSlot n).q == 2 && decide ((s.refSlot n).qualAt + 2000 * s.refFld 0x100A0010 16 16 ≤ s.ref.cnt)

/-- The least of a list of candidates by a measure, the first of equals. -/
def leastBy (f : Candidate → Nat) : List Candidate → Option Candidate
  | [] => none
  | c :: t => match leastBy f t with
    | none => some c
    | some d => if f c ≤ f d then some c else some d

/-- Two slots' filtered offsets differ by no more than AGREE. -/
def State.agree (s : State) (a b : Nat) : Bool :=
  decide (((s.refSlot a).f - (s.refSlot b).f).natAbs ≤ s.refFld 0x100A0010 0 16)

/-- The outcome of the selector: the active slot, the outvoted slots, and whether the best group disagrees. -/
def State.choose (s : State) : Option Nat × List Nat × Bool :=
  let cs := s.candidates
  let act := s.ref.active
  let actIn := cs.any (fun c => act == some c.slot)
  let revert := s.refBit 0x100A0000 0
  let eligible := if revert then
      cs.filter (fun c => s.wtrDone c.slot || act == some c.slot || !actIn) else cs
  match leastBy (·.key) eligible with
  | none => (none, [], false)
  | some best =>
    let grp := cs.filter (fun c => c.key == best.key)
    let others := cs.filter (fun c => c.key != best.key)
    let agrees := grp.all (fun a => grp.all (fun b => s.agree a.slot b.slot))
    let low := (leastBy (·.entry) grp).map (·.slot)
    let stay := if grp.any (fun c => act == some c.slot) then act else low
    let votes := fun (c : Candidate) => (others.filter (fun o => s.agree o.slot c.slot)).length
    let winner := if agrees then none
      else grp.find? (fun c => decide (0 < votes c) && grp.all (fun d => d.slot == c.slot || decide (votes d < votes c)))
    let out := match winner with
      | some w => (grp.filter (fun c => c.slot != w.slot)).map (·.slot)
      | none => []
    let pick := match winner with
      | some w => some w.slot
      | none => stay
    -- FORCE_HOLD selects no slot; the best group is watched on (R337, R343)
    if s.refBit 0x100A0000 3 then (none, [], !agrees)
    else (if !revert && actIn then act else pick, out, !agrees)

/-! ## The loop (R327, R338 to R343) -/

/-- ±1,000 ppm (R326). -/
def clampFreq (x : Int) : Int := max (-0x4189374C) (min 0x4189374C x)

/-- REF_LOOP.BW and SLOPE in effect. -/
def State.loopBw (s : State) : Nat := max 1 (min 1000 (s.refFld 0x100A0004 0 10))
def State.loopSlope (s : State) : Nat := max 1 (min 10000 (s.refFld 0x100A0004 16 14))

/-- A time in ns as 1/16 AUDIO periods of 98.304 MHz. -/
def ns16 (ns : Rat) : Rat := ns * 1572864 / 1000000

/-- Natural angular frequency of a filter of damping 0.707 whose closed loop falls by 3 dB at the bandwidth, which R344 lets lie
between 0.9 and 1.1 BW; BW is in 0.1 Hz (R327). DEDUCED: the spec does not define the bandwidth (log entry 24). -/
def loopOmega (bw : Nat) : Rat :=
  2 * ((piFix : Nat) : Rat) / 2 ^ 256 * ((bw : Rat) / 10) * max (9 / 10) (min (11 / 10) (Config.loopTol bw)) * 10000 / 20579

/-- 1/16 AUDIO periods that one unit of FREQ moves the grid by in a second. -/
def loopGain : Rat := 1572864000 / 2 ^ 40

/-- The proportional gain, and the integral gain for an update every 500 µs, in FREQ per 1/16 AUDIO period. A reference that lags
the grid, a positive phase, lowers FREQ. -/
def loopKp (bw : Nat) : Rat := -(2 * (707 / 1000) * loopOmega bw / loopGain)
def loopKi (bw : Nat) : Rat := -(loopOmega bw * loopOmega bw / loopGain / 2000)

/-- Move Φ_res toward 0. -/
def pullRes (step res : Rat) : Rat := if absQ res ≤ step then 0 else if 0 < res then res - step else res + step

/-- The mean FREQ over the 64 s that end 2 s before update `cause`, floored, or over the history there is; none without any. -/
def holdMean (cause : Nat) (hist : List (Nat × Int)) : Option Int :=
  let h := (hist.filter (fun e => e.1 + 4000 < cause)).take 128000
  if h.isEmpty then none else some ((h.map (·.2)).sum / (h.length : Int))

/-- The cause of a holdover (R341): the write of FORCE_HOLD, what ended the slot's qualification, or this update. -/
def State.holdCause (s : State) (n : Nat) : Nat :=
  if s.refBit 0x100A0000 3 then s.ref.forceAt
  else if (s.refSlot n).q = 2 then s.ref.cnt
  else (s.refSlot n).leftAt

/-- A slot becomes active: no phase step, no frequency step (R338). -/
def loopSwitch (n : Nat) (s : State) : State :=
  (s.withRef { s.ref with active := some n, lastAct := n, st := .pull, res := (s.refSlot n).phase, quiet := 0 }).raise 0x0401
    (s.refLedger n)

/-- No slot is active any more: HOLDOVER, or FREERUN without history (R341, R342). The integrator takes FREQ, so that the next
switch steps no frequency (R338). -/
def loopHold (s : State) : State :=
  let n := s.ref.lastAct
  let t := s.withRef { s.ref with active := none, quiet := 0, res := 0 }
  match holdMean (s.holdCause n) s.ref.hist with
  | none => t.withRef { t.ref with st := .freeRun, freq := 0, integ := 0 }
  | some f => (t.withRef { t.ref with st := .holdover, freq := f, integ := f }).raise 0x0402 (s.refLedger n)

/-- One update of the filter with slot `n` active; `moved` says that the slot has just become active. -/
def loopFilter (n : Nat) (moved : Bool) (s : State) : State :=
  let r := s.ref
  let res := if r.snap then 0
    else if moved then r.res
    else if s.refBit (slotReg n 0) 5 then pullRes (ns16 ((s.loopSlope : Rat) / 2000)) r.res else r.res
  let done := r.res ≠ 0 ∧ res = 0
  let e := ((s.refSlot n).phase : Rat) - res
  let integ := r.integ + loopKi s.loopBw * e
  let freq := clampFreq (integ + loopKp s.loopBw * e).floor
  let quiet := if res = 0 ∧ absQ e < ns16 100 then r.quiet + 1 else 0
  let st := if res ≠ 0 then .pull else if 4000 ≤ quiet then .locked else r.st
  (s.withRef { r with
    res := res, integ := integ, freq := freq, quiet := quiet, st := st
    hist := ((r.cnt, freq) :: r.hist).take 650000 }).raiseIf (decide done) 0x0409 (s.refLedger n)

/-- REF_STAT.STATE. -/
def State.loopCode (s : State) : Nat :=
  if s.refBit 0x100A0000 2 then 4
  else match s.ref.st with
    | .freeRun => 0
    | .pull => 1
    | .locked => 2
    | .holdover => 3

/-- The node's output grade (R332). -/
def State.outGrade (s : State) : Nat :=
  match s.loopCode with
  | 0 => s.refFld 0x100A0014 4 4
  | 1 => s.slotGrade (s.ref.active.getD 0)
  | 2 => s.slotGrade (s.ref.active.getD 0)
  | _ => s.refFld 0x100A0014 0 4

/-- The loop in SOFTWARE: FREQ is what REF_FREQ was written last, and the selection runs on (R343). -/
def loopSoft (dest : Option Nat) (s : State) : State :=
  let was := s.ref.active
  let t := (s.withRef { s.ref with
    freq := (s.ref.freqNext.map clampFreq).getD s.ref.freq, active := dest, lastAct := dest.getD s.ref.lastAct
    res := if s.ref.snap then 0 else s.ref.res }).raiseIf (s.ref.snap && s.ref.res != 0) 0x0409 (s.refLedger s.ref.lastAct)
  match dest with
  | some n => t.raiseIf (was ≠ some n) 0x0401 (s.refLedger n)
  | none => t

/-- The hardware loop; `back` says that SWLOOP has just returned to 0: the integrator takes FREQ, and Φ_res the phase of the
active slot (R343). -/
def loopHard (dest : Option Nat) (back : Bool) (s : State) : State :=
  let was := s.ref.active
  let s := if back then s.withRef { s.ref with integ := s.ref.freq, quiet := 0 } else s
  match dest with
  | some n =>
    let moved := decide (was ≠ some n)
    let t := if moved then loopSwitch n s else s
    let t := if back then t.withRef { t.ref with res := (t.refSlot n).phase, st := .pull, lastAct := n } else t
    loopFilter n (moved || back) t
  | none =>
    match s.ref.st with
    | .pull => loopHold s
    | .locked => loopHold s
    | _ => s.withRef { s.ref with active := none }

/-- The loop's update at a block-boundary tick (R327): it takes the registers, then the selector and the loop act. -/
def loopUpdate (s : State) : State :=
  let s := slotsCheck (refTake s)
  let s := s.withRef { s.ref with cnt := s.ref.cnt + 1 }
  let c := s.choose
  let s := (List.range 8).foldl (fun t n =>
    t.setRefSlot n { t.refSlot n with outvoted := c.2.1.contains n }) s
  let dis := s.ref.disagree
  let s := s.withRef { s.ref with disagree := c.2.2 }
  let soft := s.refBit 0x100A0000 2
  let back := s.ref.soft && !soft
  let s := if soft then loopSoft c.1 s else loopHard c.1 back s
  let s := s.withRef { s.ref with soft := soft, freqNext := none, snap := false, upd := s.blk % 2 ^ 32 }
  let p := s.refLedger (s.ref.active.getD 0)
  (s.raiseIf (c.2.2 && !dis) 0x0406 p).raiseIf (dis && !c.2.2) 0x0407 p

/-- The cascade controller writes slot 5's grade (R332). -/
def refCascadeGrade (g : Nat) (s : State) : State := s.setFldN (slotReg 5 0) 0 4 (if g = 15 then 15 else min 14 (g + 1))

/-! ## Zekor and the time bases' parents (R331) -/

/-- The grade of a parent's clockClass and clockAccuracy: by the rows of MAP_SET where there are any, else by the table. Smaller
codes of clockAccuracy are better. -/
def State.clockGrade (s : State) (cls acc : Nat) : Nat :=
  match s.zk.gradeMap with
  | some rows => Config.mapGrade rows cls acc % 16
  | none =>
    match cls with
    | 6 => if acc ≤ 0x21 then 1 else 2
    | 7 => 4
    | 13 => if acc ≤ 0x23 then 5 else 12
    | 52 => 8
    | 187 => 8
    | 248 => 10
    | 255 => 15
    | _ => 12

/-- Zekor writes the grade of a time-base slot from its parent; SWFAIL on an announce timeout or a servo unlock, and back when the
servo locks. An Announce frame brings a parent's grade; no command of the table brings its timeout or the servo's state: servoState
is what Zekor does with them (log entry 97). -/
def parentGrade (n cls acc : Nat) (s : State) : State := s.setFldN (slotReg n 0) 0 4 (s.clockGrade cls acc)
def servoState (n : Nat) (locked : Bool) (s : State) : State := s.setFldN (slotReg n 0) 4 1 (bitOf !locked)

/-- XO_FAIL (R328): the event, and the device gives up with CAUSE 6. -/
def execXoFail (s : State) : Res := .next (letGo (giveUp 6 0 (s.raise 0x0408 0)))

/-- SNAP: ignored once the engine has started (R340). -/
def refSnap (s : State) : State := if s.started then s else s.withRef { s.ref with snap := true }

def execSnap (s : State) : Res := .next (refSnap s)

/-- A write of REF_FREQ acts only while SWLOOP = 1 (R343). -/
def refFreqWrite (v : Word) (s : State) : State :=
  if s.bitN 0x100A0000 2 then s.withRef { s.ref with freqNext := some v.toInt } else s

/-- REF_FREQ_WRITE (R343). -/
def execRefFreqWrite (val : Word) (s : State) : Res := .next (refFreqWrite val s)

/-! ## REF registers (R345) -/

def refRead (a : Nat) (s : State) : Word :=
  if 0x100A0100 ≤ a then
    let n := (a - 0x100A0100) / 0x20
    let x := s.refSlot n
    match (a % 0x20) / 4 with
    | 1 => packW [(0, x.q), (2, bitOf x.outvoted), (3, bitOf (s.wtrDone n)), (8, min 255 x.count)]
    | 2 => Word.ofInt x.f
    | 3 => Word.ofInt x.m
    | 4 => Word.ofInt x.phase
    | _ => s.reg a
  else if a = 0x100A0000 then (s.reg a).setBit 31 s.ref.snap
  else if a = 0x100A0018 then
    packW [(0, s.loopCode), (4, s.ref.active.getD 0), (7, bitOf s.ref.active.isSome), (8, bitOf s.ref.disagree),
      (12, s.outGrade)]
  else if a = 0x100A001C then Word.ofInt s.ref.freq
  else if a = 0x100A0020 then Word.ofInt s.ref.res.floor
  else if a = 0x100A0024 then Word.ofNat s.ref.upd
  else s.reg a

/-- The fields of REF_SLOT`n`_CTL: WDIV in slot 4 and PORT in slot 6 only. -/
def slotMask (n : Nat) : Word := if n = 4 then 0xFF else if n = 6 then 0xF3F else 0x3F

/-- A register write; it takes effect at the next update (R345). -/
def refWrite (a : Nat) (v : Word) (s : State) : State :=
  if a = 0x100A0000 then
    let was := s.bitN a 3
    let t := s.writeRW a v
    let t := if v.bit 3 && !was then t.withRef { t.ref with forceAt := s.ref.cnt } else t
    if v.bit 31 then refSnap t else t
  else if a = 0x100A001C then refFreqWrite v s
  else if 0x100A0100 ≤ a ∧ a % 0x20 = 0 then
    let g := s.fldN a 0 4
    let t := s.writeRW a (v &&& slotMask ((a - 0x100A0100) / 0x20))
    if a = slotReg 5 0 then t.setFldN a 0 4 g else t
  else s.writeRW a v

end Sys2Proof.Machine
end

