-- ==== Sys2Proof/Machine/Ports.lean ====
section
/-!
DEFINITION. The audio ports and the PDM inputs (R234 to R258).
-/

namespace Sys2Proof.Machine

open Sys2Proof

def aptReg (p off : Nat) : Nat := 0x10060000 + 0x80 * p + off

def State.port (s : State) (p : Nat) : Port := Tbl.getD s.ports.port p {}
def State.setPort (s : State) (p : Nat) (x : Port) : State :=
  { s with ports := { s.ports with port := Tbl.set s.ports.port p x {} } }

/-! ## Configuration (R235) -/

def State.ptMaster (s : State) (p : Nat) : Bool := s.bitN (aptReg p 0) 0
def State.ptSlotW (s : State) (p : Nat) : Nat := 16 + 8 * s.fldN (aptReg p 0) 3 2
def State.ptWord (s : State) (p : Nat) : Nat := 16 + 8 * s.fldN (aptReg p 0) 5 2
def State.ptSlots (s : State) (p : Nat) : Nat := s.fldN (aptReg p 0) 7 5 + 1
def State.ptDom (s : State) (p : Nat) : Nat := s.fldN (aptReg p 0) 12 2
def State.ptGroup (s : State) (p : Nat) : Nat := if s.ptMaster p then 0 else s.fldN (aptReg p 0) 24 4
def State.ptEn (s : State) (p : Nat) : Bool := s.bitN (aptReg p 4) 0

/-- AUDIO periods per sample of a domain (R238). -/
def State.domPeriod (s : State) (dom : Nat) : Nat := if dom = 1 then 2048 / s.hRatio else if dom = 2 then 6144 else 2048

/-- First sample of the block being received, in a domain's numbering (R46). -/
def State.domBase (s : State) (dom : Nat) : Nat :=
  if dom = 1 then s.sctr * s.hRatio else if dom = 2 then s.sctr / 3 else s.sctr

def State.ptP (s : State) (p : Nat) : Nat := s.domPeriod (s.ptDom p)
def State.ptLen (s : State) (p : Nat) : Nat := s.blockLen (s.ptDom p)

/-- R235: the configuration is refused. -/
def State.ptBadCfg (s : State) (p : Nat) : Bool :=
  let f := fun lo len => s.fldN (aptReg p 0) lo len
  let bits := s.ptSlots p * s.ptSlotW p
  decide (f 1 2 = 3 ∨ f 3 2 = 3 ∨ f 5 2 = 3 ∨ f 12 2 = 3 ∨ s.ptSlotW p < s.ptWord p ∨
    (f 1 2 ≤ 1 ∧ s.ptSlots p ≠ 2) ∨ 1024 * s.ptP p < bits * 2048)

/-- R246: an enabled member of the group has another DOMAIN. -/
def State.ptBadGroup (s : State) (p : Nat) : Bool :=
  let g := s.ptGroup p
  g != 0 && (List.range 16).any (fun q => q != p && s.ptEn q && s.ptGroup q == g && s.ptDom q != s.ptDom p)

/-- The port as a ledger number. -/
def State.ptLedger (s : State) (p : Nat) : Nat := s.ledger 8 p

/-! ## Ticks -/

/-- The latest AUDIO tick known. -/
def State.tickNow (s : State) : Nat := max s.ports.tick (2048 * s.sctr)

/-- A command of a port comes at tick `t`. -/
def tickSeen (t : Nat) (s : State) : State := { s with ports := { s.ports with tick := max s.ports.tick t } }

/-! ## Masks (R249 to R251) -/

/-- At a frame start at tick `t` that carries receive sample `n` in RUN the staged masks are applied. -/
def maskApply (p t n : Nat) (s : State) : State :=
  let x := s.port p
  if x.pend ∧ ¬ s.bitN (aptReg p 0x14) 0 ∧ x.pendAt ≤ t ∧ 2 * s.ptP p ≤ (t - x.pendAt) * (s.ptSlots p * s.ptSlotW p) then
    s.setPort p { x with
      pend := false, gen := (x.gen + 1) % 2 ^ 16, maskFrom := n % 2 ^ 32
      maskLive := s.reg (aptReg p 0xC), maskLiveTx := s.reg (aptReg p 0x10) }
  else s

/-- A write of a staged mask, granted at tick `t`. -/
def maskWrite (p : Nat) (tx : Bool) (v : Word) (t : Nat) (s : State) : State :=
  let s := s.writeRW (aptReg p (if tx then 0x10 else 0xC)) v
  s.setPort p { s.port p with pend := true, pendAt := max (s.port p).pendAt t }

/-- MASK_WRITE (R250). -/
def execMaskWrite (p : Fin 16) (tx : Bool) (val : Word) (tick : Nat) (s : State) : Res :=
  .next (maskWrite p tx val tick (tickSeen tick s))

/-- A write of HOLD: its end restarts the wait of R250. -/
def holdWrite (p : Nat) (v : Word) (t : Nat) (s : State) : State :=
  let was := s.bitN (aptReg p 0x14) 0
  let s := s.writeRW (aptReg p 0x14) v
  if was && !v.bit 0 then s.setPort p { s.port p with pendAt := max (s.port p).pendAt t } else s

/-! ## A frame that carries a sample (R236, R244, R245) -/

/-- R245: sample `j` after the entry into RUN. -/
def fadeIn (j : Nat) (x : Int) : Int := if j < 24 then x * j / 24 else x

/-- The S32 values of a frame's slots. -/
def State.rxSlots (s : State) (p : Nat) (words : List Int) : List Int :=
  (List.range (s.ptSlots p)).map (fun i => rxConvert (s.ptWord p) (wrapS (s.ptWord p) (words.getD i 0)))

/-- Transmit sample `n` of a destination slot. -/
def State.txSlot (s : State) (p i n : Nat) : Int :=
  let base := s.domBase (s.ptDom p)
  let key := destKey (2, 32 * p + i)
  if base ≤ n then (Tbl.getD s.engine.tx key []).getD (n - base) 0
  else (Tbl.getD s.engine.txPrev key []).getD (n + s.ptLen p - base) 0

/-- What DOUT drives in a slot whose word is `w`. -/
def State.doutSlot (s : State) (p i : Nat) (w : Int) : Option Int :=
  if (s.port p).maskLiveTx.bit i then some w
  else if s.bitN (aptReg p 0) 18 then none else some 0

/-- A frame transmits sample `n`, `j` samples after the entry into RUN; the clamps of R54 count. DESIGN CHOICE: a sample of a
masked slot, which is not sent, is not counted as clamped; the spec does not say (log entry 91; unsafe). -/
def txFrame (p n j : Nat) (s : State) : State :=
  let x := s.port p
  let vals := (List.range (s.ptSlots p)).map (fun i => fadeIn j (s.txSlot p i n))
  let clamps := ((List.range (s.ptSlots p)).filter (fun i =>
    x.maskLiveTx.bit i && txClamps (s.ptWord p) (vals.getD i 0))).length
  (s.setPort p { x with
    clip := addHold 0xFFFFFFFF x.clip clamps
    dout := (List.range (s.ptSlots p)).map (fun i => s.doutSlot p i (txConvert (s.ptWord p) (vals.getD i 0))) }).setSat
      (decide (0 < clamps)) 5

/-- DOUT sends zeros (R243, R244). -/
def txZeros (p : Nat) (s : State) : State :=
  s.setPort p { s.port p with dout := (List.range (s.ptSlots p)).map (fun i => s.doutSlot p i 0) }

/-- A frame starts: the last slot of the frame before still ends on DOUT where the data is one BCLK late (R236). -/
def frameTurn (p : Nat) (s : State) : State :=
  s.setPort p { s.port p with doutPrev := (s.port p).dout.getLast?.join }

/-- Record sample `n` of a port in RUN with the slots `vals`. -/
def recordSample (p n : Nat) (vals : List Int) (phi : Option Int) (s : State) : State :=
  let x := s.port p
  s.setPort p { x with
    recv := x.recv ++ [{ n := n, ok := true, mask := x.maskLive, vals := vals.map (fadeIn (n - x.runAt)), phi := phi }]
    lastVals := vals }

/-- A frame at tick `t` is assigned sample `n`: in RUN it is received and transmits sample `m`; before RUN it is
discarded and transmits zeros (R243). -/
def frameTake (p t n m : Nat) (words : List Int) (s : State) : State :=
  let x := s.port p
  let phi := ((s.ptP p * n : Nat) : Int) - t
  let enter := x.st != .run && decide (n % s.ptLen p = 0)
  let x := { x with next := n + 1, repeated := false, lastFrame := some n, phi := if s.ptMaster p then 0 else phi }
  let x := if enter then { x with st := .run, assigning := false, runAt := n } else x
  let s := (s.setPort p x).raiseIf enter 0x0B03 (s.ptLedger p)
  if x.st = .run then
    txFrame p m (n - x.runAt) (recordSample p n (s.rxSlots p words) (some (if s.ptMaster p then 0 else phi))
      (maskApply p t n s))
  else txZeros p s

/-! ## Starting and stopping (R243) -/

/-- The port is OFF: its last frame has ended. -/
def portOff (p : Nat) (s : State) : State :=
  slotsCheck (s.setPort p { s.port p with
    st := .off, assigning := false, held := [], leader := false, ending := false, inFrame := false, dout := [], doutPrev := none })

/-- A write of EN = 1: refused by R235 or R246. One that comes while the last frame is in progress ends the port first. -/
def portEnable (p : Nat) (s : State) : State :=
  let s := if (s.port p).ending then portOff p s else s
  if (s.port p).st ≠ .off then s
  else if s.ptBadCfg p || s.ptBadGroup p then
    (s.setPort p { s.port p with cfgErr := true }).raise 0x0B05 (s.ptLedger p)
  else
    let x := s.port p
    (s.setFldN (aptReg p 4) 0 1 1).setPort p { x with
      st := .waitStart, cfgErr := false, fired := false, startAt := none, seen := false, good := 0, assigning := false, recv := []
      held := [], took := none, lastFrame := none, gen := 0, tsSeq := 0, leader := false }

/-- PORT_ENABLE (R243). -/
def execPortEnable (p : Fin 16) (s : State) : Res := .next (portEnable p s)

/-- A frame of the port is in progress: a master in RUN sends one after the other. -/
def State.framed (s : State) (p : Nat) : Bool :=
  (s.port p).st != .off && (s.port p).st != .waitStart && (s.ptMaster p || (s.port p).inFrame)

/-- A write of EN = 0: a port goes OFF when its current frame ends, which its next frame start, a frame of incorrect length or
the tick of a sample without a frame shows; one with no frame in progress is OFF at once. -/
def portDisable (p : Nat) (s : State) : State :=
  let s := s.setFldN (aptReg p 4) 0 1 0
  if s.framed p then s.setPort p { s.port p with ending := true } else portOff p s

/-- PORT_DISABLE (R243). -/
def execPortDisable (p : Fin 16) (s : State) : Res := .next (portDisable p s)

/-- A waiting port may leave WAITSTART: START_SRC is 0, or its trigger has fired. -/
def State.mayStart (s : State) (p : Nat) : Bool :=
  (s.port p).st == .waitStart && (!s.bitN (aptReg p 4) 1 || (s.port p).fired)

/-- At a block boundary a waiting master port finds the boundary it starts at: the first after its write or its fire. -/
def mastersMark (s : State) : State :=
  (List.range 16).foldl (fun t p =>
    if t.mayStart p && t.ptMaster p && (t.port p).startAt.isNone then
      t.setPort p { t.port p with startAt := some (2048 * t.sctr) } else t) s

/-- A port leaves WAITSTART: a master at its block boundary for RUN, a slave for ACQUIRE. -/
def portStart (p tick : Nat) (s : State) : State :=
  let x := s.port p
  if !s.mayStart p then s
  else if s.ptMaster p then
    (if x.startAt = some tick then
      (s.setPort p { x with st := .run, next := tick / s.ptP p, runAt := tick / s.ptP p }).raise 0x0B03 (s.ptLedger p)
     else s)
  else txZeros p (s.setPort p { x with st := .acquire, inFrame := false, seen := false, good := 0, assigning := false })

/-- PORT_START (R243). -/
def execPortStart (p : Fin 16) (tick : Nat) (s : State) : Res := .next (portStart p tick (tickSeen tick s))

/-- MASTER_FRAME_START (R238): the frame at the tick of sample `n` of the block being received. -/
def execMasterFrameStart (p : Fin 16) (n : Nat) (words : List Int) (s : State) : Res :=
  let base := s.domBase (s.ptDom p)
  .next (onlyIf ((s.port p).st == .run && s.ptMaster p && decide ((s.port p).next ≤ n ∧ base ≤ n ∧ n < base + s.ptLen p)) s
    (let s := frameTurn p (tickSeen (s.ptP p * n) s)
     if (s.port p).ending then portOff p s else frameTake p (s.ptP p * n) n n words s))

/-! ## Slip and underrun of one port (R240 to R242) -/

/-- Count a slip; the first since CLRCNT raises 0x0B01. -/
def slipCount (p : Nat) (drop : Bool) (s : State) : State :=
  let x := s.port p
  let x' := if drop then { x with slipDrop := incHold 0xFFFF x.slipDrop, lastFrame := none }
    else { x with slipRepeat := incHold 0xFFFF x.slipRepeat }
  (s.setPort p { x' with slipArmed := false }).raiseIf x.slipArmed 0x0B01 (s.ptLedger p)

/-- UNDERRUN from RUN, with zeros on DOUT (R244); while assigning before RUN, back to ACQUIRE (R243). Reference slot 6 follows
(R330). -/
def portUnder (p : Nat) (s : State) : State :=
  let x := s.port p
  if x.st = .run then
    slotsCheck (txZeros p ((s.setPort p { x with st := .underrun, underruns := incHold 0xFFFF x.underruns, seen := false, good := 0
                                                 held := [], leader := false }).raise 0x0B02 (s.ptLedger p)))
  else s.setPort p { x with assigning := false, seen := false, good := 0, held := [] }

/-- Frames of the port are assigned to samples. -/
def Port.assigns (x : Port) : Bool := x.st == .run || (x.st == .acquire && x.assigning)

/-- The tick of the next sample passes without a frame: a repeat, or UNDERRUN after a repeat (R240). -/
def repeatOne (p : Nat) (s : State) : State :=
  let x := s.port p
  if x.repeated then portUnder p s
  else
    let n := x.next
    let enter := x.st != .run && decide (n % s.ptLen p = 0)
    let y := { x with next := n + 1, repeated := true }
    let y := if enter then { y with st := .run, assigning := false, runAt := n } else y
    let s := (slipCount p false (s.setPort p y)).raiseIf enter 0x0B03 (s.ptLedger p)
    if y.st = .run then recordSample p n x.lastVals none s else s

/-- `k` frame starts of a port in UNDERRUN: the first brings ACQUIRE, the others have followed a frame of correct length. -/
def underStart (p k : Nat) (s : State) : State :=
  if k = 0 ∨ (s.port p).st ≠ .underrun then s
  else txZeros p (s.setPort p { s.port p with st := .acquire, seen := true, good := k - 1, assigning := false })

/-! ## Alignment groups (R247, R248) -/

def State.grpAt (s : State) (g : Nat) : Option GroupFrame := Tbl.getD s.ports.grp g none
def State.setGrp (s : State) (g : Nat) (x : Option GroupFrame) : State :=
  { s with ports := { s.ports with grp := Tbl.set s.ports.grp g x none } }

/-- Members of a group, rising. -/
def State.members (s : State) (g : Nat) : List Nat := (List.range 16).filter (fun q => s.ptEn q && s.ptGroup q == g)

/-- Members whose frames are assigned, in the order in which they serve: those in RUN, rising, or with none in RUN those that
left ACQUIRE, the first to do so in front (R247, R248). -/
def State.servers (s : State) (g : Nat) : List Nat :=
  match (s.members g).filter (fun q => (s.port q).st == .run) with
  | [] =>
    let qs := (s.members g).filter (fun q => (s.port q).assigns)
    match (qs.map (fun q => (s.port q).asgAt)).min? with
    | none => []
    | some a => qs.filter (fun q => (s.port q).asgAt == a) ++ qs.filter (fun q => (s.port q).asgAt != a)
  | qs => qs

/-- The port whose frame is the group frame while it has one. -/
def State.groupLead (s : State) (g : Nat) : Option Nat := (s.servers g).head?

def State.grpTol (s : State) : Nat := s.fldN 0x10060800 0 14

/-- Two starts lie within TOL. -/
def State.near (s : State) (a b : Nat) : Bool := decide (a ≤ b + s.grpTol ∧ b ≤ a + s.grpTol)

/-- A member that follows its group: in RUN, assigning, or ready to leave ACQUIRE. -/
def Port.follows (x : Port) : Bool := x.st == .run || (x.st == .acquire && (x.assigning || decide (4 ≤ x.good)))

/-- The group frame that a member with samples assigned has not taken. -/
def State.untaken (s : State) (g q : Nat) : Option GroupFrame :=
  match s.grpAt g with
  | some f => if g ≠ 0 ∧ (s.port q).assigns ∧ (s.port q).took ≠ some f.start then some f else none
  | none => none

/-- A member's frame at `t` takes the result of the group frame. -/
def memberTake (q t : Nat) (words : List Int) (f : GroupFrame) (s : State) : State :=
  let x := s.port q
  let s := s.setPort q { x with took := some f.start }
  match f.sample with
  | some n =>
    let y := s.port q
    frameTake q t n (n - 2) words (s.setPort q { y with
      assigning := y.st == .acquire, asgAt := if y.assigning then y.asgAt else t })
  | none => if x.st = .run then slipCount q true s else s

/-- A member's frame has no group frame within TOL (R248). -/
def memberStray (q : Nat) (s : State) : State :=
  let was := (s.port q).st == .run
  if (s.port q).assigns then (portUnder q s).raiseIf was 0x0B04 (s.ptLedger q) else s

/-- The group frame `f` meets the frames that member `q` holds: one that began before it by more than TOL is a stray; one within
TOL takes it; where the first began later, the member has none (R248). Frames that began later wait on. -/
def memberMeets (q : Nat) (f : GroupFrame) (s : State) : State :=
  let hs := (s.port q).held
  let early := hs.filter (fun h => decide (h.1 + s.grpTol < f.start))
  let late := hs.filter (fun h => decide (f.start + s.grpTol < h.1))
  let keep := fun (u : State) => u.setPort q { u.port q with held := late }
  if !(s.port q).follows then keep s
  else if !early.isEmpty && (s.port q).assigns then underStart q (hs.length - 1) (memberStray q s)
  else match hs.find? (fun h => s.near h.1 f.start) with
    | some h =>
      let t := memberTake q h.1 h.2 f (keep s)
      if late.isEmpty then t else t.setPort q { t.port q with lastFrame := none }
    | none => if !late.isEmpty && (s.port q).assigns then underStart q late.length (portUnder q s) else keep s

/-- A new group frame `f` served by port `p`: members that missed the group frame before go out, the others meet it. -/
def groupFrame (g p : Nat) (f : GroupFrame) (s : State) : State :=
  let s := (s.members g).foldl (fun t q =>
    if q ≠ p ∧ (t.untaken g q).isSome then
      let k := (t.port q).held.length
      underStart q k (portUnder q t)
    else t) s
  (s.members g).foldl (fun t q =>
    let t := t.setPort q { t.port q with leader := q == p }
    if q = p then t else memberMeets q f t) (s.setGrp g (some f))

/-- R240 on a frame of port `p` that is its own or its group's frame: a drop, or an assignment. -/
def frameRule (p t : Nat) (words : List Int) (s : State) : State :=
  let x := s.port p
  let drop := decide (t + 2 * s.ptP p ≤ s.ptP p * x.next)
  let g := s.ptGroup p
  let n := x.next
  let s := if drop then slipCount p true s else frameTake p t n (n - 2) words s
  if g = 0 then s
  else groupFrame g p ⟨t, if drop then none else some n⟩ (s.setPort p { s.port p with took := some t })

/-- The tick of the group's next sample passes and its lead has no frame: the frame of the next member that has one in the window
serves; with none, every member that follows takes the repeat or the underrun (R247, R248). A member, the lead too, whose frame
can no longer start within TOL of the group frame is out. -/
def groupRepeat (g lead now : Nat) (s : State) : State :=
  let tick := s.ptP lead * (s.port lead).next
  let inWin := fun (h : Nat × List Int) => decide (h.1 ≤ tick ∧ tick < h.1 + 2 * s.ptP lead)
  match (s.servers g).find? (fun q => (s.port q).held.any inWin) with
  | some q =>
    (match (s.port q).held.find? inWin with
     | some h =>
       let t := frameRule q h.1 h.2 (s.setPort q { s.port q with
         next := (s.port lead).next, held := (s.port q).held.filter (fun k => decide (h.1 < k.1)) })
       if h.1 + s.grpTol < now ∧ (t.untaken g lead).isSome then portUnder lead t else t
     | none => s)
  | none => ((s.members g).filter (fun q => (s.port q).assigns)).foldl (fun t q =>
      if (t.untaken g q).isSome then portUnder q t else repeatOne q t) s

/-- A port that has become its group's lead serves the frames that it holds, in order (R247, R248). -/
def serveHeld (g : Nat) : Nat → State → State
  | 0, s => s
  | k + 1, s =>
    match s.groupLead g with
    | none => s
    | some q =>
      if (s.untaken g q).isSome then s
      else match (s.port q).held with
        | [] => s
        | h :: rest =>
          if s.ptP q * (s.port q).next < h.1 then serveHeld g k (groupRepeat g q h.1 s)
          else serveHeld g k (frameRule q h.1 h.2 (s.setPort q { s.port q with held := rest }))

/-- At tick `now` the tick of the next sample of `p` has passed without a frame. A member that is not its group's lead takes no
slip of its own; one whose group frame has passed by more than TOL is out. -/
def slipAt (p now : Nat) (s : State) : State :=
  let x := s.port p
  let g := s.ptGroup p
  if !x.assigns || s.ptMaster p then s
  else if x.ending then portOff p s
  else if g = 0 then repeatOne p s
  else match s.untaken g p with
    | some f => if f.start + s.grpTol < now then portUnder p s else s
    | none => if s.groupLead g = some p then groupRepeat g p now s else s

/-- The tick of the next sample of `p` passes. -/
def slipRepeat (p : Nat) (s : State) : State := slipAt p (s.ptP p * (s.port p).next) s

/-- SLIP_REPEAT (R240). -/
def execSlipRepeat (p : Fin 16) (s : State) : Res :=
  .next (slipRepeat p (onlyIf ((s.port p).assigns) s (tickSeen (s.ptP p * (s.port p).next) s)))

/-- Repeats that are due before a frame of `p` at tick `t`, its group's too. -/
def dueRepeats (p t : Nat) : Nat → State → State
  | 0, s => s
  | k + 1, s =>
    let s := if s.ptGroup p = 0 then s else serveHeld (s.ptGroup p) 20 s
    let q := if s.ptGroup p = 0 then p else (s.groupLead (s.ptGroup p)).getD p
    if (s.port q).assigns && decide (s.ptP q * (s.port q).next < t) then dueRepeats p t k (slipAt q t s) else s

/-- The frame start that follows four frames of correct length: the first assigned sample (R240). -/
def firstSample (period t : Nat) : Nat := (t + period / 2 + period - 1) / period

/-- A frame start while the port is in ACQUIRE and assigns nothing. -/
def acquireStart (p t : Nat) (words : List Int) (s : State) : State :=
  let x := s.port p
  let good := if x.seen then x.good + 1 else 0
  let s := s.setPort p { x with seen := true, good := good, lastFrame := none }
  if good < 4 then txZeros p s
  else
    let g := s.ptGroup p
    if g = 0 ∨ (s.groupLead g).isNone then frameRule p t words (s.setPort p { s.port p with
        assigning := true, asgAt := t, repeated := false, next := firstSample (s.ptP p) t })
    else
      let hold := txZeros p (s.setPort p { s.port p with held := (s.port p).held ++ [(t, words)] })
      match s.grpAt g with
      | some f => if s.near t f.start && f.sample.isSome then memberTake p t words f s else hold
      | none => hold

/-- A frame start of a port that assigns: a group frame it has not taken comes first; the lead's frame is the group frame; another
member's frame waits for its group frame. -/
def assignStart (p t : Nat) (words : List Int) (s : State) : State :=
  let g := s.ptGroup p
  match s.untaken g p with
  | some f => if s.near t f.start then memberTake p t words f s else underStart p 1 (portUnder p s)
  | none =>
    if g = 0 ∨ s.groupLead g = some p then frameRule p t words s
    else s.setPort p { s.port p with held := (s.port p).held ++ [(t, words)], lastFrame := none }

/-- A frame start of a slave port at tick `t`. -/
def slaveStart (p t : Nat) (words : List Int) (s : State) : State :=
  let s := frameTurn p (tickSeen t s)
  let s := if (s.port p).ending then portOff p s else dueRepeats p t 20 s
  let x := s.port p
  let s := s.setPort p { x with inFrame := x.st != .off && x.st != .waitStart }
  match x.st with
  | .run => assignStart p t words s
  | .acquire => if x.assigning then assignStart p t words s else acquireStart p t words s
  | .underrun => underStart p 1 s
  | _ => s

/-- SLAVE_FRAME_START (R239 to R241). -/
def execSlaveFrameStart (p : Fin 16) (tick : Nat) (words : List Int) (s : State) : Res :=
  .next (onlyIf (!s.ptMaster p) s (slaveStart p tick words s))

/-- A frame of incorrect length: it counts in every state; a port that assigns goes out at the frame's own sample, from which on
its samples are invalid (R242). -/
def badLength (p : Nat) (s : State) : State :=
  let x := s.port p
  let bad := fun (r : PortSample) => match x.lastFrame with | some n => decide (n ≤ r.n) | none => false
  let s := s.setPort p { x with
    frameErr := incHold 0xFFFF x.frameErr, inFrame := false, lastFrame := none
    recv := if x.assigns then x.recv.map (fun r => if bad r then { r with ok := false } else r) else x.recv }
  if x.ending then portOff p s
  else if x.assigns then portUnder p s
  else s.setPort p { s.port p with seen := false, good := 0 }

/-- INCORRECT_FRAME_LENGTH (R242): of a slave port, whose frames are another's. -/
def execIncorrectFrameLength (p : Fin 16) (s : State) : Res :=
  .next (onlyIf (!s.ptMaster p && (s.port p).st != .off) s (badLength p s))

/-- Clear every counter of a port and re-arm event 0x0B01. -/
def portClr (p : Nat) (s : State) : State :=
  s.setPort p { s.port p with slipDrop := 0, slipRepeat := 0, underruns := 0, frameErr := 0, clip := 0, slipArmed := true }

/-- CLRCNT (R257). -/
def execClrcnt (p : Fin 16) (s : State) : Res := .next (portClr p s)

/-! ## The block a port has received (R244, R252) -/

/-- The samples of the block that has just been received, `base` being its first sample. -/
def State.ptBlock (s : State) (p base : Nat) : List PortSample :=
  (s.port p).recv.filter (fun r => base ≤ r.n && r.n < base + s.ptLen p)

/-- Slots of a port whose feed is valid for those samples. -/
def State.ptValid (s : State) (p : Nat) (rs : List PortSample) : List Nat :=
  if rs.length ≠ s.ptLen p then []
  else (List.range (s.ptSlots p)).filter (fun i => rs.all (fun r => r.ok && r.mask.bit i))

/-- The feeds of a port for the received block: valid slots are listed as valid. `base` is the block's first sample. -/
def portCollect (p base : Nat) (s : State) : State :=
  let rs := s.ptBlock p base
  let ok := s.ptValid p rs
  let s := ok.foldl (fun t i => t.putRx (32 * p + i) (rs.map (fun r => r.vals.getD i 0))) s
  { s with engine := { s.engine with okRx := ok.foldl (fun l i => insertNat (32 * p + i) l) s.engine.okRx } }

/-- The timestamp record of a port in RUN; answers whether one was made. -/
def portStamp (p base block : Nat) (s : State) : State × Bool :=
  let x := s.port p
  match x.st, (s.ptBlock p base).head? with
  | .run, some r =>
    let phi := r.phi.getD (Config.repeatPhase p r.n)
    if r.n ≠ base then (s, false)
    else
      (s.setPort p { x with
        tsSeq := (x.tsSeq + 1) % 2 ^ 32, tsBlock := block % 2 ^ 32
        tsRx := -phi, tsTx := if s.ptMaster p then 0 else 2 * s.ptP p - phi }, true)
  | _, _ => (s, false)

/-- The samples up to a block's end have been taken. -/
def portDrop (p base : Nat) (s : State) : State :=
  s.setPort p { s.port p with recv := (s.port p).recv.filter (fun r => base + s.ptLen p ≤ r.n) }

/-! ## PDM inputs (R254 to R256) -/

/-- Clocks that nothing asks for any more stop. -/
def pdmStop (s : State) : State :=
  { s with ports := { s.ports with pdmRun := (List.range 4).foldl (fun w c =>
      if s.pdmRuns c then w + 2 ^ c else w) 0 } }

/-- The chains of a PDM clock. -/
def pdmChains (c : Nat) : List Nat := (List.range 4).map (fun i => 32 + 4 * c + i)

/-- PDM_CLOCK_START (R255). -/
def execPdmClockStart (c : Fin 4) (s : State) : Res :=
  .next (onlyIf (s.pdmWanted c && !s.pdmRuns c) s
    ((pdmChains c).foldl (fun t k => t.setChain k { t.chain k with settling := true, wake := true })
      { s with ports := { s.ports with pdmRun := s.ports.pdmRun ||| 2 ^ c.val } }))

/-- PDM_WAKE_END (R255). -/
def execPdmWakeEnd (c : Fin 4) (s : State) : Res :=
  .next (onlyIf (s.pdmRuns c) s
    ((pdmChains c).foldl (fun t k =>
      if (t.chain k).wake then chainRestart k (t.setChain k { t.chain k with wake := false }) else t) s))

/-- PDM_STUCK (R256): event 0x0B10 at the transition, of a channel whose STUCK bit still stands none (log entry 106). -/
def execPdmStuck (ch : Fin 16) (s : State) : Res :=
  let was := s.ports.stuck.getLsbD ch
  .next (({ s with ports := { s.ports with stuck := s.ports.stuck ||| Word.ofNat (2 ^ ch.val) } } : State).raiseIf (!was)
    0x0B10 ch)

/-! ## APT registers (R257) -/

def PortState.code : PortState → Nat
  | .off => 0
  | .waitStart => 1
  | .acquire => 2
  | .run => 3
  | .underrun => 4

/-- An integer in 16 bits. -/
def half16 (x : Int) : Nat := (x % 2 ^ 16).toNat

def aptRead (a : Nat) (s : State) : Word :=
  if a = 0x10061000 then
    s.reg a ||| packW ((List.range 4).map (fun c => (16 + c, bitOf (s.pdmRuns c))))
  else if a = 0x10061004 then s.ports.stuck
  else if a = 0x10060804 then s.reg a ||| packW [(30, bitOf s.ports.tsqErr)]
  else if 0x10060800 ≤ a then s.reg a
  else
    let p := (a - 0x10060000) / 0x80
    let x := s.port p
    match (a % 0x80) / 4 with
    | 2 => packW [(0, x.st.code), (3, bitOf x.cfgErr), (4, bitOf x.leader), (16, if s.ptMaster p then 0 else half16 x.phi)]
    | 6 => packW [(0, x.gen), (31, bitOf x.pend)]
    | 7 => Word.ofNat x.maskFrom
    | 8 => x.maskLive
    | 9 => x.maskLiveTx
    | 10 => packW [(0, x.slipDrop), (16, x.slipRepeat)]
    | 11 => packW [(0, x.underruns), (16, x.frameErr)]
    | 12 => Word.ofNat x.clip
    | 16 => Word.ofNat x.tsSeq
    | 17 => Word.ofNat x.tsBlock
    | 18 => packW [(0, half16 x.tsRx), (16, half16 x.tsTx)]
    | _ => s.reg a

/-- A write of APT_P_CTL: START_SRC and TRIG, then EN, then CLRCNT. -/
def aptCtlWrite (p : Nat) (v : Word) (s : State) : State :=
  let en := s.ptEn p
  let t := (s.writeRW (aptReg p 4) v).setFldN (aptReg p 4) 0 1 (bitOf en)
  let t := if v.bit 0 then (if en then t else portEnable p t) else if en then portDisable p t else t
  if v.bit 30 then portClr p t else t

/-- The tick at which a write without a tick of its own is granted: the latest known, or later by less than a frame. -/
def State.grantAt (s : State) (p : Nat) : Nat := s.tickNow + Config.grantTick s.freeCtr % s.ptP p

/-- A register write. -/
def aptWrite (a : Nat) (v : Word) (s : State) : State :=
  if a = 0x10061000 then pdmStop (s.writeRW a v)
  else if a = 0x10061004 then { s with ports := { s.ports with stuck := s.ports.stuck &&& ~~~v } }
  else if 0x10060800 ≤ a then s.writeRW a v
  else
    let p := (a - 0x10060000) / 0x80
    match (a % 0x80) / 4 with
    | 0 => if s.ptEn p then s else s.writeRW a v
    | 1 => aptCtlWrite p v s
    | 3 => maskWrite p false v (s.grantAt p) s.tickFree
    | 4 => maskWrite p true v (s.grantAt p) s.tickFree
    | 5 => holdWrite p v (s.grantAt p) s.tickFree
    | _ => s

end Sys2Proof.Machine
end

