-- ==== Sys2Proof/Machine/TimeBase.lean ====
section
/-!
DEFINITION. Time bases, the epoch map, trigger comparators and capture units (R347 to R363). A command's `dt` is the
number of PTP ticks since the command before it that carried one; the last of them is the tick it acts in.
-/

namespace Sys2Proof.Machine

open Sys2Proof

def tbReg (n off : Nat) : Nat := 0x100B0000 + 0x40 * n + off
def trgReg (n off : Nat) : Nat := 0x100B1000 + 0x20 * n + off
def capReg (n off : Nat) : Nat := 0x100B2000 + 0x20 * n + off

def State.tb (s : State) (n : Nat) : TimeBase := Tbl.getD s.tbs.tb n {}
def State.setTb (s : State) (n : Nat) (x : TimeBase) : State :=
  { s with tbs := { s.tbs with tb := Tbl.set s.tbs.tb n x {} } }
def State.trg (s : State) (n : Nat) : Trigger := Tbl.getD s.tbs.trg n {}
def State.setTrg (s : State) (n : Nat) (x : Trigger) : State :=
  { s with tbs := { s.tbs with trg := Tbl.set s.tbs.trg n x {} } }
def State.capU (s : State) (n : Nat) : Capture := Tbl.getD s.tbs.cap n {}
def State.setCap (s : State) (n : Nat) (x : Capture) : State :=
  { s with tbs := { s.tbs with cap := Tbl.set s.tbs.cap n x {} } }

/-! ## Running (R348, R349) -/

/-- What a slew adds over `k` ticks, in 2^-24 ns. -/
def slewOver (x : TimeBase) (k : Nat) : Int :=
  let a := min x.slew.natAbs (k * (x.inc / 1024))
  if x.slew < 0 then -(a : Int) else a

/-- A running base over `k` ticks. -/
def TimeBase.run (x : TimeBase) (k : Nat) : TimeBase :=
  let a := slewOver x k
  { x with val := ((x.val : Int) + (k * (x.inc * 2 ^ 16 + x.incf) : Nat) + a * 2 ^ 16).toNat, slew := x.slew - a }

/-- Every base with EN = 1 runs for `k` ticks. -/
def tbRun (k : Nat) (s : State) : State :=
  (List.range 4).foldl (fun t n => if t.bitN (tbReg n 0) 0 then t.setTb n ((t.tb n).run k) else t)
    { s with tbs := { s.tbs with now := s.tbs.now + k } }

/-- Nanoseconds in units of 2^-40 ns. -/
def nsUnits (ns : Nat) : Nat := ns * 2 ^ 40

/-- A base's whole nanoseconds. -/
def nsOf (val : Nat) : Nat := val / 2 ^ 40

/-- Seconds, nanoseconds and the visible fraction of a value (R347). -/
def secOf (val : Nat) : Nat := nsOf val / 1000000000
def nsecOf (val : Nat) : Nat := nsOf val % 1000000000
def fracOf (val : Nat) : Nat := val / 2 ^ 24 % 2 ^ 16

/-- A value read from a seconds pair and a nanoseconds register. -/
def State.regTime (s : State) (lo hi ns : Nat) : Nat :=
  (s.regN lo + s.fldN hi 0 16 * 2 ^ 32) * 1000000000 + min 999999999 (s.fldN ns 0 30)

/-- A base has been stepped: the event, and STEPPED for TB0, until the 65th record from here, whose T64 is the first (R355). -/
def tbStepped (n : Nat) (s : State) : State :=
  let s := if n = 0 then { s with tbs := { s.tbs with stepped := 65 } } else s
  s.raise 0x0410 (s.ledger 0x0D n)

/-- ADJ in ns: while a slew runs its remainder, the fraction dropped, unless ADJ has been written since. -/
def State.adjWord (s : State) (n : Nat) : Word :=
  let x := s.tb n
  if x.slew = 0 ∨ x.adjNew then s.reg (tbReg n 0x24) else Word.ofInt (x.slew.tdiv (2 ^ 24))

/-- A slew is cancelled: ADJ stays at what it reads (R349). -/
def slewEnd (n : Nat) (s : State) : State :=
  (s.setReg (tbReg n 0x24) (s.adjWord n)).setTb n { s.tb n with slew := 0, adjNew := false }

/-- SET (R349). -/
def tbSet (n : Nat) (s : State) : State :=
  let t := slewEnd n s
  tbStepped n (t.setTb n { t.tb n with val := nsUnits (s.regTime (tbReg n 0x18) (tbReg n 0x1C) (tbReg n 0x20)) })

/-- STEP (R349). -/
def tbStep (n : Nat) (s : State) : State :=
  let t := slewEnd n s
  tbStepped n (t.setTb n { t.tb n with val := (((s.tb n).val : Int) + (s.adjWord n).toInt * 2 ^ 40).toNat })

/-- SLEW (R349): ADJ becomes the remainder, and falls as it is added; a slew that runs on an unwritten ADJ goes on. -/
def tbSlew (n : Nat) (s : State) : State :=
  let x := s.tb n
  if x.slew ≠ 0 ∧ ¬ x.adjNew then s
  else (s.setTb n { x with slew := (s.reg (tbReg n 0x24)).toInt * 2 ^ 24, adjNew := false }).setReg (tbReg n 0x24) 0

/-- TBS_SET (R349). -/
def execTbsSet (n : Fin 4) (dt : Nat) (s : State) : Res := .next (tbSet n (tbRun dt s))

/-- TBS_STEP (R349). -/
def execTbsStep (n : Fin 4) (dt : Nat) (s : State) : Res := .next (tbStep n (tbRun dt s))

/-- TBS_SLEW (R349). -/
def execTbsSlew (n : Fin 4) (dt : Nat) (s : State) : Res := .next (tbSlew n (tbRun dt s))

/-- SLEW_DONE: the slew ends by itself as its base runs (R349). -/
def execSlewDone (n : Fin 4) (dt : Nat) (s : State) : Res :=
  let t := tbRun dt s
  .next (if (t.tb n).slew = 0 then t.setTb n { t.tb n with slew := 0 } else t)

/-- A write of INC applies with the last INCF written (R348). -/
def incWrite (n : Nat) (v : Word) (s : State) : State :=
  let s := s.writeRW (tbReg n 4) v
  s.setTb n { s.tb n with inc := v.toNat, incf := s.fldN (tbReg n 0x28) 0 16 }

/-- INC_WRITE (R348). -/
def execIncWrite (n : Fin 4) (val : Word) (dt : Nat) (s : State) : Res := .next (incWrite n val (tbRun dt s))

/-- A read of NS latches seconds and fraction for the initiator (R350). -/
def tbNsRead (i : Init) (n : Nat) (s : State) : Word × State :=
  let v := (s.tb n).val
  (Word.ofNat (nsecOf v),
   ((s.setIniReg (tbReg n 0x0C) i (Word.ofNat (secOf v))).setIniReg (tbReg n 0x10) i
      (Word.ofNat (secOf v / 2 ^ 32 % 2 ^ 16))).setIniReg (tbReg n 0x14) i (Word.ofNat (fracOf v)))

/-- TB_NS_READ (R350). -/
def execTbNsRead (init : Init) (n : Fin 4) (dt : Nat) (s : State) : Res := .next (tbNsRead init n (tbRun dt s)).2

/-! ## Reference events of the bases (R351) -/

/-- The phase of the event of slots 0 to 3 that falls in this tick: the instant at which the base has passed a multiple of 500,000
ns, interpolated from its increment, after the last block-boundary tick, in 1/16 AUDIO periods. -/
def State.baseEvent (s : State) (n : Nat) : Option Int :=
  let x := s.tb n
  let tick := x.inc * 2 ^ 16 + x.incf
  let past := x.val % nsUnits 500000
  if s.bitN (tbReg n 0) 0 ∧ past < tick then
    let ticks : Rat := ((s.tbs.now - s.tbs.blkAt : Nat) : Rat) - (past : Rat) / (tick : Rat)
    some (ticks * (32 / 5) * (1 + (s.ref.freq : Rat) / 2 ^ 40)).floor
  else none

/-- REFERENCE_EVENT (R329, R351). The event of a base comes as the base passes its multiple; the operand says where the converter
places it, within the PTP tick in which the boundary tick lies and its own step (log entry 95). -/
def execReferenceEvent (slot : Fin 8) (e : RefEdge) (s : State) : Res :=
  let t := tbRun e.dt s
  .next (if slot.val < 4 then
      match t.baseEvent slot with
      | none => t
      | some c => refEvent slot (c + max (-7) (min 7 (reducePhase (t.refPeriod slot) (e.phase - c)))) t
    else refEvent slot e.phase t)

/-! ## The epoch map (R355) -/

/-- PER from the TB0 values of a boundary and of 64 blocks earlier, in 2^-16 ns. -/
def epochPer (t t64 : Nat) : Word := Word.ofInt (((t : Int) - t64) / 1536)

/-- The record of a block boundary. -/
def epochRecord (s : State) : State :=
  let x := s.tbs
  let v := (s.tb 0).val
  let t16 := v / 2 ^ 24
  let per := match x.stepped - 1, x.epochHist[63]? with
    | 0, some old => epochPer t16 old
    | _, _ => Config.epochPer s.sctr
  { s with tbs := { x with
      epochSeq := (x.epochSeq + 1) % 2 ^ 31, epochSctr := s.sctr, epochTb := v, epochPer := per
      epochHist := (t16 :: x.epochHist).take 64, stepped := x.stepped - 1, blkAt := x.now } }

/-- TB0 at a sample by the map, in 2^-16 ns (R356). -/
def State.tbAtSctr (s : State) (c : Nat) : Int :=
  ((s.tbs.epochTb / 2 ^ 24 : Nat) : Int) + ((c : Int) - s.tbs.epochSctr) * s.tbs.epochPer.toNat

/-! ## Trigger comparators (R357 to R359) -/

/-- WIDTH µs in PTP ticks, rounded up; 0 acts as 1 (R358). -/
def widthTicks (us : Nat) : Nat := (max 1 us * 24576 + 99) / 100

/-- A fire puts LINE to its active level, or begins its WIDTH again (R358). -/
def linePulse (n : Nat) (s : State) : State :=
  let k := s.fldN (trgReg n 0) 10 6
  let c := s.mon.ctl
  { s with mon := { s.mon with ctl := { c with
    pulse := c.pulse ||| 2 ^ k, pulseTo := Tbl.put c.pulseTo k (s.tbs.now + widthTicks (s.fldN (trgReg n 0) 16 16)) } } }

/-- CTL_PULSE_END: WIDTH µs after the fire the line returns to LEVEL (R305, R358). -/
def execCtlPulseEnd (e : PulseEnd) (s : State) : Res :=
  let t := tbRun e.dt s
  .next (onlyIf (t.mon.ctl.pulse.testBit e.line && decide (Tbl.getD t.mon.ctl.pulseTo e.line 0 ≤ t.tbs.now)) t
    { t with mon := { t.mon with ctl := { t.mon.ctl with pulse := t.mon.ctl.pulse ^^^ 2 ^ e.line.val } } })

/-- Deliver a fire to its receivers (R358). -/
def trgDeliver (n : Nat) (s : State) : State :=
  let c := fun k => s.bitN (trgReg n 0) k
  let s := (List.range 16).foldl (fun t p =>
    if (t.port p).st = .waitStart ∧ t.bitN (aptReg p 4) 1 ∧ t.fldN (aptReg p 4) 2 4 = n then
      t.setPort p { t.port p with fired := true } else t) s
  let s := if c 4 && !(s.trg n).folded then cmtArm s.cmtTarget (s.bitN 0x1002C008 0) (s.bitN 0x1002C008 1) s else s
  let s := if c 5 then (List.range 32).foldl (fun t k =>
      if t.bitN (trgReg n 0x14) k then chainRestart k (t.setFldN (fdcReg k 0) 0 1 1) else t) s else s
  let s := if c 6 then s.withSar { s.sar with sup := 0, frame := 0, slot := 0 } else s
  let s := if c 7 then linePulse n s else s
  s.raiseIf (c 8) 0x0411 n

/-- The comparator after a fire: IDLE, or armed for its next period, with the periods skipped (R357). -/
def trgAfter (n : Nat) (s : State) : State :=
  let x := s.trg n
  let p := s.regN (trgReg n 0x10)
  if p = 0 then s.setTrg n { x with armed := false }
  else
    let p := max 1000 p
    let now := nsOf (s.tb x.base).val
    let next := x.target + p
    if now < next then s.setTrg n { x with target := next }
    else
      let k := (now - next) / p + 1
      (s.setTrg n { x with target := next + k * p, missed := addHold 0xFFFFFFFF x.missed k }).raise 0x0412 n

/-- An armed comparator's base is at or above its target. -/
def State.trgPassed (s : State) (n : Nat) : Bool :=
  (s.trg n).armed && decide (nsUnits (s.trg n).target ≤ (s.tb (s.trg n).base).val)

/-- Fire when the base is at or above the target. One that a resume has restored waits until the device is seated (R426). -/
def trgFire (n : Nat) (s : State) : State :=
  if s.trgPassed n && !(s.trg n).restored then
    let t := trgAfter n (trgDeliver n s)
    t.setTrg n { t.trg n with folded := false }
  else s

/-- The device is seated: the comparators restored by its resume act (R357, R426). -/
def trgSeated (s : State) : State :=
  (List.range 16).foldl (fun t n =>
    if (t.trg n).restored then trgFire n (t.setTrg n { t.trg n with restored := false }) else t) s

/-- ARM latches target and base; a target already passed fires at once (R357). A fire that was due comes first (R359). -/
def trgArm (n : Nat) (s : State) : State :=
  let s := trgFire n s
  trgFire n (s.setTrg n { s.trg n with
    armed := true, restored := false, folded := false, base := s.fldN (trgReg n 0) 2 2, target := s.regTime (trgReg n 4) (trgReg n 8) (trgReg n 0xC) })

/-- TRIGGER_ARM (R357). -/
def execTriggerArm (n : Fin 16) (dt : Nat) (s : State) : Res := .next (trgArm n (tbRun dt s))

/-- Return to IDLE, after a fire that was due (R359). -/
def trgDisarm (n : Nat) (s : State) : State :=
  let s := trgFire n s
  s.setTrg n { s.trg n with armed := false }

/-- TRIGGER_DISARM (R357). -/
def execTriggerDisarm (n : Fin 16) (s : State) : Res := .next (trgDisarm n s)

/-- Every comparator that is due fires, in rising number (R359). -/
def trgDue (s : State) : State := (List.range 16).foldl (fun t n => trgFire n t) s

/-- TRIGGER_FIRE (R358): those of the same tick fire with it. -/
def execTriggerFire (n : Fin 16) (dt : Nat) (s : State) : Res :=
  let t := tbRun dt s
  .next (onlyIf (t.trgPassed n && !(t.trg n).restored) t (trgDue t))

/-! ## Capture units (R360, R361) -/

/-- The unit takes edges of this direction: SRC and EDGE not reserved. -/
def State.capTakes (s : State) (n : Nat) (rising : Bool) : Bool :=
  s.bitN (capReg n 0) 0 && decide (s.fldN (capReg n 0) 1 6 ≤ 32) &&
    (match s.fldN (capReg n 0) 7 2 with
     | 0 => rising
     | 1 => !rising
     | 2 => true
     | _ => false)

/-- A watched edge. -/
def capEdge (n : Nat) (rising : Bool) (s : State) : State :=
  let x := s.capU n
  if !s.capTakes n rising then s
  else if x.valid then
    (s.setCap n { x with ovr := incHold 0xFFFF x.ovr, told := true }).raiseIf (!x.told) 0x0413 n
  else s.setCap n { x with valid := true, val := (s.tb (s.fldN (capReg n 0) 9 2)).val }

/-- CAPTURE_EDGE (R360, R361): an edge of a source, CTL_IN0 to CTL_IN31 or PPS_IN, at every unit that watches it. -/
def execCaptureEdge (src : Fin 33) (rising : Bool) (dt : Nat) (s : State) : Res :=
  .next ((List.range 16).foldl (fun t n => if t.fldN (capReg n 0) 1 6 = src.val then capEdge n rising t else t) (tbRun dt s))

/-- Clear VALID. -/
def capRel (n : Nat) (s : State) : State := s.setCap n { s.capU n with valid := false, told := false }

/-- REL (R361). -/
def execRel (n : Fin 16) (s : State) : Res := .next (capRel n s)

/-! ## Transmit timestamps (R354) -/

def State.txq (s : State) (m : Nat) : TxQueue := Tbl.getD s.tbs.txq m {}
def State.setTxq (s : State) (m : Nat) (x : TxQueue) : State :=
  { s with tbs := { s.tbs with txq := Tbl.set s.tbs.txq m x {} } }

/-- Append a timestamp; a full queue drops it. -/
def txStampPut (m : Nat) (e : TxStamp) (s : State) : State :=
  let q := s.txq m
  if q.entries.length < 16 then s.setTxq m { q with entries := q.entries ++ [e] }
  else (s.setTxq m { q with overflow := true, drop := incHold 0xFFFF q.drop }).raiseIf (!q.overflow) 0x0510
    (s.ledger 0x0E m)

/-- Remove the oldest entry. -/
def txPop (m : Nat) (s : State) : State := s.setTxq m { s.txq m with entries := (s.txq m).entries.drop 1 }

/-- POP (R354). -/
def execPop (m : Fin 4) (s : State) : Res := .next (txPop m s)

/-! ## TBS registers (R362) -/

/-- The words SEC_LO, SEC_HI, NS, FRAC of a value. -/
def timeWord (val k : Nat) : Word :=
  match k with
  | 0 => Word.ofNat (secOf val)
  | 1 => Word.ofNat (secOf val / 2 ^ 32 % 2 ^ 16)
  | 2 => Word.ofNat (nsecOf val)
  | _ => Word.ofNat (fracOf val)

/-- TBS_TXQ words of the oldest entry. -/
def txqWord (q : TxQueue) (k : Nat) : Word :=
  match k, q.entries.head? with
  | 4, _ => packW [(0, q.entries.length), (5, bitOf q.overflow), (16, q.drop)]
  | 0, some e => packW [(0, e.id), (16, e.base)]
  | 1, some e => timeWord e.val 0
  | 2, some e => timeWord e.val 1 ||| packW [(16, fracOf e.val)]
  | 3, some e => timeWord e.val 2
  | _, _ => 0

def tbsRead (i : Init) (a : Nat) (s : State) : Word × State :=
  let pure := fun (w : Word) => (w, s)
  if 0x100B3000 ≤ a then
    let x := s.tbs
    pure (match (a - 0x100B3000) / 4 with
      | 0 => packW [(0, x.epochSeq), (31, bitOf (x.stepped != 0))]
      | 1 => Word.ofNat x.epochSctr
      | 2 => Word.ofNat (x.epochSctr / 2 ^ 32)
      | 7 => x.epochPer
      | k => timeWord x.epochTb (k - 3))
  else if 0x100B2000 ≤ a then
    let n := (a - 0x100B2000) / 0x20
    let x := s.capU n
    pure (match (a % 0x20) / 4 with
      | 0 => s.reg a ||| packW [(11, bitOf x.valid), (16, x.ovr)]
      | k => timeWord x.val (k - 1))
  else if 0x100B1000 ≤ a then
    let n := (a - 0x100B1000) / 0x20
    pure (match (a % 0x20) / 4 with
      | 0 => s.reg a ||| packW [(9, bitOf (s.trg n).armed)]
      | 6 => Word.ofNat (s.trg n).missed
      | _ => s.reg a)
  else if 0x100B0C00 ≤ a then pure (txqWord (s.txq ((a - 0x100B0C00) / 0x20)) ((a % 0x20) / 4))
  else if 0x100B0800 ≤ a then pure (s.reg a)
  else
    let n := (a - 0x100B0000) / 0x40
    match (a % 0x40) / 4 with
    | 0 => pure (s.reg a ||| packW [(4, bitOf ((s.tb n).slew != 0))])
    | 2 => tbNsRead i n s
    | 3 => pure (s.iniReg a i)
    | 4 => pure (s.iniReg a i)
    | 5 => pure (s.iniReg a i)
    | 9 => pure (s.adjWord n)
    | _ => pure (s.reg a)

/-- A write of TBS_TB_CTL: EN, then SET, STEP, SLEW at the next tick. -/
def tbCtlWrite (n : Nat) (v : Word) (s : State) : State :=
  let was := s.bitN (tbReg n 0) 0
  let s := s.writeRW (tbReg n 0) v
  let s := if n = 0 ∧ was ≠ v.bit 0 then { s with tbs := { s.tbs with stepped := 65 } } else s
  let s := if v.bit 1 then tbSet n s else s
  let s := if v.bit 2 then tbStep n s else s
  if v.bit 3 then tbSlew n s else s

def tbsWrite (a : Nat) (v : Word) (s : State) : State :=
  if 0x100B3000 ≤ a then s
  else if 0x100B2000 ≤ a then
    let t := s.writeRW a v
    if a % 0x20 = 0 ∧ v.bit 12 then capRel ((a - 0x100B2000) / 0x20) t else t
  else if 0x100B1000 ≤ a then
    let n := (a - 0x100B1000) / 0x20
    let t := s.writeRW a v
    if a % 0x20 = 0 then
      let t := if v.bit 0 then trgArm n t else t
      if v.bit 1 then trgDisarm n t else t
    else t
  else if 0x100B0C00 ≤ a then
    let m := (a - 0x100B0C00) / 0x20
    if a % 0x20 = 0x10 then
      let t := if v.bit 5 then s.setTxq m { s.txq m with overflow := false } else s
      if v.bit 6 then txPop m t else t
    else s
  else if 0x100B0800 ≤ a then s.writeRW a v
  else
    let n := (a - 0x100B0000) / 0x40
    match (a % 0x40) / 4 with
    | 0 => tbCtlWrite n v s
    | 1 => incWrite n v s
    | 9 => (s.writeRW a v).setTb n { s.tb n with adjNew := (s.tb n).slew != 0 }
    | _ => s.writeRW a v

end Sys2Proof.Machine
end

