-- ==== Sys2Proof/Machine/Packet.lean ====
section
/-!
DEFINITION. Frames as bytes: fields, headers, checksums and PTP messages (R352, R353, R365, R366, R371, R372, R384).
-/

namespace Sys2Proof.Machine

open Sys2Proof

/-- Byte `i` of a frame; beyond its end 0. -/
def b8 (bs : List Byte) (i : Nat) : Nat := (bs.getD i 0).toNat
/-- Big-endian fields. -/
def b16 (bs : List Byte) (i : Nat) : Nat := b8 bs i * 256 + b8 bs (i + 1)
def b32 (bs : List Byte) (i : Nat) : Nat := b16 bs i * 65536 + b16 bs (i + 2)

/-- The `n` bytes of a number, big-endian. -/
def beBytes (n v : Nat) : List Byte := (List.range n).map (fun i => BitVec.ofNat 8 (v / 256 ^ (n - 1 - i)))

/-- Replace bytes from `i` on. -/
def patch (bs : List Byte) (i : Nat) (new : List Byte) : List Byte :=
  bs.take i ++ (new.take (bs.length - i)) ++ bs.drop (i + new.length)

/-- The ones' complement sum of 16-bit words, an odd last byte padded with 0. -/
def onesSum : List Byte → Nat
  | [] => 0
  | [a] => a.toNat * 256
  | a :: b :: t =>
    let s := a.toNat * 256 + b.toNat + onesSum t
    if 65536 ≤ s then s - 65535 else s

/-- The checksum field that completes a sum. -/
def checksum (bs : List Byte) : Nat := 65535 - onesSum bs

/-! ## Headers -/

/-- One 802.1Q tag (R366). -/
def hasTag (bs : List Byte) : Bool := b16 bs 12 == 0x8100
def l3At (bs : List Byte) : Nat := if hasTag bs then 18 else 14
def etherType (bs : List Byte) : Nat := b16 bs (l3At bs - 2)

def isIp4 (bs : List Byte) : Bool :=
  let l := l3At bs
  etherType bs == 0x0800 && b8 bs l / 16 == 4 && decide (5 ≤ b8 bs l % 16) && decide (l + 20 ≤ bs.length)
def ihl (bs : List Byte) : Nat := b8 bs (l3At bs) % 16 * 4
def ip4Header (bs : List Byte) : List Byte := (bs.drop (l3At bs)).take (ihl bs)
def ip4Bad (bs : List Byte) : Bool := onesSum (ip4Header bs) != 65535
def ip4Frag (bs : List Byte) : Bool := b16 bs (l3At bs + 6) % 0x4000 != 0

def isIp6 (bs : List Byte) : Bool :=
  etherType bs == 0x86DD && b8 bs (l3At bs) / 16 == 6 && decide (l3At bs + 40 ≤ bs.length)

/-- Walk Hop-by-Hop, Routing and Destination Options headers: the next header found, and where it starts. -/
def walk6 (bs : List Byte) : Nat → Nat → Nat → Nat × Nat
  | 0, nh, at' => (nh, at')
  | k + 1, nh, at' =>
    if nh = 0 ∨ nh = 43 ∨ nh = 60 then walk6 bs k (b8 bs at') (at' + 8 * (b8 bs (at' + 1) + 1)) else (nh, at')

/-- The transport header: protocol, its offset, and whether its checksum may be checked (R371). -/
structure L4 where
  proto : Nat
  at' : Nat
  whole : Bool
  v6 : Bool
  deriving DecidableEq, Repr

def l4Of (bs : List Byte) : Option L4 :=
  if isIp4 bs then some ⟨b8 bs (l3At bs + 9), l3At bs + ihl bs, !ip4Frag bs, false⟩
  else if isIp6 bs then
    let w := walk6 bs bs.length (b8 bs (l3At bs + 6)) (l3At bs + 40)
    some ⟨w.1, w.2, w.1 == 17 || w.1 == 6, true⟩
  else none

def L4.udp (h : L4) : Bool := h.proto == 17
def L4.tcp (h : L4) : Bool := h.proto == 6

/-- Bytes of the transport header and payload: a UDP length, or what the IP header leaves. -/
def l4Len (bs : List Byte) (h : L4) : Nat :=
  if h.udp then b16 bs (h.at' + 4)
  else if h.v6 then l3At bs + 40 + b16 bs (l3At bs + 4) - h.at'
  else b16 bs (l3At bs + 2) - ihl bs

/-- The pseudo-header. -/
def pseudo (bs : List Byte) (h : L4) : List Byte :=
  let l := l3At bs
  if h.v6 then (bs.drop (l + 8)).take 32 ++ beBytes 4 (l4Len bs h) ++ beBytes 4 h.proto
  else (bs.drop (l + 12)).take 8 ++ beBytes 2 h.proto ++ beBytes 2 (l4Len bs h)

def l4Bytes (bs : List Byte) (h : L4) : List Byte := (bs.drop h.at').take (l4Len bs h)

/-- Offset of the checksum in its header. -/
def L4.ckAt (h : L4) : Nat := h.at' + (if h.udp then 6 else 16)

/-- What the MAC says of the transport checksum: checked and wrong, or found and not checked (R371). -/
def l4Check (bs : List Byte) (h : L4) : Bool × Bool :=
  if !h.v6 && !h.whole then (false, true)
  else if !(h.udp || h.tcp) then (false, h.v6)
  else if !h.whole || (h.udp && !h.v6 && b16 bs h.ckAt == 0) then (false, true)
  else (decide (bs.length < h.at' + l4Len bs h) || onesSum (pseudo bs h ++ l4Bytes bs h) != 65535, false)

/-- The frame with the transport checksum inserted (R372). -/
def l4Insert (bs : List Byte) : List Byte :=
  match l4Of bs with
  | some h =>
    if h.whole && (h.udp || h.tcp) then
      let z := patch bs h.ckAt [0, 0]
      let c := checksum (pseudo z h ++ l4Bytes z h)
      patch bs h.ckAt (beBytes 2 (if h.udp && c == 0 then 0xFFFF else c))
    else bs
  | none => bs

/-- The frame with the IPv4 header checksum inserted. -/
def ip4Insert (bs : List Byte) : List Byte :=
  if isIp4 bs then
    let z := patch bs (l3At bs + 10) [0, 0]
    patch bs (l3At bs + 10) (beBytes 2 (checksum (ip4Header z)))
  else bs

/-! ## PTP messages (R352, R353) -/

/-- Offset of a PTP message in a frame. -/
def ptpAt (bs : List Byte) : Option Nat :=
  if etherType bs = 0x88F7 then some (l3At bs)
  else match l4Of bs with
    | some h => if h.udp && h.whole && (b16 bs (h.at' + 2) == 319 || b16 bs (h.at' + 2) == 320) then some (h.at' + 8) else none
    | none => none

def ptpType (bs : List Byte) (p : Nat) : Nat := b8 bs p % 16
def ptpDomain (bs : List Byte) (p : Nat) : Nat := b8 bs (p + 4)

/-- Add to the correctionField. -/
def addCorrection (bs : List Byte) (p : Nat) (d : Int) : List Byte :=
  let v : Int := b32 bs (p + 8) * 2 ^ 32 + b32 bs (p + 12)
  patch bs (p + 8) (beBytes 8 ((v + d) % 2 ^ 64).toNat)

/-- The time base mapped to a domain, by the lowest number. -/
def State.domBaseOf (s : State) (dom : Nat) : Option Nat :=
  (List.range 4).find? (fun n => s.bitN (tbReg n 0) 16 && s.fldN (tbReg n 0) 8 8 == dom)

/-- The time base a received frame is stamped on (R352). -/
def State.stampBase (s : State) (bs : List Byte) : Nat :=
  match ptpAt bs with
  | some p => (s.domBaseOf (ptpDomain bs p)).getD 0
  | none => 0

def macLat (m off : Nat) : Nat := 0x100B0800 + 0x20 * m + off

/-- A time moved by a latency in 2^-16 ns. -/
def moveTime (val : Nat) (lat : Int) : Nat := ((val : Int) + lat * 2 ^ 24).toNat

/-- delayAsymmetry on a received frame (R353). -/
def State.asymRx (s : State) (m : Nat) (bs : List Byte) : List Byte :=
  match ptpAt bs with
  | some p =>
    if s.bitN (macLat m 0xC) 0 && (s.domBaseOf (ptpDomain bs p)).isSome && (ptpType bs p == 0 || ptpType bs p == 8) then
      addCorrection bs p (s.reg (macLat m 8)).toInt else bs
  | none => bs

/-- delayAsymmetry on a frame to send; a UDP checksum that is in use is computed again (R353, R372). -/
def State.asymTx (s : State) (m : Nat) (bs : List Byte) : List Byte :=
  match ptpAt bs with
  | some p =>
    if s.bitN (macLat m 0xC) 0 && (ptpType bs p == 1 || ptpType bs p == 2) then
      let out := addCorrection bs p (-(s.reg (macLat m 8)).toInt)
      match l4Of bs with
      | some h => if h.v6 || b16 bs h.ckAt != 0 then l4Insert out else out
      | none => out
    else bs
  | none => bs

end Sys2Proof.Machine
end

