-- ==== Sys2Proof/Machine/Stream.lean ====
section
/-!
DEFINITION. The stream engine (R376 to R386): RX streams with their jitter buffers and TX streams with their packets.
-/

namespace Sys2Proof.Machine

open Sys2Proof

def macReg (m off : Nat) : Nat := 0x100C0000 + 0x4000 * m + off
def srxReg (n off : Nat) : Nat := 0x100C2000 + 0x4000 * (n / 32) + 0x40 * (n % 32) + off
def stxReg (n off : Nat) : Nat := 0x100C3000 + 0x4000 * (n / 32) + 0x40 * (n % 32) + off

def State.mac (s : State) (m : Nat) : Mac := Tbl.getD s.eth.mac m {}
def State.setMac (s : State) (m : Nat) (x : Mac) : State := { s with eth := { s.eth with mac := Tbl.set s.eth.mac m x {} } }
def State.srx (s : State) (n : Nat) : RxStream := Tbl.getD s.eth.rx n {}
def State.setSrx (s : State) (n : Nat) (x : RxStream) : State :=
  { s with eth := { s.eth with rx := Tbl.set s.eth.rx n x {} } }
def State.stx (s : State) (n : Nat) : TxStream := Tbl.getD s.eth.tx n {}
def State.setStx (s : State) (n : Nat) (x : TxStream) : State :=
  { s with eth := { s.eth with tx := Tbl.set s.eth.tx n x {} } }

/-! ## Configuration (R376, R377) -/

/-- Samples per packet of a PTIME code; none for a reserved code. -/
def ptimeSamples : Nat → Option Nat
  | 0 => some 6
  | 1 => some 12
  | 2 => some 16
  | 3 => some 48
  | 4 => some 192
  | _ => none

/-- A stream's fields, laid out alike in SRX_CTL and STX_CTL. -/
structure StreamCfg where
  en : Bool
  mac : Nat
  wide : Bool
  ptime : Nat
  nch : Nat
  first : Nat
  vlan : Bool
  deriving DecidableEq, Repr

def streamCfg (w : Word) : StreamCfg :=
  { en := w.bit 0, mac := w.fld 1 2, wide := w.bit 3, ptime := w.fld 4 3, nch := w.fld 7 6 + 1, first := w.fld 13 11,
    vlan := w.bit 25 }

def State.srxCfg (s : State) (n : Nat) : StreamCfg := { streamCfg (s.reg (srxReg n 0)) with vlan := false }
def State.stxCfg (s : State) (n : Nat) : StreamCfg := streamCfg (s.reg (stxReg n 0))

def StreamCfg.spp (c : StreamCfg) : Nat := (ptimeSamples c.ptime).getD 0
def StreamCfg.width (c : StreamCfg) : Nat := if c.wide then 3 else 2
def StreamCfg.payload (c : StreamCfg) : Nat := c.nch * c.spp * c.width

/-- The length limit of a MAC, tagged or not (R366). -/
def State.frameLimit (s : State) (m : Nat) (tag : Bool) : Nat :=
  min 9022 (max 1518 (min 9022 (s.fldN (macReg m 0xC) 0 14)) + (if tag then 4 else 0))

/-- Channel ranges overlap. -/
def overlap (a b : StreamCfg) : Bool := decide (a.first < b.first + b.nch ∧ b.first < a.first + a.nch)

/-- What R377 refuses for either direction, `others` being the enabled streams of that direction. -/
def State.streamBad (s : State) (c : StreamCfg) (others : List StreamCfg) : Bool :=
  (ptimeSamples c.ptime).isNone || decide (2048 < c.first + c.nch) || others.any (overlap c) ||
    decide (s.frameLimit c.mac c.vlan < c.payload + (if c.vlan then 62 else 58))

/-- Bits per second of a SPEED code. -/
def speedBits : Nat → Nat
  | 0 => 10000000
  | 1 => 100000000
  | 2 => 1000000000
  | 3 => 2500000000
  | 4 => 10000000000
  | _ => 0

/-- A TX stream's wire load in bits per second. -/
def wireLoad (c : StreamCfg) : Nat :=
  if c.spp = 0 then 0 else (c.payload + 58 + 20 + (if c.vlan then 4 else 0)) * 8 * 48000 / c.spp

/-- Enabled streams other than `n`. -/
def State.srxOthers (s : State) (n : Nat) : List StreamCfg :=
  (((List.range 128).filter (· != n)).map s.srxCfg).filter (·.en)
def State.stxOthers (s : State) (n : Nat) : List StreamCfg :=
  (((List.range 128).filter (· != n)).map s.stxCfg).filter (·.en)

/-- Enable an RX stream: WAIT, or refused (R377). -/
def srxEnable (n : Nat) (s : State) : State :=
  let c := s.srxCfg n
  if c.en then s
  else if s.streamBad c (s.srxOthers n) then
    (s.setSrx n { s.srx n with cfgErr := true }).raise 0x0522 (s.ledger 0x0F n)
  else
    (s.setFldN (srxReg n 0) 0 1 1).setSrx n { s.srx n with
      st := 1, cfgErr := false, last := none, filled := [], link := min 768 (s.fldN (srxReg n 0x10) 0 10) }

/-- STREAM_RX_ENABLE (R377). -/
def execStreamRxEnable (n : Fin 128) (s : State) : Res := .next (srxEnable n s)

def srxDisable (n : Nat) (s : State) : State := (s.setFldN (srxReg n 0) 0 1 0).setSrx n { s.srx n with st := 0, filled := [] }

/-- Enable a TX stream: from the first packet wholly after the next boundary, or refused (R377, R386). A packet still in
progress from before its disabling goes on. Its MAC's LPI ends (R375). -/
def stxEnable (n : Nat) (s : State) : State :=
  let c := s.stxCfg n
  let load := ((s.stxOthers n).filter (fun o => o.mac == c.mac)).foldl (fun a o => a + wireLoad o) (wireLoad c)
  if c.en then s
  else if s.streamBad c (s.stxOthers n) || decide (9 * speedBits (s.fldN (macReg c.mac 0) 2 3) < 10 * load) then
    (s.setStx n { s.stx n with cfgErr := true }).raise 0x0530 (s.ledger 0x0F (128 + n))
  else
    let x := s.stx n
    let start := (s.sctr + 24 + c.spp - 1) / c.spp * c.spp
    let t := (s.setFldN (stxReg n 0) 0 1 1).setStx n { x with
      on := true, cfgErr := false, stop := none, buf := if x.stop = some start then x.buf else [], start := start }
    t.setMac c.mac { t.mac c.mac with waking := (t.mac c.mac).lpi }

/-- STREAM_TX_ENABLE (R386). -/
def execStreamTxEnable (n : Fin 128) (s : State) : Res := .next (stxEnable n s)

/-- Disable a TX stream: it stops after the packet in progress (R386). -/
def stxDisable (n : Nat) (s : State) : State :=
  let x := s.stx n
  let c := s.stxCfg n
  let t := s.setFldN (stxReg n 0) 0 1 0
  if x.buf.isEmpty then t.setStx n { x with on := false }
  else t.setStx n { x with stop := some (s.sctr + 24 - x.buf.length + c.spp) }

/-- STREAM_TX_DISABLE (R386). -/
def execStreamTxDisable (n : Fin 128) (s : State) : Res := .next (onlyIf (s.stxCfg n).en s (stxDisable n s))

/-- Clear an RX stream's counters and re-arm event 0x0521. -/
def srxClr (n : Nat) (s : State) : State :=
  s.setSrx n { s.srx n with late := 0, early := 0, lost := 0, reorder := 0, bad := 0, under := 0, underTold := false }

/-- STREAM_RX_COUNTER_CLR (R387). -/
def execStreamRxCounterClr (n : Fin 128) (s : State) : Res := .next (srxClr n s)

/-! ## The media clock (R378) -/

/-- The media clock of SCTR `c` by the epoch map, modulo 2^32. -/
def State.mediaAt (s : State) (ofs c : Nat) : Nat :=
  ((roundDiv (s.tbAtSctr c * 48000) (1000000000 * 65536) + ofs) % 2 ^ 32).toNat

/-- MC(s): while STEPPED = 1 it counts from the last boundary. -/
def State.media (s : State) (ofs c : Nat) : Nat :=
  if s.tbs.stepped = 0 then s.mediaAt ofs c
  else (((s.mediaAt ofs s.tbs.epochSctr : Nat) + (c : Int) - s.tbs.epochSctr) % 2 ^ 32).toNat

/-! ## Receiving (R379 to R382) -/

/-- The RTP header's offset in a frame that could match a stream: good, unfragmented IPv4 UDP. -/
def rtpAt (bs : List Byte) : Option Nat :=
  match l4Of bs with
  | some h => if h.udp && h.whole && !h.v6 then some (h.at' + 8) else none
  | none => none

/-- The packet matches RX stream `n` (R379). -/
def State.srxMatch (s : State) (m n : Nat) (bs : List Byte) (r : Nat) : Bool :=
  let c := s.srxCfg n
  let w := s.reg (srxReg n 0)
  c.en && c.mac == m && b32 bs (l3At bs + 16) == s.regN (srxReg n 4) && b16 bs (r - 6) == s.fldN (srxReg n 8) 0 16 &&
    (!w.bit 24 || b32 bs (l3At bs + 12) == s.regN (srxReg n 0xC)) &&
    b8 bs r / 64 == 2 && b8 bs (r + 1) % 128 == s.fldN (srxReg n 8) 16 7 &&
    (!w.bit 25 || b32 bs (r + 8) == s.regN (srxReg n 0x18))

/-- The streams a packet matches, rising. -/
def State.srxFind (s : State) (m : Nat) (bs : List Byte) : List Nat :=
  match rtpAt bs with
  | none => []
  | some r => (List.range 128).filter (fun n => s.srxMatch m n bs r)

/-- Where the RTP payload starts and its length: after the CSRC list and a header extension, without padding. -/
def rtpPayload (bs : List Byte) (r : Nat) : Nat × Nat :=
  let p := r + 12 + 4 * (b8 bs r % 16)
  let p := if b8 bs r / 16 % 2 = 1 then p + 4 + 4 * b16 bs (p + 2) else p
  let stop := r - 8 + b16 bs (r - 4)
  let stop := if b8 bs r / 32 % 2 = 1 then stop - b8 bs (stop - 1) else stop
  (p, stop - p)

/-- The address of a network channel's ring. -/
def ringAddr (ch pos : Nat) : Nat := 0x60000000 + 4096 * ch + 4 * (pos % 1024)

/-- Sample `k` of channel `j` of a payload, as an S32 value. -/
def rtpSample (bs : List Byte) (p : Nat) (c : StreamCfg) (k j : Nat) : Int :=
  let at' := p + (k * c.nch + j) * c.width
  let v : Nat := if c.wide then b8 bs at' * 65536 + b16 bs (at' + 1) else b16 bs at'
  rxConvert (8 * c.width) (wrapS (8 * c.width) v)

/-- Write the samples that enter at `e` (R382). -/
def ringWrite (n : Nat) (bs : List Byte) (p : Nat) (c : StreamCfg) (k e : Nat) (s : State) : State :=
  let t := (List.range c.nch).foldl (fun t j => t.setWord (ringAddr (c.first + j) e) (Word.ofInt (rtpSample bs p c k j))) s
  t.setSrx n { t.srx n with filled := insertNat (e % 1024) (t.srx n).filled }

/-- Count an RTP number (R380). -/
def seqCount (n q : Nat) (s : State) : State :=
  let x := s.srx n
  let y := { x with last := some q }
  match x.last with
  | none => s.setSrx n y
  | some l =>
    let d := (q + 65536 - (l + 1) % 65536) % 65536
    s.setSrx n (if d = 0 then y else if d ≤ 32767 then { y with lost := incHold 0xFFFF x.lost }
      else { y with reorder := incHold 0xFFFF x.reorder })

/-- Sign extension of a 32-bit difference. -/
def sext32 (x : Int) : Int := wrapS 32 x

/-- A matched packet (R379, R380). -/
def srxTake (n : Nat) (bs : List Byte) (r : Nat) (s : State) : State :=
  let c := s.srxCfg n
  let x := s.srx n
  let pl := rtpPayload bs r
  let l4bad := match l4Of bs with
    | some h => (l4Check bs h).1
    | none => false
  if ip4Bad bs || l4bad || pl.2 != c.payload then s.setSrx n { x with bad := incHold 0xFFFF x.bad }
  else
    let s := seqCount n (b16 bs (r + 2)) s
    let ofs := s.regN (srxReg n 0x14)
    let t : Int := s.sctr + sext32 ((b32 bs (r + 4) : Int) - s.media ofs s.sctr)
    let e : Int := t + x.link
    if s.sctr + 1024 < e + c.spp then s.setSrx n { s.srx n with early := incHold 0xFFFF (s.srx n).early }
    else
      let s := if e < s.sctr then s.setSrx n { s.srx n with late := incHold 0xFFFF (s.srx n).late } else s
      (List.range c.spp).foldl (fun u (k : Nat) =>
        if e + k < u.sctr then u else ringWrite n bs pl.1 c k (e + k).toNat u) s

/-- A stream's jitter buffers are read at the boundary that ends the block from `base` (R382). -/
def srxBlock (n base : Nat) (s : State) : State :=
  let c := s.srxCfg n
  if !c.en then s
  else
    let x := s.srx n
    let ps := (List.range 24).map (fun k => (base + k) % 1024)
    let ok := ps.all (fun p => x.filled.contains p)
    let x' := { x with filled := x.filled.filter (fun p => !ps.contains p), link := min 768 (s.fldN (srxReg n 0x10) 0 10) }
    if ok then
      let t := (s.setSrx n { x' with st := 2 }).raiseIf (x.st != 2) 0x0520 (s.ledger 0x0F n)
      (List.range c.nch).foldl (fun u j =>
        let f := 4096 + c.first + j
        let u := u.putRx f (ps.map (fun p => sval (u.word (ringAddr (c.first + j) p))))
        { u with engine := { u.engine with okRx := insertNat f u.engine.okRx } }) t
    else if x.st = 2 then
      (s.setSrx n { x' with under := incHold 0xFFFF x.under, underTold := true }).raiseIf (!x.underTold) 0x0521
        (s.ledger 0x0F n)
    else s.setSrx n x'

/-! ## Sending (R383 to R385) -/

/-- The station address. -/
def State.station (s : State) (m : Nat) : Nat := s.fldN (macReg m 8) 0 16 * 2 ^ 32 + s.regN (macReg m 4)

/-- The destination address of a TX stream. -/
def State.stxDmac (s : State) (n : Nat) : Nat :=
  let dst := s.regN (stxReg n 4)
  if dst / 2 ^ 28 = 14 ∧ s.bitN (stxReg n 0) 24 then 0x01005E000000 + dst % 2 ^ 23
  else s.fldN (stxReg n 0x14) 0 16 * 2 ^ 32 + s.regN (stxReg n 0x10)

/-- The samples of a packet in payload order (R376). -/
def StreamCfg.values (c : StreamCfg) (rows : List (List Int)) : List Int :=
  rows.flatMap (fun row => (List.range c.nch).map (fun j => row.getD j 0))

/-- Samples of a packet that its words clamp (R54). -/
def StreamCfg.clamped (c : StreamCfg) (rows : List (List Int)) : Nat :=
  ((c.values rows).filter (txClamps (8 * c.width))).length

/-- The packet of the samples from `x0` (R384), before its checksums. -/
def State.stxPacket (s : State) (n x0 : Nat) (rows : List (List Int)) : List Byte :=
  let c := s.stxCfg n
  let x := s.stx n
  let hdr := s.reg (stxReg n 0xC)
  let body := (c.values rows).flatMap (fun v => beBytes c.width (txConvert (8 * c.width) v % 2 ^ (8 * c.width)).toNat)
  let len := 20 + 8 + 12 + body.length
  beBytes 6 (s.stxDmac n) ++ beBytes 6 (s.station c.mac) ++
    (if c.vlan then beBytes 2 0x8100 ++ beBytes 2 (s.fldN (stxReg n 0x14) 16 12) else []) ++ beBytes 2 0x0800 ++
    [0x45] ++ beBytes 1 (hdr.fld 0 6 * 4) ++ beBytes 2 len ++ beBytes 2 x.ident ++ beBytes 2 0x4000 ++
    beBytes 1 (hdr.fld 8 8) ++ [17, 0, 0] ++ beBytes 4 (Config.sourceIp c.mac).toNat ++ beBytes 4 (s.regN (stxReg n 4)) ++
    beBytes 2 (s.fldN (stxReg n 8) 16 16) ++ beBytes 2 (s.fldN (stxReg n 8) 0 16) ++ beBytes 2 (len - 20) ++ [0, 0] ++
    [0x80] ++ beBytes 1 (hdr.fld 16 7) ++ beBytes 2 x.seq ++ beBytes 4 (s.media (s.regN (stxReg n 0x1C)) x0) ++
    beBytes 4 (s.regN (stxReg n 0x18)) ++ body

/-- Hand a complete packet to its MAC; its clamped samples set PORT and count (R54). -/
def stxHand (n x0 : Nat) (rows : List (List Int)) (s : State) : State :=
  let m := (s.stxCfg n).mac
  let clamps := (s.stxCfg n).clamped rows
  let bs := l4Insert (ip4Insert (s.stxPacket n x0 rows))
  let x := s.stx n
  ((s.setMac m { s.mac m with ready := (s.mac m).ready ++ [{ stream := n, bytes := bs }] }).setStx n { x with
    seq := (x.seq + 1) % 65536, ident := (x.ident + 1) % 65536, clip := x.clip + clamps }).setSat (decide (0 < clamps)) 5

/-- One more sample of a stream, with exit SCTR `x`: a packet begins at a multiple of S (R383). -/
def stxSample (n x : Nat) (row : List Int) (s : State) : State :=
  let t := s.stx n
  let c := s.stxCfg n
  if !t.on || (t.buf.isEmpty && (decide (x < t.start) || x % c.spp != 0)) then s
  else
    let buf := t.buf ++ [row]
    if buf.length < c.spp then s.setStx n { t with buf := buf }
    else
      let u := stxHand n (x + 1 - c.spp) buf s
      let y := { u.stx n with buf := [] }
      u.setStx n (match y.stop with
        | some e => if e ≤ x + 1 then { y with on := false, stop := none } else y
        | none => y)

/-- The block that the transmit stage takes at the boundary, for one stream (R383, R385). -/
def stxBlock (n : Nat) (s : State) : State :=
  if !(s.stx n).on then s
  else
    let c := s.stxCfg n
    let chans := (List.range c.nch).map (fun j => Tbl.getD s.engine.tx (destKey (3, c.first + j)) [])
    (List.range 24).foldl (fun t k => stxSample n (t.sctr + k) (chans.map (fun b => b.getD k 0)) t) s

/-- Packets still queued at a boundary count in HELD, each once (R385). -/
def heldCount (m : Nat) (s : State) : State :=
  let t := ((s.mac m).ready.filter (!·.held)).foldl
    (fun t p => t.setStx p.stream { t.stx p.stream with held := incHold 0xFFFF (t.stx p.stream).held }) s
  t.setMac m { t.mac m with ready := (t.mac m).ready.map (fun p => { p with held := true }) }

/-- The stream engine at a boundary: ring reads of the block from `base`, then packets in rising stream number. -/
def streamsBlock (base : Nat) (s : State) : State :=
  let s := (List.range 128).foldl (fun t n => srxBlock n base t) s
  let s := (List.range 4).foldl (fun t m => heldCount m t) s
  (List.range 128).foldl (fun t n => stxBlock n t) s

/-! ## Stream registers (R387) -/

def srxRead (n off : Nat) (s : State) : Word :=
  let x := s.srx n
  match off / 4 with
  | 0 => s.reg (srxReg n 0) ||| packW [(27, x.st), (29, bitOf x.cfgErr)]
  | 7 => packW [(0, x.late), (16, x.early)]
  | 8 => packW [(0, x.lost), (16, x.reorder)]
  | 9 => packW [(0, x.bad), (16, x.under)]
  | _ => s.reg (srxReg n off)

def stxRead (n off : Nat) (s : State) : Word :=
  let x := s.stx n
  match off / 4 with
  | 0 => s.reg (stxReg n 0) ||| packW [(26, bitOf x.cfgErr)]
  | 8 => packW [(0, x.sent), (16, x.held)]
  | _ => s.reg (stxReg n off)

/-- While a stream is enabled its configuration is fixed, but for EN and an RX stream's LINK (R377). -/
def srxWrite (n off : Nat) (v : Word) (s : State) : State :=
  let en := (s.srxCfg n).en
  if off = 0x24 then (if v.bit 31 then srxClr n s else s)
  else if off = 0 then
    if en then (if v.bit 0 then s else srxDisable n s)
    else
      let t := s.writeRW (srxReg n 0) (v.setBit 0 false)
      if v.bit 0 then srxEnable n t else t
  else if en ∧ off ≠ 0x10 then s
  else s.writeRW (srxReg n off) v

def stxWrite (n off : Nat) (v : Word) (s : State) : State :=
  let en := (s.stxCfg n).en
  if off = 0 then
    if en then (if v.bit 0 then s else stxDisable n s)
    else
      let t := s.writeRW (stxReg n 0) (v.setBit 0 false)
      if v.bit 0 then stxEnable n t else t
  else if en then s
  else s.writeRW (stxReg n off) v

end Sys2Proof.Machine
end

