-- ==== Sys2Proof/Machine/Eth.lean ====
section
/-!
DEFINITION. The Ethernet MACs (R364 to R375, R387, R388).
-/

namespace Sys2Proof.Machine

open Sys2Proof

def State.macLedger (s : State) (m : Nat) : Nat := s.ledger 0x0E m

/-- Count on counter `i` of a MAC. -/
def macCount (m i : Nat) (s : State) : State :=
  let x := s.mac m
  s.setMac m { x with cnt := Tbl.set x.cnt i (incHold 0xFFFFFFFF (Tbl.getD x.cnt i 0)) 0 }

def State.macHalf (s : State) (m : Nat) : Bool := s.bitN (macReg m 0) 7
def State.macRx (s : State) (m : Nat) : Bool := s.bitN (macReg m 0) 0
def State.macTx (s : State) (m : Nat) : Bool := s.bitN (macReg m 0) 1

/-- Queues of a MAC and the checks of their entry sizes (R368, R369). -/
def State.rxq (s : State) (m : Nat) : Nat := s.fldN (macReg m 0x10) 0 7
def State.freeq (s : State) (m : Nat) : Nat := s.fldN (macReg m 0x10) 7 7
def State.macTxq (s : State) (m : Nat) : Nat := s.fldN (macReg m 0x10) 14 7
def State.doneq (s : State) (m : Nat) : Nat := s.fldN (macReg m 0x10) 21 7
def State.rxqErr (s : State) (m : Nat) : Bool := s.macRx m && s.queEsize (s.rxq m) != 32
def State.freeqErr (s : State) (m : Nat) : Bool := s.macRx m && s.queEsize (s.freeq m) != 16
def State.txqErr (s : State) (m : Nat) : Bool := s.macTx m && s.queEsize (s.macTxq m) != 32
def State.doneqErr (s : State) (m : Nat) : Bool := s.macTx m && s.queEsize (s.doneq m) != 16

/-! ## What is to be sent (R370) -/

/-- What the MAC would send at a frame boundary: a PAUSE, a stream packet, or the descriptor in front of TXQ. -/
inductive TxChoice where
  | none
  | pause
  | stream (p : TxPacket)
  | desc
  deriving DecidableEq, Repr

def State.txDescs (s : State) (m : Nat) : Bool :=
  !s.txqErr m && !s.doneqErr m && s.queEn (s.macTxq m) && (s.queue (s.macTxq m)).count != 0

/-- What is sent next: the frame that has collided, else by R370. -/
def State.txChoice (s : State) (m : Nat) : TxChoice :=
  let x := s.mac m
  if !s.macTx m || x.backoff.isSome then .none
  else if x.sendPause && !s.macHalf m then .pause
  else if x.paused != 0 && !s.macHalf m then .none
  else if x.trying && s.txDescs m then .desc
  else match x.ready with
    | p :: _ => .stream p
    | [] => if s.txDescs m then .desc else .none

/-- A frame may be sent now. -/
def State.txWaits (s : State) (m : Nat) : Bool := s.txChoice m != .none

/-- A frame waits, also behind a pause or a backoff (R375). -/
def State.framesWait (s : State) (m : Nat) : Bool :=
  ((s.mac m).sendPause && !s.macHalf m) || !(s.mac m).ready.isEmpty || s.txDescs m

/-! ## Receiving (R365 to R371, R374) -/

/-- The classes of a frame: runt, oversize, FCS error (R365). -/
structure FrameClass where
  runt : Bool
  oversize : Bool
  fcs : Bool
  deriving DecidableEq, Repr

def State.classOf (s : State) (m : Nat) (f : EthFrame) : FrameClass :=
  let n := f.bytes.length
  { runt := decide (n < 64), oversize := decide (s.frameLimit m (hasTag f.bytes) < n), fcs := !f.fcsOk || f.rxErr }

def FrameClass.good (c : FrameClass) : Bool := !c.runt && !c.oversize && !c.fcs

/-- The counter of a frame of 14 bytes or more. -/
def FrameClass.counter (c : FrameClass) : Nat := if c.runt then 2 else if c.oversize then 3 else if c.fcs then 4 else 0

/-- The receive status word (R368). -/
def State.rxStatus (s : State) (m : Nat) (f : EthFrame) (ctl : Bool) : Word :=
  let bs := f.bytes
  let c := s.classOf m f
  let body := bs.take (bs.length - 4)
  let l4 := l4Of body
  let chk := match l4 with
    | some h => l4Check body h
    | none => (false, false)
  let is := fun (p : L4 → Bool) => match l4 with
    | some h => p h
    | none => false
  packW [(0, min 16383 bs.length), (14, bitOf c.runt), (15, bitOf c.oversize), (16, bitOf c.fcs),
    (17, bitOf (decide (64 * max 1 (s.fldN (macReg m 0x14) 0 8) < bs.length))), (18, bitOf (hasTag bs)),
    (19, bitOf (isIp4 body)), (20, bitOf (isIp6 body)), (21, bitOf (isIp4 body && ip4Bad body)), (22, bitOf (is L4.udp)),
    (23, bitOf (is L4.tcp)), (24, bitOf chk.1), (25, bitOf chk.2), (26, bitOf (ptpAt body).isSome),
    (27, s.stampBase body), (29, bitOf ctl)]

/-- A drop for want of a buffer (R368). -/
def nobuf (m : Nat) (s : State) : State :=
  let t := macCount m 5 s
  let x := t.mac m
  (t.setMac m { x with nobufTold := true }).raiseIf (!x.nobufTold) 0x0503 (s.macLedger m)

/-- An Announce message of a time base's domain that Zekor finds in a good frame: its sender is taken as the parent, and its
clockClass and clockAccuracy grade the slot (R331). PRESUMED: messageType 0xB and the places of grandmasterClockQuality are those of
IEEE 1588-2019 (log entry 97). -/
def announce (bs : List Byte) (s : State) : State :=
  match ptpAt bs with
  | none => s
  | some p =>
    match s.domBaseOf (ptpDomain bs p) with
    | some n => if ptpType bs p = 11 ∧ p + 64 ≤ bs.length then parentGrade n (b8 bs (p + 48)) (b8 bs (p + 49)) s else s
    | none => s

/-- Deliver a frame into a free buffer and push its completion (R368). -/
def macDeliver (m : Nat) (f : EthFrame) (ctl : Bool) (s : State) : State :=
  if s.freeqErr m || s.rxqErr m then nobuf m s
  else
    let r := queueTake (s.freeq m) s
    match r.2 with
    | none => nobuf m r.1
    | some ws =>
      let t := r.1
      let body := f.bytes.take (f.bytes.length - 4)
      let buf := (ws.getD 0 0).toNat / 64 * 64
      let bytes := s.asymRx m body ++ f.bytes.drop (f.bytes.length - 4)
      let t := t.putBytes buf (bytes.take (64 * max 1 (s.fldN (macReg m 0x14) 0 8)))
      let v := moveTime (s.tb (s.stampBase body)).val (-(s.reg (macLat m 0)).toInt)
      announce body <| queuePush (s.rxq m) [s.rxStatus m f ctl, Word.ofNat buf, timeWord v 2, timeWord v 0,
        timeWord v 1 ||| packW [(16, fracOf v)], Word.ofNat m, 0, 0] t

/-- The address filter. -/
def State.macAccepts (s : State) (m : Nat) (bs : List Byte) : Bool :=
  s.bitN (macReg m 0) 10 || (bs.getD 0 0).getLsbD 0 || b16 bs 0 * 2 ^ 32 + b32 bs 2 == s.station m

/-- A PAUSE (R374). -/
def State.isPause (s : State) (m : Nat) (bs : List Byte) : Bool :=
  (b16 bs 0 * 2 ^ 32 + b32 bs 2 == 0x0180C2000001 || b16 bs 0 * 2 ^ 32 + b32 bs 2 == s.station m) &&
    etherType bs == 0x8808 && b16 bs (l3At bs) == 1

/-- A MAC Control frame is consumed and counted; a PAUSE sets the timer in full duplex (R373, R374). -/
def macControl (m : Nat) (f : EthFrame) (s : State) : State :=
  let t := macCount m 6 s
  if s.macHalf m then t
  else
    let t := if s.isPause m f.bytes then
        let u := macCount m 11 t
        let x := u.mac m
        if s.bitN (macReg m 0) 11 then u.setMac m { x with
          paused := b16 f.bytes (l3At f.bytes + 2) * 512, waking := x.waking || (x.lpi && s.framesWait m) } else u
      else t
    if s.bitN (macReg m 0) 9 then macDeliver m f true t else t

/-- A received frame (R365). -/
def macReceive (m : Nat) (f : EthFrame) (s : State) : State :=
  let n := f.bytes.length
  let c := s.classOf m f
  if !s.macRx m then s
  else if n < 14 then macCount m 1 s
  else if !s.macAccepts m f.bytes then s
  else
    let t := macCount m c.counter s
    if !c.good then (if s.bitN (macReg m 0) 8 then macDeliver m f false t else t)
    else if etherType f.bytes = 0x8808 then macControl m f t
    else
      let body := f.bytes.take (n - 4)
      match rtpAt body, s.srxFind m body with
      | some r, k :: ks =>
        let t := (k :: ks).foldl (fun u n => srxTake n body r u) t
        if (k :: ks).any (fun n => s.bitN (srxReg n 0) 26) then macDeliver m f false t else t
      | _, _ => macDeliver m f false t

/-- FRAME_RECEIVE (R365). -/
def execFrameReceive (m : Fin 4) (frame : EthFrame) (s : State) : Res := .next (macReceive m frame s)

/-! ## Transmitting (R367, R369, R370, R372 to R375) -/

/-- The frame in front is done with: its collisions are forgotten. -/
def txDone (m : Nat) (s : State) : State := s.setMac m { s.mac m with attempts := 0, trying := false, backoff := none }

/-- A frame on the wire: padded to 60 bytes (R367). -/
def wireFrame (bs : List Byte) : List Byte := bs ++ List.replicate (60 - bs.length) 0

def putSent (m : Nat) (bs : List Byte) (s : State) : State := s.setMac m { s.mac m with sent := wireFrame bs }

/-- The PAUSE frame. -/
def State.pauseFrame (s : State) (m : Nat) : List Byte :=
  beBytes 6 0x0180C2000001 ++ beBytes 6 (s.station m) ++ beBytes 2 0x8808 ++ beBytes 2 1 ++
    beBytes 2 (s.fldN (macReg m 0x1C) 0 16)

/-- Push a completion: TAG and status (R369). -/
def txComplete (m : Nat) (tag : Word) (status : Nat) (s : State) : State :=
  queuePush (s.doneq m) [tag, Word.ofNat status, 0, 0] s

/-- The frame of a descriptor, checksums and asymmetry applied (R353, R372). -/
def State.descFrame (s : State) (m : Nat) (d : List Word) : List Byte :=
  let w0 := d.getD 0 0
  let bs := s.asymTx m (s.getBytes (d.getD 1 0).toNat (w0.fld 0 14))
  let bs := if w0.bit 14 then ip4Insert bs else bs
  if w0.bit 15 then l4Insert bs else bs

/-- Send the descriptor in front of TXQ. -/
def descSend (m : Nat) (s : State) : State :=
  let r := queueTake (s.macTxq m) s
  match r.2 with
  | none => r.1
  | some d =>
    let t := r.1
    let w0 := d.getD 0 0
    let bs := s.descFrame m d
    if s.frameLimit m (hasTag bs) < max 60 bs.length + 4 then txComplete m (d.getD 3 0) 1 t
    else
      let t := macCount m 7 (putSent m bs t)
      let b := w0.fld 17 2
      let t := if w0.bit 16 then
          txStampPut m ⟨(d.getD 2 0).fld 0 16, b, moveTime (s.tb b).val (s.reg (macLat m 4)).toInt⟩ t else t
      txComplete m (d.getD 3 0) 0 t

/-- A frame boundary: the MAC sends what is next (R370); a stream packet beyond the limit is not sent (R367). -/
def macTransmit (m : Nat) (s : State) : State :=
  if (s.mac m).lpi then s
  else match s.txChoice m with
  | .none => s
  | .pause =>
    let t := macCount m 10 (putSent m (s.pauseFrame m) s)
    t.setMac m { t.mac m with sendPause := false }
  | .stream p =>
    let t := s.setMac m { s.mac m with ready := (s.mac m).ready.drop 1 }
    if s.frameLimit m (hasTag p.bytes) < p.bytes.length + 4 then txDone m t
    else
    let t := macCount m 7 (putSent m p.bytes t)
    txDone m (t.setStx p.stream { t.stx p.stream with sent := ((t.stx p.stream).sent + 1) % 65536 })
  | .desc => txDone m (descSend m s)

/-- FRAME_TRANSMIT (R369). -/
def execFrameTransmit (m : Fin 4) (s : State) : Res := .next (macTransmit m s)

/-- The frame in front is abandoned (R373). -/
def txAbandon (m status counter : Nat) (s : State) : State :=
  let t := macCount m counter s
  txDone m (match s.txChoice m with
  | .stream _ => t.setMac m { t.mac m with ready := (t.mac m).ready.drop 1 }
  | .desc =>
    let r := queueTake (s.macTxq m) t
    (match r.2 with
     | some d => txComplete m (d.getD 3 0) status r.1
     | none => r.1)
  | _ => t)

/-- A collision of the frame in front (R373). -/
def macCollision (m : Nat) (late : Bool) (s : State) : State :=
  if !s.macHalf m || !s.txWaits m then s
  else
    let x := s.mac m
    if late then txAbandon m 2 8 s
    else if 16 ≤ x.attempts + 1 then txAbandon m 3 9 s
    else
      let n := x.attempts + 1
      s.setMac m { x with attempts := n, draws := x.draws + 1, trying := s.txChoice m == .desc
                          backoff := some (Config.backoffDraw (s.station m) x.draws % 2 ^ min n 10) }

/-- COLLISION (R373). -/
def execCollision (m : Fin 4) (late : Bool) (s : State) : Res := .next (macCollision m late s)

/-- BACKOFF_EXPIRY: the frame may be attempted again (R373). -/
def execBackoffExpiry (m : Fin 4) (s : State) : Res := .next (s.setMac m { s.mac m with backoff := none })

/-- PAUSE_TIMER_EXPIRY (R374). -/
def execPauseTimerExpiry (m : Fin 4) (s : State) : Res := .next (s.setMac m { s.mac m with paused := 0 })

/-- SEND: one PAUSE at the next frame boundary, ignored in half duplex (R374). -/
def pauseSend (m : Nat) (s : State) : State :=
  if s.macHalf m then s else s.setMac m { s.mac m with sendPause := true }

/-- SEND (R374). -/
def execSend (m : Fin 4) (s : State) : Res := .next (pauseSend m s)

/-! ## Energy-Efficient Ethernet (R375) -/

/-- The interface allows LPI (R364). -/
def State.lpiAllowed (s : State) (m : Nat) : Bool :=
  let sp := s.fldN (macReg m 0) 2 3
  if m < 2 then !s.macHalf m && (sp == 1 || sp == 2)
  else match s.fldN (macReg m 0) 5 2 with
    | 0 => sp == 1 || sp == 2
    | 1 => true
    | 3 => true
    | _ => false

/-- An enabled TX stream names the MAC. -/
def State.macStreams (s : State) (m : Nat) : Bool :=
  (List.range 128).any (fun n => (s.stxCfg n).en && (s.stxCfg n).mac == m)

/-- Nothing forbids LPI: it is enabled and allowed, no frame waits, and no enabled TX stream names the MAC. -/
def State.lpiMay (s : State) (m : Nat) : Bool :=
  s.bitN (macReg m 0x18) 0 && s.lpiAllowed m && s.macTx m && !s.framesWait m && !s.macStreams m

/-- The MAC signals LPI. -/
def State.lpiSignals (s : State) (m : Nat) : Bool := (s.mac m).lpi && !(s.mac m).waking && s.lpiMay m

/-- What forbids LPI ends it: its wake has begun, and nothing takes that back (R375). -/
def lpiEnd (m : Nat) (s : State) : State :=
  if (s.mac m).lpi && !s.lpiMay m then s.setMac m { s.mac m with waking := true } else s

/-- LPI_ENTER (R375). -/
def execLpiEnter (m : Fin 4) (s : State) : Res :=
  .next (onlyIf (s.lpiMay m && !(s.mac m).lpi) s (s.setMac m { s.mac m with lpi := true, waking := false }))

/-- LPI_WAKE_END: TW has passed since a frame became ready, and it may start (R375). -/
def execLpiWakeEnd (m : Fin 4) (s : State) : Res :=
  .next (onlyIf ((s.mac m).lpi && !s.lpiSignals m) s (s.setMac m { s.mac m with lpi := false, waking := false }))

/-- PARTNER_LPI (R375). -/
def execPartnerLpi (m : Fin 4) (on : Bool) (s : State) : Res := .next (s.setMac m { s.mac m with lpiRx := on })

/-! ## Link, MDIO, counters -/

/-- MAC_LINK_UP (R388). -/
def execMacLinkUp (m : Fin 4) (s : State) : Res :=
  let x := s.mac m
  .next ((s.setMac m { x with link := true }).raiseIf (!x.link) 0x0501 (s.macLedger m))

/-- MAC_LINK_DOWN (R388). -/
def execMacLinkDown (m : Fin 4) (s : State) : Res :=
  let x := s.mac m
  .next ((s.setMac m { x with link := false }).raiseIf x.link 0x0502 (s.macLedger m))

/-- Start an MDIO transaction. -/
def mdioGo (s : State) : State := { s with eth := { s.eth with mdio := true } }

/-- MDIO_GO (R387). -/
def execMdioGo (s : State) : Res := .next (mdioGo s)

/-- MDIO_DONE: a read leaves its data (R387). -/
def execMdioDone (data : BitVec 16) (s : State) : Res :=
  .next (onlyIf s.eth.mdio s
    (let t : State := { s with eth := { s.eth with mdio := false } }
     if s.bitN 0x100C0024 26 then t.setFldN 0x100C0024 0 16 data.toNat else t))

/-- Clear a MAC's counters and re-arm event 0x0503. -/
def macClr (m : Nat) (s : State) : State := s.setMac m { s.mac m with cnt := [], nobufTold := false }

/-- MAC_COUNTER_CLR (R387). -/
def execMacCounterClr (m : Fin 4) (s : State) : Res := .next (macClr m s)

/-! ## MAC registers (R364, R387) -/

/-- The combination of R364 is supported. -/
def macCfgOk (m : Nat) (v : Word) : Bool :=
  let sp := v.fld 2 3
  let half := v.bit 7
  if m < 2 then decide (sp ≤ 2) && (!half || decide (sp ≤ 1))
  else !half && (match v.fld 5 2 with
    | 0 => decide (sp ≤ 2)
    | 1 => sp == 2
    | 2 => sp == 3
    | _ => sp == 4)

/-- A write of MAC_CTL: an unsupported combination leaves the MAC disabled. -/
def macCtlWrite (m : Nat) (v : Word) (s : State) : State :=
  let ok := macCfgOk m v
  let t := s.writeRW (macReg m 0) (if ok then v else (v.setBit 0 false).setBit 1 false)
  t.setMac m { t.mac m with cfgErr := !ok }

/-- Address of a stream register within the ETH space: MAC block, direction, stream, offset. -/
def ethStream (a : Nat) : Option (Bool × Nat × Nat) :=
  let o := (a - 0x100C0000) % 0x4000
  let m := (a - 0x100C0000) / 0x4000
  if 0x2000 ≤ o ∧ o < 0x2800 then some (false, 32 * m + (o - 0x2000) / 0x40, o % 0x40)
  else if 0x3000 ≤ o ∧ o < 0x3800 then some (true, 32 * m + (o - 0x3000) / 0x40, o % 0x40)
  else none

def ethRead (a : Nat) (s : State) : Word :=
  match ethStream a with
  | some (false, n, off) => srxRead n off s
  | some (true, n, off) => stxRead n off s
  | none =>
    let m := (a - 0x100C0000) / 0x4000
    let o := (a - 0x100C0000) % 0x4000
    let x := s.mac m
    if o = 0 then (s.reg a).setBit 31 x.cfgErr
    else if o = 0x10 then s.reg a ||| packW [(28, bitOf (s.txqErr m)), (29, bitOf (s.rxqErr m)),
      (30, bitOf (s.freeqErr m)), (31, bitOf (s.doneqErr m))]
    else if o = 0x20 then packW [(0, bitOf x.link), (1, if x.link then s.fldN (macReg m 0) 2 3 else 0),
      (4, bitOf (x.link && !s.macHalf m)), (5, bitOf (x.paused != 0)), (6, bitOf (s.lpiSignals m)),
      (7, bitOf x.lpiRx)]
    else if o = 0x1C then (s.reg a).setBit 31 x.sendPause
    else if a = 0x100C0024 then (s.reg a).setBit 31 s.eth.mdio
    else if 0x100 ≤ o ∧ o < 0x130 then Word.ofNat (Tbl.getD x.cnt ((o - 0x100) / 4) 0)
    else s.reg a

def ethWrite (a : Nat) (v : Word) (s : State) : State :=
  match ethStream a with
  | some (false, n, off) => srxWrite n off v s
  | some (true, n, off) => stxWrite n off v s
  | none =>
    let m := (a - 0x100C0000) / 0x4000
    let o := (a - 0x100C0000) % 0x4000
    if o = 0 then lpiEnd m (macCtlWrite m v s)
    else if o = 0x18 then lpiEnd m (s.writeRW a v)
    else if o = 0x1C then
      let t := s.writeRW a v
      if v.bit 31 then pauseSend m t else t
    else if a = 0x100C0024 then
      let t := s.writeRW a v
      if v.bit 31 then mdioGo t else t
    else if o = 0x130 then (if v.bit 31 then macClr m s else s)
    else s.writeRW a v

end Sys2Proof.Machine
end

