-- ==== Sys2Proof/Machine/MemTest.lean ====
section
/-!
DEFINITION. SRAM banks, ECC records, the transparent background test, and the fabric's error record and watchdog (R514 to
R526).
-/

namespace Sys2Proof.Machine

open Sys2Proof

def State.withMemc (s : State) (m : MemCtl) : State := { s with memc := m }

/-- The byte address lies in one of the 192 banks (R514). -/
def inBanks (a : Nat) : Bool :=
  decide (a < 0x01000000 ∨ (0x01100000 ≤ a ∧ a < 0x02100000) ∨ (0x02400000 ≤ a ∧ a < 0x02C00000) ∨
    (0x03000000 ≤ a ∧ a < 0x03800000))

/-! ## ECC (R516) -/

/-- ECC_WRITEBACK: the corrected word replaces the one in error, unless a write to it came first. -/
def execEccWriteback (addr : Word) (s : State) : Res :=
  let k := addr.toNat / 8
  .next (onlyIf (s.memc.writeback.contains k) s
    (s.withMemc { s.memc with ecc := Tbl.del s.memc.ecc k, writeback := s.memc.writeback.filter (· != k) }))

/-- Clear an ECC count; CORR also re-arms event 0x0802. -/
def eccClr (unc : Bool) (s : State) : State :=
  if unc then s.withMemc { s.memc with unc := 0 } else s.withMemc { s.memc with corr := 0, corrArmed := true }

def execEccClr (unc : Bool) (s : State) : Res := .next (eccClr unc s)

/-! ## Background test (R519 to R522) -/

/-- A bank whose region may be tested: Abacus banks only in a BUILDING half (R521). -/
def State.bankTested (s : State) (k : Nat) : Bool :=
  decide (128 ≤ k) || s.engine.abx.writable (k / 64) (decide (60 ≤ k % 64))

/-- BGT_REGION_START (R519). -/
def execBgtRegionStart (s : State) : Res :=
  let m := s.memc
  .next (onlyIf (s.bitN 0x10130000 1) s
    (let r := if m.started then (m.region + 1) % 4096 else 0
     s.withMemc { m with started := true, region := r,
                         sweeps := if m.started && r == 0 then (m.sweeps + 1) % 65536 else m.sweeps,
                         testing := (List.range 192).filter s.bankTested }))

/-- Repair spares of a bank in use. -/
def State.sparesUsed (s : State) (bank : Nat) : Nat := (s.memc.repaired.filter (fun e => e / 4096 == bank)).length

/-- BGT_REGION_DONE (R520, R522): a region that failed its test is mapped to a spare, where one is free. -/
def bgtDone (bank : Nat) (pass : Bool) (s : State) : State :=
  let m := { s.memc with testing := s.memc.testing.filter (· != bank) }
  if pass then s.withMemc m
  else
    let room := decide (s.sparesUsed bank < 2)
    let t := s.withMemc { m with
      repaired := if room then m.repaired ++ [bank * 4096 + m.region] else m.repaired,
      fail := packW [(0, bank), (8, m.region), (20, bitOf room), (31, 1)] }
    t.raise (if room then 0x0803 else 0x0804) (bank + m.region * 256)

def execBgtRegionDone (bank : Fin 192) (pass : Bool) (s : State) : Res :=
  .next (onlyIf (s.memc.testing.contains bank.val) s (bgtDone bank pass s))

/-! ## Fabric errors and watchdog (R523, R526) -/

/-- An access that no target decodes. -/
def fabError (i : Init) (a : Nat) (write : Bool) (s : State) : State :=
  let m := s.memc
  (s.withMemc { m with fabErr := incHold 0xFFFF m.fabErr, fabArmed := false, fabAddr := Word.ofNat a,
                       fabSrc := packW [(0, i.val), (4, bitOf write), (31, 1)] }).raiseIf m.fabArmed 0x0805 a

def fabErrClr (s : State) : State := s.withMemc { s.memc with fabErr := 0, fabArmed := true }

/-- FAB_ERR_CLR (R523). -/
def execFabErrClr (s : State) : Res := .next (fabErrClr s)

/-- FABRIC_WATCHDOG (R526): the device gives up with CAUSE 4. -/
def execFabricWatchdog (init : Init) (s : State) : Res :=
  .next (onlyIf (s.cus.own == 2) s (letGo (giveUp 4 0 (s.withMemc { s.memc with wdogInit := init.val }))))

/-! ## MEM and FAB registers -/

def memRead (a : Nat) (s : State) : Word :=
  let m := s.memc
  match a - 0x10130000 with
  | 0x04 => Word.ofNat m.corr
  | 0x08 => Word.ofNat m.unc
  | 0x0C => m.eccAddr
  | 0x10 => m.eccSrc
  | 0x20 => packW [(0, m.region), (16, m.sweeps)]
  | 0x24 => m.fail
  | _ =>
    if 0x10130040 ≤ a ∧ a < 0x10130070 then
      packW ((List.range 16).map (fun j => (2 * j, s.sparesUsed (16 * ((a - 0x10130040) / 4) + j))))
    else s.reg a

def memWrite (a : Nat) (v : Word) (s : State) : State :=
  if a = 0x10130004 then (if v.bit 31 then eccClr false s else s)
  else if a = 0x10130008 then (if v.bit 31 then eccClr true s else s)
  else if a = 0x10130080 then
    -- with SIZE = 0, SEC_DLYCFG.ODLY_EN reads 0 (R537)
    (let t := s.writeRW a v
     if t.dramSize = 0 then t.setFldN 0x10038008 31 1 0 else t)
  else s.writeRW a v

def fabRead (a : Nat) (s : State) : Word :=
  let m := s.memc
  match a - 0x10140000 with
  | 0x00 => Word.ofNat m.fabErr
  | 0x04 => m.fabAddr
  | 0x08 => m.fabSrc
  | _ => s.reg a

def fabWrite (a : Nat) (v : Word) (s : State) : State :=
  if a = 0x10140000 then (if v.bit 31 then fabErrClr s else s) else s.writeRW a v

end Sys2Proof.Machine
end

