-- ==== Sys2Proof/Machine/Flags.lean ====
section
/-!
DEFINITION. The flags of the Tally ALU (R188) and the bit counts of EXPX (R201).
-/

namespace Sys2Proof.Machine

open Sys2Proof

/-- Bits Z N, Z N V and Z N C V of the status word. -/
def maskZN : Word := 3
def maskZNV : Word := 0xB
def maskZNCV : Word := 0xF

/-- The Z N C V bits for a result, carry and overflow. -/
def znCV (r : Word) (c v : Bool) : Word :=
  packW [(flagZ, bitOf (r == 0)), (flagN, bitOf r.msb), (flagC, bitOf c), (flagV, bitOf v)]

/-- Two's complement overflow of an exact result. -/
def ovf32 (x : Int) : Bool := sats32 x

/-- The sum, with the carry out of bit 31 and the overflow. -/
def addFull (a b : Word) : Word × Bool × Bool :=
  (a + b, decide (2 ^ 32 ≤ a.toNat + b.toNat), ovf32 (a.toInt + b.toInt))

/-- The difference a + NOT b + 1, with its carry (no borrow) and overflow. -/
def subFull (a b : Word) : Word × Bool × Bool :=
  (a - b, decide (b.toNat ≤ a.toNat), ovf32 (a.toInt - b.toInt))

/-- Saturate an exact result (ADDS, SUBS, ABS). -/
def satWord (x : Int) : Word := BitVec.ofInt 32 (sat32 x)

/-- Redundant sign bits of an n-bit two's complement value: leading bits equal to the sign, minus 1 (R201). -/
def redundantSign (n : Nat) (x : Int) : Nat :=
  let y : Nat := if x < 0 then (-x - 1).toNat else x.toNat
  n - 1 - (if y = 0 then 0 else Nat.log2 y + 1)

/-- EXPX of a D register. -/
def expx32 (w : Word) : Nat := redundantSign 32 w.toInt

/-- A condition of B on the status word (R192). -/
def condHolds (cond : Nat) (st : Word) : Bool :=
  let z := st.bit flagZ
  let n := st.bit flagN
  let c := st.bit flagC
  let v := st.bit flagV
  let az := st.bit flagAZ
  let an := st.bit flagAN
  match cond with
  | 0 => true
  | 1 => z
  | 2 => !z
  | 3 => n != v
  | 4 => n == v
  | 5 => z || n != v
  | 6 => !z && n == v
  | 7 => c
  | 8 => !c
  | 9 => v
  | 10 => !v
  | 11 => az
  | 12 => !az
  | 13 => an
  | 14 => !an
  | _ => false

end Sys2Proof.Machine
end

