-- ==== Sys2Proof/Machine/Operands.lean ====
section
/-!
DEFINITION. The operand forms of the Tally instruction set: three-register and immediate ALU forms, pointer accesses,
accumulating forms and extraction. Each form gives the effect of one instruction on the bank it issues in.
-/

namespace Sys2Proof.Machine

open Sys2Proof

/-- Register `r` of a five-bit field. -/
def TBank.reg (b : TBank) (r : BitVec 5) : Word := b.dr r.toNat

/-- An ALU result into Dd with flags under a mask, readable from c + 1. -/
def aluEff (b : TBank) (rd : BitVec 5) (res mask flags : Word) : TEffect :=
  { bank := b, results := (1, .d rd.toNat res) :: (if mask = 0 then [] else [(1, .flags mask flags)]) }

/-- Flags alone (CMP, CMPI). -/
def flagEff (b : TBank) (mask flags : Word) : TEffect := { bank := b, results := [(1, .flags mask flags)] }

/-- An ALU result with Z and N. -/
def aluZN (b : TBank) (rd : BitVec 5) (res : Word) : TEffect := aluEff b rd res maskZN (znCV res false false)

/-- A sum or difference with Z N C V. -/
def aluCV (b : TBank) (rd : BitVec 5) (r : Word × Bool × Bool) : TEffect :=
  aluEff b rd r.1 maskZNCV (znCV r.1 r.2.1 r.2.2)

/-- A saturating result of an exact value with Z N V. -/
def aluSat (b : TBank) (rd : BitVec 5) (x : Int) : TEffect :=
  aluEff b rd (satWord x) maskZNV (znCV (satWord x) false (sats32 x))

/-- Shifts by a count (R188). -/
def shlBy (w : Word) (n : Nat) : Word := if 32 ≤ n then 0 else w <<< n
def shrBy (w : Word) (n : Nat) : Word := if 32 ≤ n then 0 else w >>> n
def asrBy (w : Word) (n : Nat) : Word := w.sshiftRight n

/-- Sign- and zero-extended immediates. -/
def sext16 (i : BitVec 16) : Word := i.signExtend 32
def zext16 (i : BitVec 16) : Word := i.setWidth 32

/-- The access address of [Pi]+ and of [Pi + off]. -/
def postAddr (b : TBank) (p : BitVec 3) : Nat := accessAddr (b.pr p.toNat) 0
def offAddr (b : TBank) (p : BitVec 3) (off : BitVec 16) : Nat := accessAddr (b.pr p.toNat) off.toInt

/-- The four addresses of LDQ and STQ: bits [3:2] are ignored too. -/
def quadAddrs (b : TBank) (p : BitVec 3) : List Nat :=
  let a := postAddr b p / 16 * 16
  [a, a + 4, a + 8, a + 12]

/-- A product of two D registers, with sign (R195, R196). -/
def prodOf (neg : Bool) (x y : Word) : Int := if neg then -(x.toInt * y.toInt) else x.toInt * y.toInt

/-- One MAC-family effect. -/
def macEff (b : TBank) (clr neg : Bool) (aa : BitVec 3) (dx dy : BitVec 5) : TEffect :=
  { bank := b, results := [(3, .addend aa.toNat (prodOf neg (b.reg dx) (b.reg dy)) clr true none)] }

/-- QMAC: four products into four accumulators (R197). -/
def qmacEff (b : TBank) (aa : BitVec 3) (dx dy : BitVec 5) (bc clr neg : Bool) : TEffect :=
  { bank := b, results := (List.range 4).map (fun i =>
      let y := if bc then b.dr dy.toNat else b.dr (dy.toNat + i)
      (3, .addend (aa.toNat + i) (prodOf neg (b.dr (dx.toNat + i)) y) clr (i == 0) none)) }

/-- Extraction of an accumulator by `sh` fraction bits (R200). -/
def extEff (b : TBank) (rd : BitVec 5) (aa : BitVec 3) (sh : Nat) (sat : Bool) : TEffect :=
  let q := narrowRound (b.ar aa.toNat).toInt sh
  let res : Word := BitVec.ofInt 32 (if sat then sat32 q else q)
  { bank := b, results := (2, .d rd.toNat res) ::
      (if sat && sats32 q then [(2, .flags 0x200 0x200)] else []) }

/-- Whether that extraction saturates. -/
def extSats (b : TBank) (aa : BitVec 3) (sh : Nat) (sat : Bool) : Bool :=
  sat && sats32 (narrowRound (b.ar aa.toNat).toInt sh)

/-- Write P, M or L (R191). -/
def wrpBank (b : TBank) (kind p : Nat) (w : Word) : TBank :=
  match kind with
  | 0 => b.setP p w
  | 1 => { b with m := Tbl.set b.m p w 0 }
  | _ => { b with l := Tbl.set b.l p (w &&& 0x1FFFC) 0 }

/-- Read P, M or L. -/
def rdpWord (b : TBank) (kind p : Nat) : Word :=
  match kind with
  | 0 => b.pr p
  | 1 => b.mr p
  | _ => Word.ofNat (b.lr p)

end Sys2Proof.Machine
end

