-- ==== Sys2Proof/Machine/TallyCtl.lean ====
section
/-!
DEFINITION. The control instructions of the Tally cores (R192 to R194, R165, R171) and the commands that are events of
a core: dispatch, fence, interrupts, START and STOP, the clears and the image writes (R164 to R183).
-/

namespace Sys2Proof.Machine

open Sys2Proof

/-- B: two delay slots either way (R163, R192). -/
def execB (core : Fin 64) (cond : BitVec 4) (target : BitVec 13) (s : State) : Res :=
  if (Instr.b core cond target).wf then
    .next (runCtl core (fun _ => false) (fun c =>
      let b := c.bank c.inShadow
      { bank := b, goto := .jump (if condHolds cond.toNat b.st then target.toNat else (c.pc + 3) % 8192) false }) s)
  else .next (runUndefined core s)

/-- CALL: D31 takes the address of its own word + 3 (R192). -/
def execCall (core : Fin 64) (target : BitVec 13) (s : State) : Res :=
  .next (runCtl core (fun _ => false) (fun c =>
    { bank := c.bank c.inShadow, results := [(1, .d 31 (Word.ofNat ((c.pc + 3) % 8192)))],
      goto := .jump target.toNat false }) s)

/-- RET: to D31[12:0] (R192). -/
def execRet (core : Fin 64) (s : State) : Res :=
  .next (runCtl core (fun _ => false) (fun c =>
    { bank := c.bank c.inShadow, goto := .jump (((c.bank c.inShadow).dr 31).fld 0 13) false }) s)

/-- The pass count of REP. -/
def repCount (b : TBank) (fromReg : Bool) (count : BitVec 16) : Nat :=
  if fromReg then (b.dr (count.toNat % 32)).fld 0 16 else count.toNat

/-- REP (R193): a body that passes word 8191 is an illegal sequence. -/
def execRep (core : Fin 64) (fromReg : Bool) (len : BitVec 7) (count : BitVec 16) (s : State) : Res :=
  if (Instr.rep core fromReg len count).wf then
    .next (runCtl core (fun c => decide (8191 < c.pc + len.toNat)) (fun c =>
      let b := c.bank c.inShadow
      let n := repCount b fromReg count
      if n = 0 then { bank := b, goto := .skip len.toNat }
      else { bank := { b with loopN := n, loopLo := pcNext c.pc, loopHi := c.pc + len.toNat } }) s)
  else .next (runUndefined core s)

/-- RTI: an illegal sequence in the main bank (R165). -/
def execRti (core : Fin 64) (s : State) : Res :=
  .next (runCtl core (fun c => !c.inShadow) (fun c => { bank := c.bank c.inShadow, goto := .jump 0 true }) s)

/-- TEND: the task ends when every result in flight has retired (R171); its wait counts toward the fence. -/
def execTend (core : Fin 64) (s : State) : Res :=
  .next (if canIssue core s then
    let t := fetched core s
    let c := t.core core
    if illegalPlace c || c.inShadow then instrFault core 2 t
    else
      let last := c.flight.foldl (fun n f => max n f.due) (c.cyc + 1)
      let c1 := (c.retireAll).ticks (last - c.cyc)
      let u := t.setCore core { c1 with pc := pcNext c1.pc }
      if s.wcyc core c.task < c1.taskCyc then instrFault core 1 u else endTask core true u
  else s)

/-- UNDEFINED_INSTRUCTION: a word that decodes to nothing faults with cause 4 (R186). -/
def execUndefinedInstruction (core : Fin 64) (word : Word) (s : State) : Res :=
  .next (onlyIf (tallyDecode core word).isNone s (runUndefined core s))

/-- FENCE_EXPIRY: the task ends with cause 1; a handler it has taken ends at once, IEN unchanged (R172, R574). -/
def execFenceExpiry (core : Fin 64) (s : State) : Res :=
  .next (if fenceDue core s then
    let t := recordFault core 1 false s
    let t := if (t.core core).inShadow then leaveHandler core false t else t
    endTask core false t
  else s)

/-- DOORBELL_RING: source 0 becomes pending (R164). -/
def execDoorbellRing (core : Fin 64) (s : State) : Res := .next (s.tallyIrq core 0)

/-- CYCLE_MARK: the task's cycle count has reached TLY_MARK (R164). -/
def execCycleMark (core : Fin 64) (s : State) : Res :=
  let c := s.core core
  let m := s.fldN (tlyReg core 0x14) 0 19
  .next (if m ≠ 0 ∧ (c.st = .run ∨ (c.st = .handler ∧ c.back = .run)) ∧ m ≤ c.taskCyc ∧ ¬ c.marked then
    (s.setCore core { c with marked := true }).tallyIrq core 3
  else s)

/-- INTERRUPT_ENTRY: one cycle, in which IRET is saved, the source's bit clears and the bank switches (R164). -/
def execInterruptEntry (core : Fin 64) (s : State) : Res :=
  .next (match irqDue core s with
  | none => s
  | some src =>
    if fenceDue core s then s
    else
      let c := s.core core
      let c1 := c.ticks 1
      s.setCore core { c1 with
        iret := c.pc, pend := c.pend &&& (15 - 2 ^ src), back := c.st, st := .handler, handCyc := 0,
        pc := s.fldN (tlyReg core 8) 0 13 })

/-- HANDLER_FORCED_EXIT: TLY_IRQMAX cycles without RTI; cause 7, IEN cleared (R167). -/
def execHandlerForcedExit (core : Fin 64) (s : State) : Res :=
  .next (if exitDue core s then leaveHandler core true (recordFault core 7 true s) else s)

/-- START: a STOPPED core clears its banks and waits for the next release (R181). -/
def coreStart (k : Nat) (s : State) : State :=
  let c := s.core k
  if c.st == .stopped then
    s.setCore k { c with st := .waitRel, startReq := true, fresh := true, main := {}, shadow := {}, flight := [], delay := none,
                         hold := false }
  else s.setCore k { c with startReq := true }

/-- STOP takes effect at the next release (R181). -/
def coreStop (k : Nat) (s : State) : State := s.setCore k { s.core k with stopReq := true }

/-- START (R181). -/
def execStart (core : Fin 64) (s : State) : Res := .next (coreStart core s)

/-- STOP (R181). -/
def execStop (core : Fin 64) (s : State) : Res := .next (coreStop core s)

/-- Clear a fault record and re-arm event 0x0C50 (R172). -/
def tallyFaultClr (k : Nat) (s : State) : State :=
  s.setCore k { s.core k with cause := 0, faultTask := 0, faultCount := 0, faultArmed := true }

/-- Clear a drop count and re-arm event 0x0C53 (R183). -/
def tallyDropClr (k : Nat) (s : State) : State := s.setCore k { s.core k with dropCount := 0, dropArmed := true }

/-- TALLY_FAULT_CLR (R172). -/
def execTallyFaultClr (core : Fin 64) (s : State) : Res := .next (tallyFaultClr core s)

/-- TALLY_DROP_CLR (R183). -/
def execTallyDropClr (core : Fin 64) (s : State) : Res := .next (tallyDropClr core s)

/-- A dropped fabric write: counted, and event 0x0C53 for the first after a clear (R156, R183). -/
def tallyDrop (k : Nat) (s : State) : State :=
  let c := s.core k
  (s.setCore k { c with dropCount := incHold 0xFFFF c.dropCount, dropArmed := false }).raiseIf c.dropArmed 0x0C53
    (k * 2 ^ 8)

/-- A fabric write to a Tally memory, with its error response where it is dropped (R156): program space and
descriptors only while STOPPED, general data always, exchange memory never, the instance table and the parameter
blocks into NEXT. -/
def tallyMemWrite (a : Nat) (w : Word) (s : State) : State × Bool :=
  let k := (a - 0x02400000) / 0x20000
  let off := (a - 0x02400000) % 0x20000
  let stopped := (s.core k).st == .stopped
  if off < 0x8000 ∨ (0x1C000 ≤ off ∧ off < 0x1C200) then
    (if stopped then (s.putWord a w, false) else (tallyDrop k s, true))
  else if off < 0x18000 then (s.putWord a w, false)
  else if off < 0x1C000 then (tallyDrop k s, true)
  else
    -- word 0 of an instance entry keeps its read-only RESET bit 0 in NEXT (R169)
    let w := if off < 0x1C400 ∧ off % 8 = 0 then w.setBit 30 false else w
    (s.setNxt (keyTly a) w, false)

/-- An address the image of core `k` may hold: program words, general data, descriptors (R180). -/
def imagePlace (k a : Nat) : Bool :=
  decide (coreBase k ≤ a ∧ a < coreBase k + 0x18000) ||
    decide (coreAddr k 0x14000 ≤ a ∧ a < coreAddr k 0x14200)

/-- Every task the image enables declares its delay; Zekor rejects an image that does not (R227). -/
def TallyImage.declares (x : TallyImage) (k : Nat) : Bool :=
  (List.range 16).all (fun t => (x.delays.any (fun d => d.1 == t)) ||
    !x.words.any (fun w => w.1 == coreAddr k (0x14000 + 32 * t) && w.2.bit 31))

/-- Zekor's verdict on an image: OK, or FORMAT (R227). -/
def TallyImage.verdict (x : TallyImage) (k : Nat) : Nat := if x.declares k then 0 else 0x0A

/-- A fabric read of a Tally memory: NEXT for the instance table and the parameter blocks. -/
def tallyMemRead (a : Nat) (s : State) : Word :=
  if (a - 0x02400000) % 0x20000 < 0x1C200 then s.word a else s.nxt (keyTly a)

/-- CLUSTER_MARK: sent once all 16 cores of the cluster are done (R174). -/
def execClusterMark (cluster : Fin 4) (s : State) : Res :=
  .next (clusterMark cluster s)

/-- Reads of the TLY registers (R182) but TLY_NEXT_BAD. TLY_SUM shows the low 20 bits of the budget sum (log entry 105). -/
def tallyRegRead (a : Nat) (s : State) : Word :=
  if 0x10048000 ≤ a then
    let c := (a - 0x10048000) / 0x10
    if c < 4 ∧ a % 0x10 = 0 then
      (bitsW ((List.range 16).filter (fun i => (s.core (16 * c + i)).done))).setBit 31 (s.tly.marks.contains c)
    else 0
  else
    let k := (a - 0x10040000) / 0x100
    let c := s.core k
    match (a % 0x100) / 4 with
    | 0 => ((s.reg a).setBit 0 c.startReq).setBit 1 c.stopReq
    | 1 => packW [(0, match c.st with | .stopped => 0 | .waitRel => 1 | .dispatch => 2 | .run => 3 | .handler => 4),
        (4, s.taskNow k), (8, c.pend),
        (12, bitOf c.done)]
    | 3 => Word.ofNat (c.pend % 2)
    | 7 => packW [(0, c.cause), (3, bitOf c.faultIrq), (4, c.faultTask), (16, c.faultCount)]
    | 8 => Word.ofNat (c.lastCyc % 2 ^ 19)
    | 9 => Word.ofNat (s.budgetSum k % 2 ^ 20)
    | 10 => Word.ofNat c.dropCount
    | _ => s.reg a

/-- Writes of the TLY registers: STOP wins over START in one write (R181). -/
def tallyRegWrite (a : Nat) (v : Word) (s : State) : State :=
  if 0x10048000 ≤ a then s
  else
    let k := (a - 0x10040000) / 0x100
    match (a % 0x100) / 4 with
    | 0 =>
      let t := s.writeRW a v
      if v.bit 1 then coreStop k t else if v.bit 0 then coreStart k t else t
    | 3 => if v.bit 0 then s.tallyIrq k 0 else s
    | 7 => if v.bit 31 then tallyFaultClr k s else s
    | 10 => if v.bit 31 then tallyDropClr k s else s
    | _ => s.writeRW a v

end Sys2Proof.Machine
end

