-- ==== Sys2Proof/Machine/MemBus.lean ====
section
/-!
DEFINITION. The fabric's memory targets (R518, R523, R537 to R539): reads and writes of a 32-bit word by an initiator,
with error responses, ECC and the byte-lane rotate mode.
-/

namespace Sys2Proof.Machine

open Sys2Proof

/-- DRAM that is fitted (R537). -/
def State.dramFitted (s : State) (a : Nat) : Bool :=
  match s.dramSize with
  | 1 => decide (0x40000000 ≤ a ∧ a < 0x80000000)
  | 2 => decide (0x40000000 ≤ a ∧ a < 0xC0000000)
  | _ => decide (0x60000000 ≤ a ∧ a < 0x80000000)

/-- The memory target that decodes an address; none where no memory target does. -/
inductive MemTarget where
  | pages
  | tally
  | shared
  | dram
  | flash
  | escrow
  deriving DecidableEq, Repr

def memTarget (a : Nat) : Option MemTarget :=
  if a < 0x02200000 then some .pages
  else if 0x02400000 ≤ a ∧ a < 0x02C00000 then some .tally
  else if 0x03000000 ≤ a ∧ a < 0x03800000 then some .shared
  else if 0x40000000 ≤ a ∧ a < 0xC0000000 then some .dram
  else if 0xC0000000 ≤ a ∧ a < 0xD0000000 then some .flash
  else if 0xD0000000 ≤ a ∧ a < 0xD4000000 then some .escrow
  else none

/-- The places by which R518 rotates an access. -/
def State.rotOf (s : State) (i : Init) (a : Nat) : Nat :=
  if s.bitN 0x10130000 0 && decide (i.val ≤ 1) && inBanks a then a % 4 else 0

def rotr8 (w : Word) (k : Nat) : Word := w.rotateRight (8 * k)
def rotl8 (w : Word) (k : Nat) : Word := w.rotateLeft (8 * k)

/-- The data a write of a word stores in the aligned word at its address (R518). -/
def State.lanes (s : State) (i : Init) (a : Nat) (v : Word) : Word := rotl8 v (s.rotOf i a)

/-- PAGE_WRITE (R94): a fabric write to the Abacus pages. -/
def execPageWrite (init : Init) (addr val : Word) (s : State) : Res :=
  let a := addr.toNat / 4 * 4
  .next (onlyIf (decide (a < 0x02200000)) s (pageWrite a (s.lanes init addr.toNat val) s).1)

/-- TALLY_IMAGE_WRITE: a fabric write to a core's program space or descriptors (R156, R180). -/
def execTallyImageWrite (init : Init) (addr val : Word) (s : State) : Res :=
  let a := addr.toNat / 4 * 4
  let off := (a - 0x02400000) % 0x20000
  .next (onlyIf (decide (0x02400000 ≤ a ∧ a < 0x02C00000 ∧ (off < 0x8000 ∨ (0x1C000 ≤ off ∧ off < 0x1C200)))) s
    (tallyMemWrite a (s.lanes init addr.toNat val) s).1)

/-- NEXT_WRITE (R122): a write of a NEXT parameter. -/
def execNextWrite (init : Init) (addr val : Word) (s : State) : Res :=
  .next (nextWrite init (addr.toNat / 4 * 4) (s.lanes init addr.toNat val) s)

/-- What a bus access answers: the word read, whether the response is an error, and the state after it. -/
structure BusAns where
  word : Word
  err : Bool
  st : State

/-- A read that ends in an error response returns 0. -/
def busFail (s : State) : BusAns := ⟨0, true, s⟩

/-- DRAM reserved for cascade frames: 15 buffers of 800 KiB, while a port has EN = 1 or RET_N > 0 (R402). -/
def State.cscReserved (s : State) (a : Nat) : Bool :=
  decide (0x60800000 ≤ a ∧ a < 0x613B8000) &&
    (List.range 3).any (fun p => s.bitN (0x100E0100 + 0x40 * p) 0 || pfld s.live (0x100E0120 + 0x40 * p) 14 14 != 0)

/-- A read of the word at `a` from a memory target. Main flash of 256 MiB and escrow memory of 64 MiB are taken to be fitted
(log entry 89). -/
def memLoad (i : Init) (t : MemTarget) (a : Nat) (s : State) : BusAns :=
  let b := a / 4 * 4
  let ecc := fun (w : Word) =>
    if s.eccBad b then busFail (s.eccRead b) else ⟨rotr8 w (s.rotOf i a), false, s.eccSeen b⟩
  match t with
  | .pages => ecc (pageRead b s)
  | .tally => ecc (tallyMemRead b s)
  | .shared => ecc (s.word b)
  | .dram =>
    if !s.dramFitted b then busFail s
    else if s.cscReserved b then ⟨Config.cscBuffer b s.freeCtr, false, s.tickFree⟩
    else ⟨s.word b, false, s⟩
  | .flash => ⟨s.word b, false, s⟩
  | .escrow => if s.cus.escDrive then ⟨s.word b, false, s⟩ else busFail s

/-- A write of the word at `a` to a memory target. -/
def memStore (i : Init) (t : MemTarget) (a : Nat) (v : Word) (s : State) : BusAns :=
  let b := a / 4 * 4
  let w := s.lanes i a v
  match t with
  | .pages =>
    let r := pageWrite b w s
    ⟨0, r.2, r.1⟩
  | .tally =>
    if (s.paramKey i b).isSome then ⟨s.writeEpoch, false, nextWrite i b w s⟩
    else
      let r := tallyMemWrite b w s
      ⟨0, r.2, r.1⟩
  | .shared => ⟨0, false, s.putWord b w⟩
  | .dram => if s.dramFitted b then ⟨0, false, s.putWord b w⟩ else busFail s
  | .flash => busFail s
  | .escrow => if s.cus.escDrive then ⟨0, false, s.putWord b w⟩ else busFail s

/-- A register target decodes the address (R523). -/
def isRegAddr (a : Nat) : Bool := decide (0x10000000 ≤ a ∧ a < 0x10170000)

/-- A read of memory alone, as the mover reads descriptors (R528): other addresses answer with an error, which counts where no
target decodes them (R523). -/
def memOnly (i : Init) (a : Nat) (s : State) : BusAns :=
  match memTarget a with
  | some t => memLoad i t a s
  | none => busFail (if isRegAddr a then s else fabError i a false s)

/-! ## Half-word accesses of the banks (R518) -/

/-- The byte lanes a half-word access at `a` enables: two, rotated with the data. -/
def State.halfLanes (s : State) (i : Init) (a : Nat) : List Nat :=
  [s.rotOf i a, (s.rotOf i a + 1) % 4]

/-- A half-word write at `a`: the word at its aligned address with the enabled lanes replaced. -/
def State.halfStore (s : State) (i : Init) (a : Nat) (v : Word) : Word :=
  let old := s.word (a / 4 * 4)
  let new := s.lanes i a v
  let lane := fun (k : Nat) => wordByte (if (s.halfLanes i a).contains k then new else old) k
  word4 (lane 0) (lane 1) (lane 2) (lane 3)

/-- A half-word read at `a`. -/
def State.halfLoad (s : State) (i : Init) (a : Nat) : Word := rotr8 (s.word (a / 4 * 4)) (s.rotOf i a) &&& 0xFFFF

end Sys2Proof.Machine
end

