-- ==== Sys2Proof/Machine/Mover.lean ====
section
/-!
DEFINITION. The mover's channels (R527 to R532): descriptors, chains, pause, abort and the append doorbell.
-/

namespace Sys2Proof.Machine

open Sys2Proof

/-- The mover's initiator number (R523). -/
def moverInit : Init := 1

def dmaReg (c off : Nat) : Nat := 0x10120100 + 0x20 * c + off

def State.dma (s : State) (c : Nat) : DmaCh := Tbl.getD s.mover.chans c {}
def State.setDma (s : State) (c : Nat) (x : DmaCh) : State :=
  { s with mover := { s.mover with chans := Tbl.set s.mover.chans c x {} } }

/-- Set a channel's DMA_IRQ bit. -/
def dmaIrq (c : Nat) (s : State) : State :=
  { s with mover := { s.mover with irq := s.mover.irq ||| Word.ofNat (2 ^ c) } }

def State.dmaPause (s : State) (c : Nat) : Bool := s.bitN (dmaReg c 4) 1

/-- The channel no longer runs. -/
def dmaYield (c : Nat) (s : State) : State :=
  if s.mover.cur = some c then { s with mover := { s.mover with cur := none } } else s

/-- The channel ends in ERROR (R528, R530). -/
def dmaFail (c code : Nat) (s : State) : State :=
  let t := s.setDma c { s.dma c with st := .error, code := code, loaded := false, linkPending := false, aborting := false }
  (dmaIrq c (dmaYield c t)).raise 0x0806 c

/-- A ready channel: ACTIVE and not paused (R527). -/
def State.dmaReady (s : State) (c : Nat) : Bool := (s.dma c).st == .active && !s.dmaPause c

/-- Words 0 to 7 of a descriptor, and whether every read answered. -/
def dmaFetch (a : Nat) : Nat → State → List Word × Bool × State
  | 0, s => ([], true, s)
  | n + 1, s =>
    let r := memOnly moverInit (a + 4 * (7 - n)) s
    let q := dmaFetch a n r.st
    (r.word :: q.1, !r.err && q.2.1, q.2.2)

/-- A descriptor that R528 refuses. -/
def badDesc (ws : List Word) : Bool :=
  let w := fun k => ws.getD k 0
  let len := (w 2).fld 0 23
  decide (len = 0 ∨ len % 4 ≠ 0 ∨ 4194304 < len) || (w 2).fld 23 9 != 0 || (w 3).fld 12 20 != 0 || w 6 != 0 || w 7 != 0 ||
    (w 4).fld 0 5 != 0

/-- Load the descriptor at LAST (R528). -/
def dmaLoad (c : Nat) (s : State) : State :=
  let x := s.dma c
  let q := dmaFetch x.last.toNat 8 s
  let ws := q.1
  let t := q.2.2
  if !q.2.1 then dmaFail c 2 t
  else if badDesc ws then dmaFail c 1 t
  else
    { t with mover := { t.mover with cur := some c } }.setDma c
      { x with src := ws.getD 0 0, dst := ws.getD 1 0, remain := (ws.getD 2 0).fld 0 23, ctl := ws.getD 3 0, loaded := true }

/-- Where no descriptor runs, the mover starts that of the lowest ready channel (R527). -/
def dmaServe : Nat → State → State
  | 0, s => s
  | n + 1, s =>
    match s.mover.cur, (List.range 32).find? s.dmaReady with
    | none, some c =>
      if (s.dma c).loaded then { s with mover := { s.mover with cur := some c } } else dmaServe n (dmaLoad c s)
    | _, _ => s

/-- The mover goes on: of channels whose descriptors end in ERROR at once there are at most 32. -/
def dmaSettle (s : State) : State := dmaServe 33 s

/-- START: ignored unless IDLE, DONE or ERROR. -/
def dmaStart (c : Nat) (s : State) : State :=
  let x := s.dma c
  if x.st = .active then s
  else s.setDma c { x with st := .active, code := 0, last := s.reg (dmaReg c 0), loaded := false, linkPending := false,
                           aborting := false, paused := s.dmaPause c }

/-- The LINK of the last descriptor is read: the next descriptor, or the end of the chain; the doorbell makes it read
once more (R532). -/
def dmaLink (c : Nat) (s : State) : State :=
  let x := s.dma c
  let follow := fun (l : Word) (t : State) =>
    if l.fld 0 5 ≠ 0 then dmaFail c 1 t
    else t.setDma c { t.dma c with st := .active, last := l, loaded := false, linkPending := false }
  let stop := fun (t : State) => t.setDma c { t.dma c with st := .done, loaded := false, linkPending := false }
  let r := memOnly moverInit (x.last.toNat + 16) s
  if r.err then dmaFail c 2 r.st
  else if r.word ≠ 0 then follow r.word r.st
  else if x.db = x.cons then stop r.st
  else
    let t := r.st.setDma c { r.st.dma c with cons := x.db }
    let q := memOnly moverInit (x.last.toNat + 16) t
    if q.err then dmaFail c 2 q.st else if q.word ≠ 0 then follow q.word q.st else stop q.st

/-- APPEND rings the doorbell; in DONE the LINK is read again (R532). -/
def dmaAppend (c : Nat) (s : State) : State :=
  let x := s.dma c
  let t := s.setDma c { x with db := (x.db + 1) % 65536 }
  if x.st = .done then dmaLink c t else t

/-- PAUSE = 0 makes the channel ready again; a chain that waited for its LINK goes on (R531). -/
def dmaUnpause (c : Nat) (s : State) : State :=
  let x := s.dma c
  let t := s.setDma c { x with paused := false }
  if x.st = .active ∧ x.linkPending then dmaLink c t else t

/-- ABORT: an ACTIVE channel drains and then ends; one with nothing in flight ends at once (R531). -/
def dmaAbort (c : Nat) (s : State) : State :=
  let x := s.dma c
  if x.st ≠ .active then s
  else if s.mover.cur = some c ∧ x.loaded then s.setDma c { x with aborting := true }
  else dmaIrq c (s.setDma c { x with st := .idle, code := 3, loaded := false, linkPending := false, aborting := false })

/-- PAUSE is written. -/
def dmaPauseWrite (c : Nat) (b : Bool) (s : State) : State :=
  let was := s.dmaPause c
  let t := s.setFldN (dmaReg c 4) 1 1 (bitOf b)
  if b then
    (if s.mover.cur = some c ∧ (s.dma c).loaded then t else t.setDma c { t.dma c with paused := true })
  else if was then dmaUnpause c t else t

/-- A write of DMA_CHc_CTL: PAUSE, ABORT, START and APPEND in that order. -/
def dmaCtlWrite (c : Nat) (v : Word) (s : State) : State :=
  let t := dmaPauseWrite c (v.bit 1) s
  let t := if v.bit 2 then dmaAbort c t else t
  let t := if v.bit 0 then dmaStart c t else t
  dmaSettle (if v.bit 3 then dmaAppend c t else t)

/-- DMA_START, DMA_PAUSE, DMA_ABORT, DMA_APPEND (R527, R531, R532). -/
def execDmaStart (c : Fin 32) (s : State) : Res := .next (dmaSettle (dmaStart c s))
def execDmaPause (c : Fin 32) (on : Bool) (s : State) : Res := .next (dmaSettle (dmaPauseWrite c on s))
def execDmaAbort (c : Fin 32) (s : State) : Res := .next (dmaSettle (dmaAbort c s))
def execDmaAppend (c : Fin 32) (s : State) : Res := .next (dmaSettle (dmaAppend c s))

/-! ## DMA registers -/

def DmaState.code : DmaState → Nat
  | .idle => 0
  | .active => 1
  | .done => 2
  | .error => 3

def dmaRead (a : Nat) (s : State) : Word :=
  if a = 0x10120000 then packW [(0, s.mover.cur.getD 0), (5, bitOf s.mover.cur.isSome)]
  else if a = 0x10120004 then s.mover.irq
  else if a < 0x10120100 then s.reg a
  else
    let c := (a - 0x10120100) / 0x20
    let x := s.dma c
    match a % 0x20 with
    | 0x04 => (s.reg a).setBit 2 x.aborting
    | 0x08 => packW [(0, x.st.code), (2, bitOf x.paused), (3, x.code)]
    | 0x0C => x.src
    | 0x10 => x.dst
    | 0x14 => Word.ofNat x.remain
    | 0x18 => x.last
    | 0x1C => packW [(0, x.db), (16, x.cons)]
    | _ => s.reg a

def dmaWrite (a : Nat) (v : Word) (s : State) : State :=
  if a = 0x10120004 then { s with mover := { s.mover with irq := s.mover.irq &&& ~~~v } }
  else if a < 0x10120100 then s.writeRW a v
  else
    let c := (a - 0x10120100) / 0x20
    match a % 0x20 with
    | 0 => if (s.dma c).st = .active then s else s.writeRW a v
    | 4 => if c < 32 then dmaCtlWrite c v s else s
    | _ => s

end Sys2Proof.Machine
end

