-- ==== Sys2Proof/Machine/Journal.lean ====
section
/-!
DEFINITION. The audit record and escrow's journal and checkpoints (R421, R423, R449 to R452).
-/

namespace Sys2Proof.Machine

open Sys2Proof

/-! ## CRC-32 of IEEE 802.3 (R449) -/

def crcBits : Nat → Word → Word
  | 0, c => c
  | n + 1, c => crcBits n (if c.bit 0 then (c >>> 1) ^^^ 0xEDB88320 else c >>> 1)

def crcByte (c : Word) (b : Byte) : Word := crcBits 8 (c ^^^ b.zeroExtend 32)

/-- The CRC of words taken over bytes least significant first. -/
def crc32 (ws : List Word) : Word :=
  ~~~ (ws.foldl (fun c w => (List.range 4).foldl (fun c j => crcByte c (wordByte w j)) c) 0xFFFFFFFF)

/-! ## Entries -/

/-- A time of TB0 as seconds, 48 bits in two words, and nanoseconds. -/
def timeWords (tb : Nat) : List Word :=
  let ns := tb / 2 ^ 40
  [Word.ofNat (ns / 1000000000), Word.ofNat (ns / 1000000000 / 2 ^ 32 % 65536), Word.ofNat (ns % 1000000000)]

/-- Words 0 to 11 of an entry. -/
def auditWords (a : Audit) : List Word :=
  let body := [packW [(0, a.kind), (8, a.source), (12, a.node), (18, a.args.length)], Word.ofNat a.seq,
    packW [(0, a.op / 256), (8, a.op % 256), (16, a.status)], a.reqSeq, Word.ofNat a.sctr, Word.ofNat (a.sctr / 2 ^ 32)] ++ timeWords a.tb ++ [a.argCrc, a.ip]
  body ++ [crc32 body]

/-- Bytes an entry takes in the ring. -/
def auditBytes (a : Audit) : Nat := 48 + 4 * a.args.length

def State.withEsc (s : State) (e : Escrow) : State := { s with esc := e }

/-- The escrow port accepts a journal write. -/
def State.escTakes (s : State) : Bool := s.cus.own == 2 && s.cus.escDrive

/-- Whether a byte address is an Abacus page. -/
def isPageAddr (a : Nat) : Bool := decide (a < 0x02200000)

/-- A table without what REG WRITE changed and nothing has overwritten since (R491). -/
def withoutMaint {α : Type} [DecidableEq α] (default : Nat → α) (ws : List (Nat × α × α)) (t : Tbl α) : Tbl α :=
  ws.foldl (fun t w => if Tbl.getD t w.1 (default w.1) = w.2.2 then Tbl.set t w.1 w.2.1 (default w.1) else t) t

/-- What the checkpoints and the journal now determine. -/
def escSync (s : State) : State :=
  if s.escTakes then
    let z : Snapshot :=
      { live := withoutMaint paramReset s.zk.maintNext s.live, next := withoutMaint paramReset s.zk.maintNext s.next,
        marks := s.marks, regs := withoutMaint regReset s.zk.maintRegs s.regs, 
        pages := withoutMaint (fun _ => 0) s.zk.maintMem (s.mem.filter (fun e => isPageAddr e.1)),
        ramps := s.engine.ramps, ins := s.engine.ins, ous := s.engine.ous, mainLive := s.engine.abx.mainLive, amdLive := s.engine.abx.amdLive,
        chkKind := s.engine.abx.chkKind, accepted := s.engine.abx.accepted, 
        cmt := match s.zk.maintCmt with
          | some w => if s.engine.cmt = w.2 then w.1 else s.engine.cmt
          | none => s.engine.cmt,
        trg := withoutMaint (fun _ => {}) s.zk.maintTrg s.tbs.trg, tree := s.csc.tree, zk := s.zk }
    s.withEsc { s.esc with image := some z }
  else s

/-- The audit entry of something decided now. -/
def State.entry (s : State) (kind source node op status : Nat) (reqSeq : Word) (args : List Word) (ip : Word)
    (port : Nat) : Audit :=
  { kind := kind, source := source, node := node, seq := s.esc.nextSeq, op := op, status := status, reqSeq := reqSeq,
    sctr := s.sctr, tb := (s.tb 0).val, argCrc := crc32 args, ip := ip, port := port, args := args }

/-- Entries dropped from the front while they are covered and the ring lacks room. -/
def reclaim (ring covered : Nat) : List Audit → List Audit
  | [] => []
  | a :: rest =>
    if ring < ((a :: rest).map auditBytes).sum ∧ a.seq < covered then reclaim ring covered rest else a :: rest

def journalAppend (a : Audit) (s : State) : State :=
  let e := s.esc
  s.withEsc { e with journal := e.journal ++ [a], nextSeq := e.nextSeq + 1 }

/-- Covered entries go from the front until the ring holds the rest (R451). -/
def ringFit (s : State) : State := s.withEsc { s.esc with journal := reclaim s.esc.ring s.esc.covered s.esc.journal }

/-- The checkpoint slot that is written next, the older one. -/
def Escrow.olderSlot (e : Escrow) : Nat :=
  match Tbl.find e.slots 0, Tbl.find e.slots 1 with
  | none, _ => 0
  | some _, none => 1
  | some a, some b => if a.seq ≤ b.seq then 0 else 1

/-- Seal a checkpoint in the older slot (R421): every entry so far is covered; the sealing is itself an entry. -/
def sealCheckpoint (s : State) : State :=
  if s.escTakes then
    let c := s.esc.nextSeq
    let t := s.withEsc { s.esc with covered := c, sealAt := s.sctr,
                                    slots := Tbl.put s.esc.slots s.esc.olderSlot { seq := c, scene := s.zk.sceneRef } }
    let t := journalAppend (t.entry 7 15 t.node 0 0 0 [] 0 0) t
    (escSync (ringFit t)).raise 0x090A ((c + 2 ^ 32 - 1) % 65536)
  else s

/-- Write an entry: a checkpoint is sealed before 8,192 entries lie beyond the last one, or where the oldest entry must go
and is not covered (R421, R451). -/
def journalPut (a : Audit) (s : State) : State :=
  if s.escTakes then
    let full := decide (s.esc.ring < ((s.esc.journal.map auditBytes).sum + auditBytes a))
    let covered := match s.esc.journal with | [] => true | b :: _ => decide (b.seq < s.esc.covered)
    let s := if decide (8191 ≤ s.esc.nextSeq - s.esc.covered) || (full && !covered) then sealCheckpoint s else s
    ringFit (journalAppend { a with seq := s.esc.nextSeq } s)
  else s

/-- An entry of the device itself: KIND 4 custody events, 3 ownership without a request. -/
def journalDevice (kind status : Nat) (args : List Word) (s : State) : State :=
  journalPut (s.entry kind 15 s.node 0 status 0 args 0 0) s

/-- The journal entry of a commit (R449, R450): its source is the alarm service, Reserve or the device. -/
def journalCommit (src : ChangeSrc) (status : Nat) (args : List Word) (s : State) : State :=
  let source := match src with
    | .alarm => 4
    | .reserve => 5
    | _ => 15
  journalPut (s.entry 6 source s.node 0 status 0 args 0 0) s

/-- An entry of the alarm service (R511): KIND 5, source 4. -/
def journalAlarm (args : List Word) (s : State) : State := journalPut (s.entry 5 4 s.node 0 0 0 args 0 0) s

/-- TLR_AUDIT.OLDEST. -/
def State.oldest (s : State) : Nat := match s.esc.journal with | [] => s.esc.nextSeq | a :: _ => a.seq

/-- CHECKPOINT_SEAL (R421). -/
def execCheckpointSeal (s : State) : Res := .next (sealCheckpoint s)

/-- Zekor seals at least every 10 min (R421). -/
def sealDue (s : State) : State := if s.esc.sealAt + 28800000 ≤ s.sctr then sealCheckpoint s else s

/-- The checkpoint read at a resume: the newest of those with a good CRC (R421). -/
def Escrow.newest (e : Escrow) : Option Checkpoint :=
  (e.slots.filter (fun x => x.2.good)).foldl (fun (m : Option Checkpoint) x =>
    match m with
    | none => some x.2
    | some c => if c.seq < x.2.seq then some x.2 else some c) none

/-- The newest checkpoint or an entry after it fails its CRC (R430). -/
def Escrow.bad (e : Escrow) : Bool :=
  let n := (e.newest.map (fun c => c.seq)).getD 0
  e.slots.any (fun x => !x.2.good && decide (n < x.2.seq)) || e.torn.any (fun q => decide (n ≤ q))

/-! ## Heartbeats (R421, R422) -/

/-- The eight words of a heartbeat slot, in the order in which R421 names their contents (log entry 108). -/
def beatWords (h : Heartbeat) : List Word :=
  let body := [Word.ofNat h.sctr, Word.ofNat (h.sctr / 2 ^ 32)] ++ timeWords h.tb ++ [h.per, Word.ofNat h.seq]
  body ++ [crc32 body]

/-- A heartbeat write whose CRC is good. -/
def beatGood (ws : List Word) : Bool := ws.length == 8 && ws.getD 7 0 == crc32 (ws.take 7)

/-- A standby's escrow check passes: among the writes that it has snooped are two consecutive ones with good CRCs. -/
def snoopOk (writes : List (List Word)) : Bool :=
  (writes.zip (writes.drop 1)).any (fun p => beatGood p.1 && beatGood p.2 && p.2.getD 6 0 == p.1.getD 6 0 + 1)

/-- The heartbeat of a boundary (R421). -/
def heartbeat (s : State) : State :=
  if s.escTakes then
    let e := s.esc
    let k := s.sctr / 24 % 64
    let h : Heartbeat := ⟨s.sctr, s.tbs.epochTb, s.tbs.epochPer, e.hbSeq⟩
    (s.putWords (0xD0001400 + 32 * k) (beatWords h)).withEsc { e with heart := Tbl.put e.heart k h, hbSeq := e.hbSeq + 1 }
  else s

/-- The newest heartbeat, the one with the highest sequence, and its SCTR. -/
def State.lastBeat (s : State) : Option Heartbeat :=
  s.esc.heart.foldl (fun (m : Option Heartbeat) e =>
    match m with
    | none => some e.2
    | some h => if h.seq < e.2.seq then some e.2 else some h) none
def State.newestBeat (s : State) : Option Nat := s.lastBeat.map (fun h => h.sctr)

end Sys2Proof.Machine
end

