-- ==== Sys2Proof/Machine/Cascade.lean ====
section
/-!
DEFINITION. Serial lanes and the cascade (R389 to R416): lane lock, port states, frames sent and received, topology,
transit, local return, the message channel and the tree commit's words on the links.
-/

namespace Sys2Proof.Machine

open Sys2Proof

def State.withCsc (s : State) (x : Cascade) : State := { s with csc := x }
def State.lane (s : State) (n : Nat) : Lane := Tbl.getD s.csc.lane n {}
def State.setLane (s : State) (n : Nat) (x : Lane) : State := s.withCsc { s.csc with lane := Tbl.set s.csc.lane n x {} }
def State.cp (s : State) (p : Nat) : CscPort := Tbl.getD s.csc.port p {}
def State.setCp (s : State) (p : Nat) (x : CscPort) : State := s.withCsc { s.csc with port := Tbl.set s.csc.port p x {} }

/-- Registers of port `p`. -/
def cpReg (p off : Nat) : Nat := 0x100E0100 + 0x40 * p + off

/-- ROLE: 1 manager, 2 worker, 0 and 3 no cascade (R405). -/
def State.cscRole (s : State) : Nat := if s.fldN 0x100E0000 0 2 = 3 then 0 else s.fldN 0x100E0000 0 2

def State.cpLedger (s : State) (p : Nat) : Nat := s.ledger 0x10 p

/-- A worker's CP0 faces upstream, every other port downstream (R405). -/
def State.cpUp (s : State) (p : Nat) : Bool := s.cscRole == 2 && p == 0

def State.cpIsUp (s : State) (p : Nat) : Bool := (s.cp p).st == 3

/-- This node's depth (R405). -/
def State.depth (s : State) : Nat := if s.cscRole = 2 then ((s.cp 0).peerDepth + 1) % 8 else 0

/-- ROLE and NODE that R405 refuses. -/
def State.roleBad (s : State) : Bool :=
  let n := s.node
  n == 63 || (s.cscRole == 1 && n != 0)

/-- Downstream ports that are UP. -/
def State.downUp (s : State) : List Nat := (List.range 3).filter (fun p => s.cpIsUp p && !s.cpUp p)

/-- The node's own set, and its SUBDEPTH (R406). -/
def State.ownMap (s : State) : Nat :=
  if s.cscRole = 0 then 0 else s.downUp.foldl (fun m p => m ||| (s.cp p).rxMap) (2 ^ s.node)
def State.subDepth (s : State) : Nat := s.downUp.foldl (fun m p => max m (s.cp p).sub) s.depth

/-! ## Ownership on the tree (R445) -/

/-- The owner word, laid out as TLR_OWN (R477). -/
def ownerWord (o : Owner) : Word :=
  packW [(0, bitOf o.owned), (1, o.win), (4, o.node), (10, bitOf o.maint), (11, bitOf o.offer.isSome),
    (12, (o.offer.map (fun p => p.1)).getD 0), (15, (o.offer.map (fun p => p.2)).getD 0)]

/-- The message that gives every node the owner record. -/
def ownerMsg (o : Owner) : CscMsg := .owner (ownerWord o) o.ip o.port

/-! ## Port states (R403, R404) -/

/-- The lanes of a port allow ALIGNED: one profile, locks, distinct numbers, equal SEQ in the last whole round of markers,
at most 64 ns of skew (R390, R394). -/
def State.lanesGood (s : State) (p : Nat) : Bool :=
  let ls := (List.range 4).map (fun i => s.lane (4 * p + i))
  ls.all (fun l => l.lock && l.marker && decide (l.skew ≤ 640)) &&
    (List.range 4).all (fun k => ls.any (fun l => l.logical == k)) &&
    (s.cp p).seqOk &&
    (List.range 4).all (fun i => s.bitN (0x100D0000 + 0x40 * (4 * p + i)) 0 == s.bitN (0x100D0000 + 0x40 * (4 * p)) 0)

/-- A port leaves UP: its maps are held (R407), its inbound channels are lost, and slot 5 loses its reference. -/
def cpDown (p : Nat) (s : State) : State :=
  if s.cpIsUp p then
    let t := s.setCp p { s.cp p with rxMap := 0, sub := 0, missRun := 0, okRun := 0, clearRun := 0 }
    slotsCheck (t.raise 0x0602 (s.cpLedger p))
  else s

/-- Enter a state other than UP. -/
def cpEnter (p st : Nat) (s : State) : State :=
  let t := cpDown p s
  slotsCheck (t.setCp p { t.cp p with st := st, okRun := 0, clearRun := 0, missRun := 0,
                                      reason := if st = 4 then (t.cp p).reason else 0
                                      seqOk := (t.cp p).seqOk && decide (2 ≤ st) })

/-- The transitions between OFF, TRAINING and ALIGNED that the registers and lanes call for now (R403, R405). -/
def cpUpdate (p : Nat) (s : State) : State :=
  let st := (s.cp p).st
  if !s.bitN (cpReg p 0) 0 || s.cscRole == 0 || s.csc.cfgErr then (if st = 0 then s else cpEnter p 0 s)
  else
    let s := if st = 0 then cpEnter p 1 s else s
    let st := (s.cp p).st
    if st = 1 then (if s.lanesGood p then cpEnter p 2 s else s)
    else if s.lanesGood p then s
    else cpEnter p 1 (s.raise 0x0603 (s.cpLedger p))

/-- The REASON for which a frame's sender is refused; 0: none (R404). -/
def State.refusal (s : State) (p : Nat) (f : CascadeFrame) : Nat :=
  let others := (List.range 3).filter (fun q => q != p)
  if f.up == s.cpUp p then 1
  else if f.map.testBit s.node || others.any (fun q => (s.cp q).map &&& f.map != 0) then 2
  else if s.cpUp p && decide (5 < f.depth + 1) then 3
  else if f.version ≠ 1 then 4
  else 0

/-- Node numbers in a set. -/
def nodesOf (m : Nat) : List Nat := (List.range 64).filter (fun k => m.testBit k)

/-- A port that is UP takes the partner's MAP and SUBDEPTH: bits that appear raise 0x0606; bits that leave stay shown
until the hold ends (R406, R407). -/
def cpMap (p : Nat) (f : CascadeFrame) (s : State) : State :=
  if s.cpUp p then s
  else
    let x := s.cp p
    let t := s.setCp p { x with rxMap := f.map, sub := f.sub, map := x.map ||| f.map }
    ((nodesOf f.map).filter (fun k => !x.map.testBit k)).foldl (fun u k => u.raise 0x0606 k) t

/-- A port enters UP (R403); it is no longer expected to answer for a TAG in PREPARE (R411). The subtree that joins learns the
owner (R445). -/
def cpEnterUp (p : Nat) (f : CascadeFrame) (s : State) : State :=
  let x := s.cp p
  let t := (s.setCp p { x with
    st := 3, reason := 0, missRun := 0
    expected := x.expected && !(s.csc.tree.phase == 1 && x.ans == 0) }).raise 0x0601 (s.cpLedger p)
  let t := cpMap p f (if s.cpUp p then t.withCsc { t.csc with cp0Up := true } else t)
  if s.cpUp p then t else t.setCp p { t.cp p with out := (t.cp p).out ++ [ownerMsg t.zk.owner] }

/-- What an accepted frame does to the port's state. -/
def cpAccepted (p : Nat) (f : CascadeFrame) (s : State) : State :=
  let x := s.cp p
  let why := s.refusal p f
  let x := { x with missRun := 0, okRun := x.okRun + 1, clearRun := if why = 0 then x.clearRun + 1 else 0,
                    peer := f.node, peerDepth := f.depth, peerN := f.n }
  let t := s.setCp p x
  if x.st = 2 then
    (if x.okRun < 2 ∨ (s.cscRole = 2 ∧ p ≠ 0 ∧ ¬ s.csc.cp0Up) then t
     else if why = 0 then cpEnterUp p f t
     else (t.setCp p { x with st := 4, reason := why }).raise 0x0605 (s.cpLedger p))
  else if x.st = 4 then (if 2 ≤ x.clearRun then cpEnterUp p f t else t.setCp p { x with reason := if why = 0 then x.reason else why })
  else if x.st = 3 then cpMap p f t
  else t

/-! ## Lanes (R391 to R394) -/

/-- A 64-bit word of fields. -/
def pack64 (fs : List (Nat × Nat)) : BitVec 64 := fs.foldl (fun w f => w ||| BitVec.ofNat 64 (f.2 * 2 ^ f.1)) 0

/-- A block: whether it is a control block, and its 64 bits. -/
structure Block66 where
  ctl : Bool
  bits : BitVec 64
  deriving DecidableEq, Repr

/-- The sync header. -/
def Block66.sync (b : Block66) : BitVec 2 := if b.ctl then 0b10 else 0b01

/-- A header or a type that counts as a sync error. -/
def syncError (hdr : BitVec 2) (bits : BitVec 64) : Bool :=
  hdr == 0 || hdr == 3 || (hdr == 2 && !([0xC5, 0xE1, 0xA7, 0x33].contains (bits.toNat % 256)))

/-- The alignment marker of a logical lane. -/
def marker (lane seq : Nat) : Block66 :=
  ⟨true, pack64 [(0, 0xA7), (8, lane % 4), (16, seq % 256), (24, 255 - seq % 256)]⟩

/-- An idle block. -/
def idleBlock : Block66 := ⟨true, 0x33⟩

/-- A received block is a valid marker: its SEQ stands beside its complement and the reserved bits are 0. Answers the logical lane and
SEQ (R393). -/
def markerOf (hdr : BitVec 2) (bits : BitVec 64) : Option (Nat × Nat) :=
  let lane := bits.toNat / 2 ^ 8 % 4
  let seq := bits.toNat / 2 ^ 16 % 256
  if hdr = 2 ∧ bits = (marker lane seq).bits then some (lane, seq) else none

/-- A change of a lane reaches its port. -/
def laneChanged (n : Nat) (s : State) : State := if n < 12 then cpUpdate (n / 4) s else s

/-- BLOCK_LOCK (R392). -/
def execBlockLock (lane : Fin 14) (s : State) : Res :=
  .next (laneChanged lane (s.setLane lane { s.lane lane with lock := true }))

/-- BLOCK_LOCK_LOST (R392): marker lock falls with it. -/
def execBlockLockLost (lane : Fin 14) (s : State) : Res :=
  .next (onlyIf (s.lane lane).lock s
    (laneChanged lane (s.setLane lane { s.lane lane with
      lock := false, marker := false, seen := false, missed := 0, turn := none })))

/-- A block as a lane's receiver takes it: RX_INV inverts its header and its bits, which the descrambler hands on inverted. -/
def State.laneRx (s : State) (n : Nat) (hdr : BitVec 2) (bits : BitVec 64) : BitVec 2 × BitVec 64 :=
  if s.bitN (0x100D0000 + 0x40 * n) 2 then (~~~hdr, ~~~bits) else (hdr, bits)

/-- INVALID_HEADER (R391, R392): a block whose header or type is a sync error, descrambled, counts while the lane has lock. -/
def execInvalidHeader (b : LaneBlock) (s : State) : Res :=
  let r := s.laneRx b.lane b.hdr b.bits
  .next (onlyIf ((s.lane b.lane).lock && syncError r.1 r.2) s
    (s.setLane b.lane { s.lane b.lane with sync := incHold 0xFFFF (s.lane b.lane).sync }))

/-- The rounds of markers of the lane's port: each lane takes one turn. When all four have, and none was missed, the SEQ of the round
are compared; where they differ, the round is taken to begin anew with the marker that ended it, as the lanes' rounds need not have
begun with the same lane (R394). -/
def markerTurn (n : Nat) (valid : Bool) (s : State) : State :=
  let p := n / 4
  if 12 ≤ n then s
  else
    let lanes := (List.range 4).map (fun i => 4 * p + i)
    let clear := fun (t : State) => lanes.foldl (fun (u : State) i => u.setLane i { u.lane i with turn := none }) t
    let mine := fun (t : State) => t.setLane n { t.lane n with turn := some valid }
    let t := mine (if (s.lane n).turn.isSome then clear s else s)
    if lanes.all (fun i => (t.lane i).turn == some true) then
      (if lanes.all (fun i => (t.lane i).seq == (t.lane n).seq) then clear (t.setCp p { t.cp p with seqOk := true })
       else mine (clear (t.setCp p { t.cp p with seqOk := false })))
    else if lanes.all (fun i => (t.lane i).turn.isSome) then clear t
    else t

/-- A valid alignment marker: marker lock at the second with consecutive SEQ (R394). -/
def markerReceive (n logical seq skew : Nat) (s : State) : State :=
  let l := s.lane n
  if !l.lock then s
  else
    laneChanged n (markerTurn n true (s.setLane n { l with
      marker := l.marker || (l.seen && decide (seq % 256 = (l.seq + 1) % 256)), seen := true, missed := 0,
      logical := logical % 4, seq := seq % 256, skew := min 1023 skew }))

/-- A missed or invalid marker adds one to MARKER; the second in a row loses marker lock (R394). -/
def markerMissed (n : Nat) (s : State) : State :=
  let l := s.lane n
  if !l.lock then s
  else
    let l := { l with mark := incHold 0xFFFF l.mark, missed := l.missed + 1, seen := false }
    laneChanged n (markerTurn n false (s.setLane n { l with marker := l.marker && decide (l.missed < 2) }))

/-- MARKER_RECEIVE (R393, R394): the block in the slot of a marker, and its lane's delay behind the earliest lane. -/
def execMarkerReceive (lane : Fin 14) (hdr : BitVec 2) (bits : BitVec 64) (skew : Nat) (s : State) : Res :=
  let b := s.laneRx lane hdr bits
  .next (match markerOf b.1 b.2 with
    | some (k, q) => markerReceive lane k q skew s
    | none => markerMissed lane s)

/-- MARKER_MISSED (R394). -/
def execMarkerMissed (lane : Fin 14) (s : State) : Res := .next (markerMissed lane s)

/-! ## Outbound channels: transit and local return (R408, R409) -/

/-- A transit entry of a set: from, first, to, first, count; none while not in use. -/
def transitEntry (ps : Tbl Word) (i : Nat) : Option (Nat × Nat × Nat × Nat × Nat) :=
  let a := pget ps (0x100E1000 + 8 * i)
  if a.bit 0 ∧ a.fld 1 2 ≠ 3 ∧ a.fld 16 2 ≠ 3 then
    some (a.fld 1 2, a.fld 3 13, a.fld 16 2, a.fld 18 13, min 8192 (pfld ps (0x100E1004 + 8 * i) 0 14))
  else none

/-- The inbound channel that transit puts on an outbound channel: the lowest-numbered entry drives it. -/
def transitOf (ps : Tbl Word) (p c : Nat) : Option (Nat × Nat) :=
  (List.range 64).findSome? (fun i => match transitEntry ps i with
    | none => none
    | some (fp, f0, tp, t0, n) =>
      if tp = p ∧ t0 ≤ c ∧ c < t0 + n ∧ f0 + (c - t0) < 8192 ∧ c < 8192 then some (fp, f0 + (c - t0)) else none)

/-- RET fields of a port: first channel and number. -/
def retOf (ps : Tbl Word) (p : Nat) : Nat × Nat :=
  let w := pget ps (0x100E0120 + 0x40 * p)
  (w.fld 0 13, min 8192 (w.fld 14 14))

/-- A channel of a received frame; zeros where none is listed. -/
def frameChan (f : CascadeFrame) (c : Nat) : List Int :=
  if c < f.n then fitBlock 24 (((f.chans.find? (fun e => e.1 == c)).map (fun e => e.2)).getD []) else zeros 24

/-- The payload of a port's inbound frame for this block is usable. -/
def CscPort.inGood (x : CscPort) : Bool := x.st == 3 && (match x.cin with | some f => f.pcrc == 0 | none => false)

/-- A channel is locally returned. -/
def isReturned (ps : Tbl Word) (p c : Nat) : Bool :=
  decide ((retOf ps p).1 ≤ c ∧ c < (retOf ps p).1 + (retOf ps p).2 ∧ c < 8192)

/-- What feeds an outbound channel: the engine, as channel `c` of port `p`, or the frame of a port. -/
inductive ChanSource where
  | engine (p c : Nat)
  | frame (p c : Nat)
  deriving DecidableEq, Repr

/-- Follow transit, which takes a returned channel from the outbound channel it returns (R408, R409). A ring of transit and
return entries has no source: it ends, by log entry 99, at the engine's channel. -/
def chanSource (ps : Tbl Word) : Nat → Nat → Nat → ChanSource
  | 0, p, c => .engine p c
  | k + 1, p, c => match transitOf ps p c with
    | none => .engine p c
    | some (fp, fc) => if isReturned ps fp fc then chanSource ps k fp fc else .frame fp fc

/-- The source of an outbound channel in the LIVE set. -/
def State.sourceOf (s : State) (p c : Nat) : ChanSource := chanSource s.live 64 p c

/-- The samples an outbound channel carries in this block: transit, or the engine's block in the transmit stage; zeros
in a give-up hold (R408, R420). -/
def State.outChan (s : State) (p c : Nat) : List Int :=
  if s.cus.own = 3 then zeros 24
  else match s.sourceOf p c with
    | .frame fp fc => if (s.cp fp).inGood then (((s.cp fp).cin.map (fun f => frameChan f fc)).getD (zeros 24)) else zeros 24
    | .engine ep ec => fitBlock 24 (Tbl.getD s.engine.tx (destKey (4, 8192 * ep + ec)) [])

/-- Outbound channels below `n` that are not silent by construction. -/
def State.outChans (s : State) (p n : Nat) : List (Nat × List Int) :=
  let lo := destKey (4, 8192 * p)
  let direct := s.engine.tx.filterMap (fun e => if lo ≤ e.1 ∧ e.1 < lo + 8192 then some (e.1 - lo) else none)
  let carried := ((List.range 64).filterMap (transitEntry s.live)).flatMap (fun e =>
    if e.2.2.1 = p then (List.range e.2.2.2.2).map (fun j => e.2.2.2.1 + j) else [])
  let cs := ((carried ++ direct).foldl (fun l c => insertNat c l) []).filter (fun c => decide (c < n))
  (cs.map (fun c => (c, s.outChan p c))).filter (fun e => e.2 != zeros 24)

/-- A transit channel below `n` whose source frame was not valid for this block (R409). -/
def State.poisoned (s : State) (p n : Nat) : Bool :=
  (List.range 64).any (fun i => match transitEntry s.live i with
    | none => false
    | some (_, _, tp, t0, k) => tp == p && (List.range (min k (n - t0))).any (fun j =>
        match s.sourceOf p (t0 + j) with
        | .frame fp _ => !(s.cp fp).inGood
        | .engine .. => false))

/-- The inbound feeds of the block: the frame of the block before and the returned channels (R401, R409). -/
def cscFeeds (p : Nat) (s : State) : State :=
  let base := 8192 * (p + 1)
  let x := s.cp p
  let t := if x.inGood then
      match x.cin with
      | none => s
      | some f =>
        let u := f.chans.foldl (fun (u : State) e =>
          if e.1 < f.n ∧ ¬ isReturned s.live p e.1 then u.putRx (base + e.1) (fitBlock 24 e.2) else u) s
        { u with engine := { u.engine with okRx := insertNat base u.engine.okRx } }
    else s
  (s.outChans p 8192).foldl (fun (u : State) e =>
    if isReturned s.live p e.1 then u.putRx (base + e.1) e.2 else u) t

/-- An output strip of the LIVE set names a channel that transit drives: the lowest such port (R408). -/
def State.transitConf (s : State) : Option Nat :=
  ((enabledOS s.live).filterMap (fun k => match destOf s.live k with
    | some (4, c) => if (transitOf s.live (c / 8192) (c % 8192)).isSome then some (c / 8192) else none
    | _ => none)).foldl (fun m p => match m with | none => some p | some q => some (min p q)) none

/-- TRANSIT_CONFLICT after an accepted commit (R408). -/
def transitCheck (s : State) : State :=
  match s.transitConf with
  | none => s
  | some p => (s.withCsc { s.csc with trconf := true }).raise 0x0608 (s.cpLedger p)

/-! ## Messages (R407, R474) -/

/-- Put a message on a port that is UP. -/
def cpPost (m : CscMsg) (p : Nat) (s : State) : State :=
  if s.cpIsUp p then s.setCp p { s.cp p with out := (s.cp p).out ++ [m] } else s

/-- The port that leads to a node: the one whose map contains it, else upstream (R407). -/
def State.portFor (s : State) (n : Nat) : Option Nat :=
  match (List.range 3).find? (fun p => !s.cpUp p && (s.cp p).map.testBit n) with
  | some p => some p
  | none => if s.cscRole = 2 then some 0 else none

def msgTarget : CscMsg → Option Nat
  | .event .. => none
  | .request t _ => some t
  | .response t .. => some t
  | .ack t .. => some t
  | .owner .. => none
  | .trigger .. => some 0
  | .plan .. => none
  | .active .. => none
  | .faults .. => some 0
  | .reserve .. => none
  | .part t .. => some t
  | .scope .. => none
  | .partDone .. => some 0
  | .roll .. => none

/-- Send a message of this node: to its target's port, or to every port. -/
def cscSend (m : CscMsg) (s : State) : State :=
  match msgTarget m with
  | some t => match s.portFor t with
    | some p => cpPost m p s
    | none => s.withCsc { s.csc with inbox := s.csc.inbox ++ [m] }
  | none => (List.range 3).foldl (fun u p => cpPost m p u) s

/-- The owner becomes `o`: every node of the tree learns it. -/
def setOwner (o : Owner) (s : State) : State :=
  let t := { s with zk := { s.zk with owner := o } }
  if s.cscRole = 0 then t else cscSend (ownerMsg o) t

/-- A message that arrived at port `p` acts here or travels on. -/
def cscTake (p : Nat) (m : CscMsg) (s : State) : State :=
  let mine := fun (t : State) => t.withCsc { t.csc with inbox := t.csc.inbox ++ [m] }
  match msgTarget m with
  | some t => if t = s.node then mine s else cscSend m s
  | none =>
    let u := ((List.range 3).filter (fun q => q != p)).foldl (fun u q => cpPost m q u) s
    match m with
    | .event code node payload lo => u.deliverAll code node payload lo
    | _ => mine u

/-- The events this node has raised go onto the message channel (R474). -/
def cscEvents (s : State) : State :=
  let t := s.msgOut.foldl (fun (u : State) e => cscSend (.event e.code e.node e.payload e.sctrLo) u) s
  { t with msgOut := [] }

/-- Acknowledge and take a segment: only the expected SEQ is taken (go-back-N). -/
def cpSegment (p : Nat) (f : CascadeFrame) (s : State) : State :=
  let x := s.cp p
  let base := match x.win with | [] => x.txSeq | g :: _ => g.seq
  let acked := (f.mack + 65536 - base) % 65536
  let x := if acked ≤ x.win.length then
      { x with win := x.win.drop acked, sendIdx := x.sendIdx - acked } else x
  match f.msg with
  | none => s.setCp p x
  | some m =>
    if f.mseq = x.rxSeq then cscTake p m (s.setCp p { x with rxSeq := (x.rxSeq + 1) % 65536 })
    else s.setCp p x

/-- The segment of the next frame: the earliest not yet sent, else a new one while fewer than 16 wait. -/
def cpNextSegment (blk : Nat) (x : CscPort) : CscPort × Nat × Option CscMsg :=
  match x.win[x.sendIdx]? with
  | some g =>
    ({ x with win := x.win.set x.sendIdx { g with sentAt := some blk }, sendIdx := x.sendIdx + 1 }, g.seq, some g.msg)
  | none =>
    match x.out with
    | [] => (x, x.txSeq, none)
    | m :: rest =>
      if x.win.length < 16 then
        ({ x with out := rest, win := x.win ++ [⟨x.txSeq, m, some blk⟩], sendIdx := x.sendIdx + 1,
                  txSeq := (x.txSeq + 1) % 65536 }, x.txSeq, some m)
      else (x, x.txSeq, none)

/-- SEGMENT_RESEND (R407): the oldest segment has waited 4 blocks, and all are sent again. -/
def execSegmentResend (p : Fin 3) (s : State) : Res :=
  let x := s.cp p
  .next (match x.win with
    | [] => s
    | g :: _ => match g.sentAt with
      | none => s
      | some b => onlyIf (decide (b + 4 ≤ s.blk)) s (s.setCp p { x with sendIdx := 0 }))

/-! ## The tree commit (R128 to R131, R410 to R413) -/

def State.withTree (s : State) (t : TreeCommit) : State := s.withCsc { s.csc with tree := t }

/-- Answers and results of the ports that were expected to answer. -/
def State.expectedPorts (s : State) : List CscPort := ((List.range 3).map s.cp).filter (fun x => x.expected)

/-- The answer of this node and its subtree (R411). -/
def State.treeAns (s : State) : Nat :=
  let as := s.csc.tree.ans :: s.expectedPorts.map (fun x => x.ans)
  if as.any (· == 2) then 2 else if as.all (· == 1) then 1 else 0

/-- The combined result (R413): MISSED, then REFUSED, prevail; SWAPPED needs all. -/
def State.treeRes (s : State) : Nat :=
  let rs := s.csc.tree.res :: s.expectedPorts.map (fun x => x.res)
  if rs.any (· == 3) then 3 else if rs.any (· == 2) then 2 else if rs.all (· == 1) then 1 else 0

def minOpt (a b : Option Nat) : Option Nat :=
  match a, b with
  | none, b => b
  | a, none => a
  | some x, some y => some (min x y)

/-- FIRST_BAD and MISSED of the set (R410). -/
def State.treeBad (s : State) : Option Nat :=
  s.expectedPorts.foldl (fun m x => minOpt m x.bad) (if s.csc.tree.ans = 2 then some s.node else none)
def State.treeMiss (s : State) : Option Nat :=
  s.expectedPorts.foldl (fun m x => minOpt m x.miss) (if s.csc.tree.res = 3 then some s.node else none)

/-- The lowest node of the ports that have not answered (R412). -/
def State.treeSilent (s : State) : Option Nat :=
  (s.expectedPorts.filter (fun x => x.ans == 0)).foldl (fun m x => minOpt m (nodesOf x.map).head?) (if s.csc.tree.ans = 0 then some s.node else none)

/-- A NOT_READY answer cancels the node's own arm (R129). -/
def treeAnswer (ans : Nat) (s : State) : State :=
  let t := s.csc.tree
  let u := s.withTree { t with ans := ans }
  if ans = 2 ∧ t.mine then cmtCancel u else u

/-- PREPARE reaches this node (R411): the controller arms with PAGE = 1 and COND = 1 and forwards. Of a scene that does not cover
the node nothing is armed, and the node answers READY and SWAPPED as it is (R481, log entry 67). -/
def treePrepare (tag target scene : Nat) (s : State) : State :=
  let idle := s.zk.idleTag == some tag
  let t := if idle then s else cmtArm target true true s
  let took := !idle && (!s.engine.cmt.armed.isSome || s.engine.cmt.cancelled) && t.engine.cmt.armed.isSome
  let t := (List.range 3).foldl (fun (u : State) p =>
    let x := u.cp p
    u.setCp p { x with ans := 0, res := 0, bad := none, miss := none,
                       expected := !u.cpUp p && x.map != 0 }) t
  t.withTree { tag := some tag, phase := 1, target := target, scene := scene, mine := took,
               ans := if idle then 1 else if took then 0 else 2, res := bitOf idle, prepAt := s.blk, idle := idle }

/-- The manager's decision (R412): COMMIT or ABORT, with its own CONFIRM or CANCEL; it is journaled before it is sent (R426). -/
def treeDecide (commit : Bool) (bad : Option Nat) (s : State) : State :=
  let t := s.csc.tree
  let phase := if commit then 2 else 3
  let u := s.withTree { t with phase := phase }
  let u := if commit then cmtConfirm u
    else
      let v := u.raise 0x0C23 (bad.getD 0)
      if t.mine then cmtCancel v else v
  let src := if s.zk.change.any (fun c => c.tag == t.tag) then (s.zk.change.map (fun c => c.src)).getD .host else .host
  let what := [Word.ofNat phase, Word.ofNat (t.tag.getD 0), Word.ofNat t.target, Word.ofNat (t.target / 2 ^ 32)]
  escSync (journalCommit src 0 what u)

/-- The manager decides once every answer is READY or one is NOT_READY. -/
def treeManager (s : State) : State :=
  if s.cscRole ≠ 1 ∨ s.csc.tree.phase ≠ 1 then s
  else if s.treeAns = 1 then treeDecide true none s
  else if s.treeAns = 2 then treeDecide false s.treeBad s
  else s

/-- The manager raises 0x0C22 for a node that missed the COMMIT (R413). -/
def treeResult (s : State) : State :=
  let t := s.csc.tree
  match s.treeMiss with
  | some n => if s.cscRole = 1 ∧ ¬ t.told ∧ s.treeRes = 3 then (s.withTree { t with told := true }).raise 0x0C22 n else s
  | none => s

/-- Block of the boundary of the TAG in progress. -/
def TreeCommit.block (t : TreeCommit) : Nat := t.target / 24

/-- Commit words received from upstream (R411). -/
def treeDown (f : CascadeFrame) (s : State) : State :=
  let phase := f.w5 % 4
  let s := s.withCsc { s.csc with phaseIn := phase }
  let tag := f.w5 / 256 % 256
  let t := s.csc.tree
  if phase = 1 then (if t.tag = some tag then s else treePrepare tag f.w4 (f.w5 / 65536 % 2 ^ 20) s)
  else if t.tag = some tag ∧ t.phase = 1 then
    (if phase = 2 then
      let u := s.withTree { t with phase := 2 }
      if t.mine ∧ s.blk + 1 ≤ t.block then cmtConfirm u else u
     else if phase = 3 then
      let u := s.withTree { t with phase := 3 }
      if t.mine then cmtCancel u else u
     else s)
  else s

/-- Commit words received from downstream (R410, R411). -/
def treeUpWords (p : Nat) (f : CascadeFrame) (s : State) : State :=
  let x := s.cp p
  if s.csc.tree.tag = some (f.w5 / 256 % 256) ∧ x.expected then
    s.setCp p { x with ans := f.w5 % 4, res := f.w5 / 65536 % 4,
                       bad := if f.w4.testBit 6 then some (f.w4 % 64) else none,
                       miss := if f.w4.testBit 14 then some (f.w4 / 256 % 64) else none }
  else s

/-- Words 4 and 5 of an outgoing frame (R410). -/
def State.treeWords (s : State) (up : Bool) : Nat × Nat :=
  let t := s.csc.tree
  match t.tag with
  | none => (0, 0)
  | some tag =>
    if up then
      ((match s.treeBad with | some n => n + 64 | none => 0) + (match s.treeMiss with | some n => (n + 64) * 256 | none => 0),
        s.treeAns + tag * 256 + s.treeRes * 65536)
    else (t.target, t.phase + tag * 256 + t.scene * 65536)

/-- TREE_COMMIT_DEADLINE (R130, R412): in block b − D − 1 with an answer still missing the manager sends ABORT. -/
def execTreeCommitDeadline (s : State) : Res :=
  let t := s.csc.tree
  .next (onlyIf (s.cscRole == 1 && t.phase == 1 && s.treeAns == 0 && decide (t.block ≤ s.blk + s.subDepth + 1)) s
    (treeDecide false (minOpt s.treeBad s.treeSilent) s))

/-- A write of CSC_CMT_ANS: the answer for the TAG in progress (R411). -/
def cmtAnsWrite (v : Word) (s : State) : State :=
  let t := s.csc.tree
  let u := s.setReg 0x100E2000 (v &&& 0x3FF)
  let u := if t.phase = 1 ∧ t.tag = some (v.fld 0 8) ∧ t.ans = 0 ∧ (v.fld 8 2 = 1 ∨ v.fld 8 2 = 2) then
    treeManager (treeAnswer (v.fld 8 2) u) else u
  if v.bit 31 ∧ s.cscRole = 1 ∧ u.csc.tree.phase = 1 then treeDecide false (minOpt u.treeBad u.treeSilent) u else u

/-- COMMIT_ANSWER_WRITE (R411). -/
def execCommitAnswerWrite (val : Word) (s : State) : Res := .next (cmtAnsWrite (val.setBit 31 false) s)

/-- COMMIT_ANS_ABORT (R412): the manager sends ABORT now. -/
def execCommitAnsAbort (s : State) : Res := .next (cmtAnsWrite ((s.reg 0x100E2000).setBit 31 true) s)

/-- ANSWER_TIMEOUT (R129): no answer within 8 blocks of PREPARE is NOT_READY. -/
def execAnswerTimeout (s : State) : Res :=
  let t := s.csc.tree
  .next (onlyIf (t.phase == 1 && t.ans == 0 && decide (t.prepAt + 8 ≤ s.blk)) s (treeManager (treeAnswer 2 s)))

/-- After B the node reports its result (R413). -/
def treeResolved (status reason : Nat) (s : State) : State :=
  let t := s.csc.tree
  if t.mine ∧ t.res = 0 then
    treeResult (s.withTree { t with res := if status = 0 then 1 else if reason = 0x23 then 3 else 2 })
  else s

/-! ## Frames (R396 to R401) -/

/-- NCH of a port (R397). -/
def State.nch (s : State) (p : Nat) : Nat := min 8192 (s.fldN (cpReg p 0) 1 14)

/-- CASCADE_FRAME_SEND (R398): once per block in ALIGNED, UP or REFUSED. -/
def cscSendFrame (p : Nat) (s : State) : State :=
  let x := s.cp p
  let due := match x.sent with | none => true | some f => f.sctr != s.sctr
  if decide (x.st < 2) || !due then s
  else
    let up := s.cpUp p
    let seg := if x.st = 3 then cpNextSegment s.blk x else (x, x.txSeq, none)
    let words := if x.st = 4 then (0, 0) else s.treeWords up
    let n := s.nch p
    let f : CascadeFrame :=
      { node := s.node, up := up, grade := s.outGrade, depth := s.depth, sctr := s.sctr, n := n, sub := s.subDepth,
        meas := x.own, map := if up then s.ownMap else 0, w4 := words.1, w5 := words.2, mseq := seg.2.1,
        mack := x.rxSeq, msg := seg.2.2, chans := s.outChans p n, pcrc := if s.poisoned p n then 2 else 0 }
    s.setCp p { seg.1 with sent := some f }

def execCascadeFrameSend (p : Fin 3) (s : State) : Res := .next (cscSendFrame p s)

/-- L of a port in 1/16 AUDIO periods (R400). -/
def State.linkDelay (s : State) (p : Nat) : Int :=
  (((s.cp p).own + (s.cp p).peerMeas : Nat) : Int) / 2 + (s.reg (cpReg p 0x14)).toInt

/-- A counted frame error (R399): event 0x0604 for the first HCRC, PCRC or LOST after CLRCNT. -/
def cpErr (f : CscPort → CscPort) (event : Bool) (p : Nat) (s : State) : State :=
  let t := s.setCp p (f (s.cp p))
  if event ∧ s.csc.armed then (t.withCsc { t.csc with armed := false }).raise 0x0604 (s.cpLedger p) else t

def cntHcrc (x : CscPort) : CscPort := { x with hcrc := incHold 0xFF x.hcrc }
def cntPcrc (x : CscPort) : CscPort := { x with pcrc := incHold 0xFF x.pcrc }
def cntPoison (x : CscPort) : CscPort := { x with poison := incHold 0xFF x.poison }
def cntLost (x : CscPort) : CscPort := { x with lost := incHold 0xFF x.lost }

/-- A block without an accepted frame: the fourth in a row leaves UP (R403). -/
def cpMissed (p : Nat) (s : State) : State :=
  let x := s.cp p
  let t := s.setCp p { x with missRun := x.missRun + 1, okRun := 0, clearRun := 0 }
  if x.st = 3 ∧ 4 ≤ x.missRun + 1 then cpEnter p 2 t else t

/-- The frame or the missing frame of block `j` has been counted. -/
def CscPort.counted (x : CscPort) (j : Nat) : Bool := x.handled.any (fun k => decide (j ≤ k))

/-- A frame arrives (R399, R400). It is the frame of the block nearest to T0 − L: of the block in progress, or, where it comes
early, of the next one, in which it is then used. -/
def cscReceive (p : Nat) (f : CascadeFrame) (s : State) : State :=
  let x := { s.cp p with own := f.t0 % 786432 }
  let t := s.setCp p (if f.hcrc then { x with peerMeas := f.meas % 2 ^ 20 } else x)
  let phase := ((x.own : Nat) : Int) - t.linkDelay p
  let j := max s.blk (s.blk + (phase + 393216) / 786432).toNat
  if x.st < 2 ∨ x.counted j then s
  else
    let t := t.setCp p { t.cp p with handled := some j }
    if !f.hcrc then cpErr cntHcrc true p (cpMissed p t)
    else if f.sctr ≠ 24 * (s.blk + (phase + 393216) / 786432) ∨ ¬ f.inTime then cpErr cntLost true p (cpMissed p t)
    else
      let t := t.setCp p (if j = s.blk then { t.cp p with acc := some f } else { t.cp p with accNext := some f })
      let t := cpAccepted p f t
      let t := if s.cpUp p ∧ t.cpIsUp p then refEvent 5 phase t else t
      if f.pcrc = 1 then cpErr cntPcrc true p t else if f.pcrc = 2 then cpErr cntPoison false p t else t

/-- CASCADE_FRAME_RECEIVE (R399). -/
def execCascadeFrameReceive (p : Fin 3) (frame : CascadeFrame) (s : State) : Res := .next (cscReceive p frame s)

/-- CASCADE_FRAME_DEADLINE (R399): the block ends without a frame. -/
def execCascadeFrameDeadline (p : Fin 3) (s : State) : Res :=
  let x := s.cp p
  .next (onlyIf (decide (2 ≤ x.st) && !x.counted s.blk) s
    (cpErr cntLost true p (cpMissed p (s.setCp p { x with handled := some s.blk }))))

/-- The words of the frame accepted in the block before act (R401): grade, commit words and the message segment. -/
def cpAct (p : Nat) (s : State) : State :=
  let x := s.cp p
  match x.cin with
  | none => s
  | some f =>
    if x.st ≠ 3 then s
    else
      let s := if s.cpUp p then treeDown f (refCascadeGrade f.grade s) else treeManager (treeUpWords p f s)
      let s := treeResult s
      cpSegment p f s

/-- What the cascade does as a block begins, in the block just ended and in the new one. -/
def cscBoundaryFeeds (s : State) : State := (List.range 3).foldl (fun t p => cscFeeds p t) s

def cscBoundaryAct (s : State) : State :=
  let t := (List.range 3).foldl (fun (u : State) p =>
    let x := u.cp p
    u.setCp p { x with cin := x.acc, acc := x.accNext, accNext := none }) s
  cscEvents ((List.range 3).foldl (fun u p => cpAct p u) t)

/-! ## Topology, enables and registers (R405 to R407, R414, R415) -/

/-- MAP_HOLD_EXPIRY (R407): the map is cleared to what is received now, and nodes that left raise 0x0607. -/
def execMapHoldExpiry (p : Fin 3) (s : State) : Res :=
  let x := s.cp p
  let gone := (nodesOf x.map).filter (fun k => !x.rxMap.testBit k)
  .next (gone.foldl (fun (u : State) k => u.raise 0x0607 k) (s.setCp p { x with map := x.rxMap }))

/-- A write of a port's control register. -/
def cpCtlWrite (p : Nat) (v : Word) (s : State) : State := cpUpdate p (s.writeRW (cpReg p 0) v)

/-- CASCADE_PORT_ENABLE and CASCADE_PORT_DISABLE (R403). -/
def execCascadePortEnable (p : Fin 3) (s : State) : Res :=
  .next (cpCtlWrite p ((s.reg (cpReg p 0)).setBit 0 true) s)
def execCascadePortDisable (p : Fin 3) (s : State) : Res :=
  .next (cpCtlWrite p ((s.reg (cpReg p 0)).setBit 0 false) s)

/-- CLRCNT: every CSC and LAN counter, and event 0x0604 is armed again (R415). -/
def cscClr (s : State) : State :=
  let t := (List.range 3).foldl (fun (u : State) p =>
    u.setCp p { u.cp p with hcrc := 0, pcrc := 0, poison := 0, lost := 0 }) s
  let t := (List.range 14).foldl (fun (u : State) n => u.setLane n { u.lane n with sync := 0, mark := 0 }) t
  t.withCsc { t.csc with armed := true }

def execCascadeClrcnt (s : State) : Res := .next (cscClr s)

/-- A write of CSC_CTL (R405): a refused ROLE and NODE set CFGERR and hold every port OFF. -/
def cscCtlWrite (v : Word) (s : State) : State :=
  let t := s.writeRW 0x100E0000 v
  let t := t.withCsc { t.csc with trconf := t.csc.trconf && !v.bit 10, cfgErr := t.roleBad }
  let t := if v.bit 9 then cscClr t else t
  slotsCheck ((List.range 3).foldl (fun u p => cpUpdate p u) t)

/-- CASCADE_ROLE_WRITE (R405). -/
def execCascadeRoleWrite (val : Word) (s : State) : Res := .next (cscCtlWrite val s)

/-- CSC_CMT_STAT. -/
def State.cmtStatWord (s : State) : Word :=
  let t := s.csc.tree
  packW [(0, if s.cscRole = 2 then s.csc.phaseIn else t.phase), (2, s.treeBad.getD 0), (8, t.tag.getD 0), (16, if t.tag.isSome then s.treeAns else 0),
    (18, if t.tag.isSome then s.treeRes else 0), (20, s.treeMiss.getD 0), (26, bitOf s.treeBad.isSome),
    (27, bitOf s.treeMiss.isSome)]

/-- Registers of lanes (0x100D). L12 and L13 never run at the Trunk rate, whatever their PROFILE says (R414). The adapted equaliser settings are the receiver's own: log entry 41. -/
def lanRead (a : Nat) (s : State) : Word :=
  let n := (a - 0x100D0000) / 0x40
  let l := s.lane n
  match a % 0x40 with
  | 4 => packW [(0, bitOf l.lock), (1, bitOf l.marker), (2, l.logical), (8, l.seq), (16, l.skew)]
  | 8 => packW [(0, l.sync), (16, l.mark)]
  | 12 => if n < 12 ∧ s.bitN (0x100D0000 + 0x40 * n) 0 ∧ l.lock then Config.laneEq n s.freeCtr &&& 0xFFFFFF0F else 0
  | _ => s.reg a

def lanWrite (a : Nat) (v : Word) (s : State) : State :=
  let t := s.writeRW a v
  if a % 0x40 = 0 then laneChanged ((a - 0x100D0000) / 0x40) t else t

/-- Registers of the cascade (0x100E). -/
def cscRead (i : Init) (a : Nat) (s : State) : Word :=
  match s.paramKey i a with
  | some (k, m) => s.nxt k &&& Word.ofNat m
  | none =>
    if a = 0x100E0000 then ((s.reg a).setBit 8 s.csc.cfgErr).setBit 10 s.csc.trconf
    else if a = 0x100E0004 then (if s.cscRole = 0 then 0 else packW [(0, s.depth), (3, s.subDepth)])
    else if a = 0x100E0010 then Word.ofNat s.ownMap
    else if a = 0x100E0014 then Word.ofNat (s.ownMap / 2 ^ 32)
    else if a = 0x100E2004 then s.cmtStatWord
    else if 0x100E0100 ≤ a ∧ a < 0x100E01C0 then
      let p := (a - 0x100E0100) / 0x40
      let x := s.cp p
      match a % 0x40 with
      | 0x04 => packW [(0, x.st), (3, bitOf (s.cpUp p)), (4, x.peer % 64), (10, x.peerDepth % 8), (13, x.reason),
          (16, x.peerN % 2 ^ 14)]
      | 0x08 => packW [(0, x.hcrc), (8, x.pcrc), (16, x.poison), (24, x.lost)]
      | 0x0C => Word.ofNat x.own
      | 0x10 => Word.ofNat x.peerMeas
      | 0x18 => Word.ofNat x.map
      | 0x1C => Word.ofNat (x.map / 2 ^ 32)
      | _ => s.reg a
    else s.reg a

def cscWrite (i : Init) (a : Nat) (v : Word) (s : State) : State :=
  if (s.paramKey i a).isSome then nextWrite i a v s
  else if a = 0x100E0000 then cscCtlWrite v s
  else if a = 0x100E2000 then cmtAnsWrite v s
  else if 0x100E0100 ≤ a ∧ a < 0x100E01C0 ∧ a % 0x40 = 0 then cpCtlWrite ((a - 0x100E0100) / 0x40) v s
  else s.writeRW a v

end Sys2Proof.Machine
end

