-- ==== Sys2Proof/Machine/Crypto.lean ====
section
/-!
DEFINITION. The check of a firmware image (R432): SHA-256 as FIPS 180-4 has it, and ECDSA over the curve P-256 as FIPS 186 has
it. The rule names both and defines neither, so their constants and steps are PRESUMED (log entry 43).
-/

namespace Sys2Proof.Machine

open Sys2Proof

/-! ## SHA-256 -/

/-- The round constants. -/
def shaK : List Word :=
  [0x428A2F98, 0x71374491, 0xB5C0FBCF, 0xE9B5DBA5, 0x3956C25B, 0x59F111F1, 0x923F82A4, 0xAB1C5ED5] ++
  [0xD807AA98, 0x12835B01, 0x243185BE, 0x550C7DC3, 0x72BE5D74, 0x80DEB1FE, 0x9BDC06A7, 0xC19BF174] ++
  [0xE49B69C1, 0xEFBE4786, 0x0FC19DC6, 0x240CA1CC, 0x2DE92C6F, 0x4A7484AA, 0x5CB0A9DC, 0x76F988DA] ++
  [0x983E5152, 0xA831C66D, 0xB00327C8, 0xBF597FC7, 0xC6E00BF3, 0xD5A79147, 0x06CA6351, 0x14292967] ++
  [0x27B70A85, 0x2E1B2138, 0x4D2C6DFC, 0x53380D13, 0x650A7354, 0x766A0ABB, 0x81C2C92E, 0x92722C85] ++
  [0xA2BFE8A1, 0xA81A664B, 0xC24B8B70, 0xC76C51A3, 0xD192E819, 0xD6990624, 0xF40E3585, 0x106AA070] ++
  [0x19A4C116, 0x1E376C08, 0x2748774C, 0x34B0BCB5, 0x391C0CB3, 0x4ED8AA4A, 0x5B9CCA4F, 0x682E6FF3] ++
  [0x748F82EE, 0x78A5636F, 0x84C87814, 0x8CC70208, 0x90BEFFFA, 0xA4506CEB, 0xBEF9A3F7, 0xC67178F2]

/-- The initial hash value. -/
def shaH : List Word := [0x6A09E667, 0xBB67AE85, 0x3C6EF372, 0xA54FF53A,
  0x510E527F, 0x9B05688C, 0x1F83D9AB, 0x5BE0CD19]

/-- The number that bytes spell, the first the most significant. -/
def bigNat (bs : List Byte) : Nat := bs.foldl (fun n b => n * 256 + b.toNat) 0

/-- A number as `n` bytes, the first the most significant. -/
def bigBytes (n v : Nat) : List Byte := (List.range n).map (fun j => BitVec.ofNat 8 (v / 256 ^ (n - 1 - j)))

/-- The message schedule of a block: 16 words and the 48 that follow from them. -/
def shaSchedule (block : List Word) : List Word :=
  (List.range 48).foldl (fun w t =>
    let x := w.getD (t + 14) 0
    let y := w.getD (t + 1) 0
    w ++ [(x.rotateRight 17 ^^^ x.rotateRight 19 ^^^ x >>> 10) + w.getD (t + 9) 0 +
      (y.rotateRight 7 ^^^ y.rotateRight 18 ^^^ y >>> 3) + w.getD t 0]) block

/-- One round over the eight working variables, by the sum of its constant and schedule word. -/
def shaRound (v : List Word) (kw : Word) : List Word :=
  match v with
  | [a, b, c, d, e, f, g, h] =>
    let t1 := h + (e.rotateRight 6 ^^^ e.rotateRight 11 ^^^ e.rotateRight 25) + ((e &&& f) ^^^ (~~~ e &&& g)) + kw
    let t2 := (a.rotateRight 2 ^^^ a.rotateRight 13 ^^^ a.rotateRight 22) + ((a &&& b) ^^^ (a &&& c) ^^^ (b &&& c))
    [t1 + t2, a, b, c, d + t1, e, f, g]
  | _ => v

/-- The hash after a block of 64 bytes. -/
def shaBlock (h : List Word) (bs : List Byte) : List Word :=
  let w := shaSchedule ((List.range 16).map (fun j => Word.ofNat (bigNat ((bs.drop (4 * j)).take 4))))
  List.zipWith (· + ·) h ((List.zipWith (· + ·) shaK w).foldl shaRound h)

/-- The hash over `n` blocks. -/
def shaBlocks : Nat → List Word → List Byte → List Word
  | 0, h, _ => h
  | n + 1, h, bs => shaBlocks n (shaBlock h (bs.take 64)) (bs.drop 64)

/-- SHA-256 of bytes: 32 bytes. -/
def sha256 (bs : List Byte) : List Byte :=
  let n := (bs.length + 8) / 64 + 1
  let padded := bs ++ [0x80] ++ List.replicate (64 * n - bs.length - 9) 0 ++ bigBytes 8 (8 * bs.length)
  (shaBlocks n shaH padded).flatMap (fun w => bigBytes 4 w.toNat)

/-! ## ECDSA P-256 -/

/-- The prime of the field, the order of the group, the coefficient b, and the base point. -/
def ecP : Int := 2 ^ 256 - 2 ^ 224 + 2 ^ 192 + 2 ^ 96 - 1
def ecN : Int := 0xFFFFFFFF00000000FFFFFFFFFFFFFFFFBCE6FAADA7179E84F3B9CAC2FC632551
def ecB : Int := 0x5AC635D8AA3A93E7B3EBBD55769886BC651D06B0CC53B0F63BCE3C3E27D2604B
def ecGx : Int := 0x6B17D1F2E12C4247F8BCE6E563A440F277037D812DEB33A0F4A13945D898C296
def ecGy : Int := 0x4FE342E2FE1A7F9B8EE7EB4A7C0F9E162BCE33576B315ECECBB6406837BF51F5

/-- A power modulo `m`. -/
def powMod (m b : Int) (e : Nat) : Int :=
  (List.range 256).foldl (fun r j => if e.testBit (255 - j) then r * r % m * b % m else r * r % m) 1

/-- The inverse modulo a prime. -/
def invMod (m b : Int) : Int := powMod m b (m - 2).toNat

/-- A point in Jacobian coordinates; the point at infinity has Z = 0. -/
structure EcPoint where
  x : Int
  y : Int
  z : Int
  deriving DecidableEq, Repr

/-- Twice a point. -/
def ecDouble (p : EcPoint) : EcPoint :=
  let yy := p.y * p.y % ecP
  let zz := p.z * p.z % ecP
  let s := 4 * p.x * yy % ecP
  let m := 3 * (p.x - zz) * (p.x + zz) % ecP
  let x := (m * m - 2 * s) % ecP
  ⟨x, (m * (s - x) - 8 * yy * yy) % ecP, 2 * p.y * p.z % ecP⟩

/-- The sum of two points. -/
def ecAdd (p q : EcPoint) : EcPoint :=
  if p.z = 0 then q
  else if q.z = 0 then p
  else
    let pz := p.z * p.z % ecP
    let qz := q.z * q.z % ecP
    let u := p.x * qz % ecP
    let v := p.y * qz % ecP * q.z % ecP
    let h := (q.x * pz - u) % ecP
    let r := (q.y * pz % ecP * p.z - v) % ecP
    if h = 0 then (if r = 0 then ecDouble p else ⟨0, 1, 0⟩)
    else
      let hh := h * h % ecP
      let x := (r * r - hh * h - 2 * u * hh) % ecP
      ⟨x, (r * (u * hh - x) - v * (hh * h % ecP)) % ecP, h * p.z % ecP * q.z % ecP⟩

/-- A multiple of a point. -/
def ecMul (k : Nat) (p : EcPoint) : EcPoint :=
  (List.range 256).foldl (fun q j => let d := ecDouble q; if k.testBit (255 - j) then ecAdd d p else d) ⟨0, 1, 0⟩

/-- The signature `r`, `t` of a hash verifies under the public key `x`, `y`. -/
def ecVerify (x y r t hash : Int) : Bool :=
  if x < ecP ∧ y < ecP ∧ (y * y - x * x * x + 3 * x - ecB) % ecP = 0 ∧ 0 < r ∧ r < ecN ∧ 0 < t ∧ t < ecN then
    let w := invMod ecN t
    let q := ecAdd (ecMul (hash * w % ecN).toNat ⟨ecGx, ecGy, 1⟩) (ecMul (r * w % ecN).toNat ⟨x, y, 1⟩)
    let zi := invMod ecP q.z
    decide (q.z ≠ 0) && decide (q.x * (zi * zi % ecP) % ecP % ecN = r)
  else false

/-! ## The check of an image (R432) -/

/-- The bytes of words, least significant first (R8). -/
def bytesOf (ws : List Word) : List Byte := ws.flatMap (fun (w : Word) => (List.range 4).map (fun j => (w >>> (8 * j)).setWidth 8))

/-- The words of the body by its header. -/
def bodyLen (ws : List Word) : Nat := (ws.getD 3 0).toNat / 4

/-- The code of the first check that an image fails, as TLR_BOOT has it: 1 the magic word, or a body length that is no multiple of
64 or beyond 4 MiB, 2 the key hash, 3 the signature, 4 the body hash, 5 the rollback index; 0 where the ROM accepts it. -/
def imageFail (counter : Nat) (ws : List Word) : Nat :=
  let h := bytesOf (ws.take 64)
  let key := (h.drop 0x30).take 64
  let at' := fun k => (bigNat ((h.drop k).take 32) : Int)
  let len := (ws.getD 3 0).toNat
  if ws.getD 0 0 ≠ 0x5A4B5231 ∨ len % 64 ≠ 0 ∨ 4194304 < len then 1
  else if sha256 key ≠ Config.keyHash then 2
  else if !ecVerify (at' 0x30) (at' 0x50) (at' 0x70) (at' 0x90) (bigNat (sha256 (h.take 0x70))) then 3
  else if sha256 (bytesOf ((ws.drop 64).take (bodyLen ws))) ≠ (h.drop 0x10).take 32 then 4
  else if (ws.getD 2 0).toNat < counter then 5
  else 0

end Sys2Proof.Machine
end

