-- ==== Sys2Proof/Machine/Power.lean ====
section
/-!
DEFINITION. Custody transitions (R419, R422 to R427), power, Vault, reset and boot (R432 to R434, R541 to R557).
-/

namespace Sys2Proof.Machine

open Sys2Proof

/-- The event payload of the device unit (class 0x16). -/
def State.devLedger (s : State) : Nat := s.ledger 0x16 0

/-- A custody event, which is also journaled (R450). -/
def cusEvent (code payload : Nat) (s : State) : State :=
  journalDevice 4 0 [Word.ofNat code, Word.ofNat payload] (s.raise code payload)

/-! ## Reset (R549) -/

/-- Sample the straps at the end of a reset (R550). -/
def strapsTake (v : Word) (s : State) : State :=
  (s.withPwr { s.pwr with straps := v &&& 0x1F }).withCus { s.cus with roleB := v.bit 3, paired := v.bit 4 }

/-- The device leaves reset, unless a fourth give-up or RESET_n holds it (R427, R549). -/
def releaseReset (s : State) : State :=
  s.withPwr { s.pwr with phase := if s.cus.held || s.pwr.resetLow then .held else .awake }

/-- POR (R549): everything is reset; main flash, escrow memory and the fuses are outside. -/
def execPor (straps : Word) (s : State) : Res :=
  .next (strapsTake straps
    { State.reset with pending := s.pending, mem := outsideMem s.mem, freeCtr := s.freeCtr, zk := zkReset s.zk,
                       esc := s.esc, pwr := { State.reset.pwr with counter := s.pwr.counter, good := 0x200 } })

/-! ## Supplies (R541 to R544) -/

/-- SUPPLY_GOOD (R543): 1 ms after every supply is good, reset is released. -/
def execSupplyGood (s : State) : Res :=
  .next (onlyIf (s.pwr.phase == .rising) s (releaseReset (s.withPwr { s.pwr with good := 0x3FF })))

/-- SUPPLY_RISE_TIMEOUT (R543): SUPEN falls and the missing supplies are recorded. -/
def execSupplyRiseTimeout (good : Word) (s : State) : Res :=
  let missing := (List.range 9).filter (fun k => !good.bit k)
  .next (onlyIf (s.pwr.phase == .rising && !missing.isEmpty) s
    (s.withPwr { s.pwr with phase := .retry, good := 0x200, trip := s.pwr.trip ||| (bitsW missing).toNat }))

/-- SUPPLY_RETRY (R543): one second later SUPEN rises again. -/
def execSupplyRetry (s : State) : Res :=
  .next (onlyIf (s.pwr.phase == .retry) s (s.withPwr { s.pwr with phase := .rising }))

/-- SUPPLY_TRIP (R543): a give-up with CAUSE 7; without VDD_CORE, VDD_MINT or VDDIO5 a release to 00 without a seal;
during boot a return to reset. -/
def supplyTrip (k : Nat) (s : State) : State :=
  let s := s.withPwr { s.pwr with trip := s.pwr.trip ||| 2 ^ k, good := if s.pwr.good.testBit k then s.pwr.good ^^^ 2 ^ k else s.pwr.good }
  if s.pwr.phase ≠ .awake then s
  else if s.started then
    (if k = 0 ∨ k = 5 ∨ k = 6 then
      let t := s.withCus { s.cus with cause := 7, fwcode := 0,
                                      giveUps := if s.cus.own = 2 then incHold 0xFFFF s.cus.giveUps else s.cus.giveUps }
      let t := deviceReset t
      t.withPwr { t.pwr with phase := .rising }
     else letGo (giveUp 7 0 s))
  else
    let t := deviceReset s
    t.withPwr { t.pwr with phase := .rising }

def execSupplyTrip (k : Fin 10) (s : State) : Res := .next (onlyIf (decide (k.val ≠ 9)) s (supplyTrip k s))

/-- VAULT_SUPPLY_LOSS (R544): every pin is high-impedance and the retention RAM is lost. -/
def execVaultSupplyLoss (s : State) : Res :=
  .next { State.reset with pending := s.pending, mem := outsideMem s.mem, freeCtr := s.freeCtr, zk := zkReset s.zk,
                           esc := s.esc, pwr := { State.reset.pwr with phase := .off, counter := s.pwr.counter } }

/-! ## RESET_n (R549) -/

/-- PIN_RESET: RESET_n has been low for 1 µs. -/
def execPinReset (s : State) : Res :=
  .next (match s.pwr.phase with
    | .off => s
    | .vault => s.withPwr { s.pwr with resetLow := true }
    | .entering => s.withPwr { s.pwr with resetLow := true }
    | _ =>
      let t := deviceReset s
      t.withPwr { t.pwr with phase := if s.pwr.phase = .rising ∨ s.pwr.phase = .retry then s.pwr.phase else .held,
                             resetLow := true, cause := t.pwr.cause ||| 2 })

/-- MAINT_RESET: 10 ms of RESET_n low with MAINT_n low lift the hold of R427. -/
def execMaintReset (s : State) : Res :=
  .next (onlyIf s.pwr.resetLow s
    ((s.withPwr { s.pwr with cause := 0, wakeSrc := 0 }).withCus { s.cus with restarts := [], held := false }))

/-! ## Vault (R546 to R548) -/

/-- A wake: its source is recorded, CUS_WAKECNT counts, and SUPEN rises. -/
def wakeNow (src : Nat) (s : State) : State :=
  ((s.withPwr { s.pwr with phase := .rising, cause := s.pwr.cause ||| 8, wakeSrc := src, wakeSeen := none }).withCus
    { s.cus with wakeAt := some (s.freeCtr, s.tbs.now) }).tickFree

/-- A wake source is enabled: 1 WAKE, 2 CUSP, 3 timer with VCLK; 4 RESET_n always. -/
def State.wakeEnabled (s : State) (src : Nat) : Bool :=
  match src with
  | 1 => s.bitN 0x10150000 4
  | 2 => s.bitN 0x10150000 5
  | 3 => s.bitN 0x10150000 6 && s.bitN 0x10150000 1
  | 4 => true
  | _ => false

/-- An edge of a wake source, in Vault or while it is being entered. -/
def wakeEdge (src : Nat) (s : State) : State :=
  if !s.wakeEnabled src then s
  else match s.pwr.phase with
    | .vault => wakeNow src s
    | .entering => s.withPwr { s.pwr with wakeSeen := minOpt s.pwr.wakeSeen (some src) }
    | _ => s

/-- WAKE (R548): a wake waits for RESET_n, and the rising edge of RESET_n is RESET_RELEASE. -/
def execWake (src : BitVec 3) (s : State) : Res := .next (wakeEdge src.toNat s)

/-- WAKE_TIMER_EXPIRY (R548): PWR_TIMER of 0 never wakes. -/
def execWakeTimerExpiry (s : State) : Res := .next (onlyIf (s.fldN 0x10150004 0 24 != 0) s (wakeEdge 3 s))

/-- ENTER (R547): refused with ERR while the device shows 10 or 11. -/
def vaultEnter (s : State) : State :=
  if s.cus.own = 2 ∨ s.cus.own = 3 then s.withPwr { s.pwr with err := true }
  else if s.pwr.phase = .awake then toVault s else s

def execEnter (s : State) : Res := .next (vaultEnter s)

/-- VAULT_ENTERED (R547): a wake that came meanwhile acts now. -/
def execVaultEntered (s : State) : Res :=
  .next (onlyIf (s.pwr.phase == .entering) s
    (let t := s.withPwr { s.pwr with phase := .vault, good := 0x200 }
     match s.pwr.wakeSeen with
     | some k => wakeNow k t
     | none => t))

/-- RESET_RELEASE (R549): RESET_n rises. -/
def execResetRelease (straps : Word) (s : State) : Res :=
  .next (onlyIf s.pwr.resetLow s
    (let t := strapsTake straps (s.withPwr { s.pwr with resetLow := false })
     if t.pwr.phase = .held then releaseReset t else wakeEdge 4 t))

/-! ## Custody codes (R419) -/

/-- The guard runs, or the device must yield, by what the partner shows while this device shows 01. -/
def cusAt01 (s : State) : State :=
  let p := s.cus.partner
  s.withCus { s.cus with guard := decide (p = 0 ∨ (p = 1 ∧ s.cus.roleB = false)),
                         yielding := decide (p = 2 ∨ (p = 1 ∧ s.cus.roleB = true)) }

/-- Show 01. -/
def show01 (s : State) : State := cusAt01 (s.withCus { s.cus with own := 1 })

/-- A ROLE = B device releases on a conflict; 0x0703 is logged on taking. It returns to Vault, as every device that is not
seated (log entry 100), and its partner drives the control lines. -/
def cusConflict (s : State) : State :=
  let t := toVault s
  t.withCus { t.cus with conflicts := incHold 0xFF t.cus.conflicts, conflictPending := true, latch := false }

/-- A new partner code is accepted. -/
def cuspChange (code : Nat) (s : State) : State :=
  let prev := s.cus.partner
  let s := s.withCus { s.cus with
    partner := code,
    sawLeave := decide (2 ≤ prev ∧ code = 0) || (s.cus.sawLeave && decide (code < 2)),
    escDrive := s.cus.escDrive && !(code == 2 && decide (s.cus.own < 2)),
    latch := s.cus.latch && !(code == 1 && decide (s.cus.own = 0)) }
  match s.cus.own with
  | 0 =>
    if prev = code then s
    else if s.pwr.phase = .awake ∧ s.pwr.step = 5 ∧ !s.started ∧ s.cus.paired ∧ (code = 3 ∨ (2 ≤ prev ∧ code = 0)) then
      (s.withPwr { s.pwr with resume := true }).withCus { s.cus with escDrive := true }
    else wakeEdge 2 s
  | 1 => cusAt01 s
  | 2 =>
    if 2 ≤ code ∧ s.cus.roleB then cusConflict s
    else if code = 1 ∧ prev ≠ 1 then
      cusEvent 0x0704 s.devLedger (s.withCus { s.cus with visits := (s.cus.visits + 1) % 256, visitAt := s.sctr })
    else s
  | _ =>
    if code = 1 then letGo s
    else if 2 ≤ code ∧ s.cus.roleB then cusConflict s
    else s

/-- CUSP_CHANGE (R419). -/
def execCuspChange (code : BitVec 2) (s : State) : Res := .next (cuspChange code.toNat s)

/-- Ownership after a switch-over (R447, R448): the offer is withdrawn and the maintenance state left. -/
def ownResume (s : State) : State :=
  let o := s.zk.owner
  let t := if o.offer.isSome ∨ o.maint then setOwner { o with offer := none, maint := false } s else s
  let p := o.node * 256 + (if o.owned then o.win else 4)
  let t := if o.offer.isSome then journalDevice 3 0 [0x0905, Word.ofNat p] (t.raise 0x0905 p) else t
  if o.maint then journalDevice 3 0 [0x0908, Word.ofNat p] (t.raise 0x0908 p) else t

/-- The seal read on taking: the partner's, or a device's own after its self-restart (R424, R427). A seal older than the newest
heartbeat is of an earlier give-up: the device that drove last has written none (R421; log entry 108). -/
def State.sealRead (s : State) : Option Seal :=
  let z := if (s.cus.paired && !s.cus.selfRestarted) != s.cus.roleB then s.esc.sealB else s.esc.sealA
  z.filter (fun z => decide (s.newestBeat.getD 0 ≤ z.sctr))

/-- What a device that seats after a resume logs (R430, R473, R526, R540). -/
def seatEvents (s : State) : State :=
  let d := s.devLedger
  let s := match s.sealRead with
    | none => s
    | some z =>
      let t := cusEvent 0x0701 (z.cause + z.fwcode * 16) s
      let t := if z.cause = 5 then t.raise 0x0C01 d else t
      if z.cause = 4 then t.raise 0x0808 t.memc.wdogInit else t
  let s := cusEvent 0x0702 s.cus.sctrSrc s
  let s := if s.cus.selfRestarted then cusEvent 0x0706 d s else s
  let s := if s.cus.conflictPending then cusEvent 0x0703 d s else s
  let s := if s.cus.sctrSrc = 4 then cusEvent 0x0707 d s else s
  let s := if s.esc.bad || s.cus.escFail then cusEvent 0x0708 d s else s
  ownResume (s.withCus { s.cus with selfRestarted := false, conflictPending := false })

/-- GUARD_EXPIRY (R419): the device shows 10 and drives its gated pins. -/
def execGuardExpiry (s : State) : Res :=
  .next (onlyIf (s.cus.own == 1 && s.cus.guard) s
    (let s := ctlFollow s
     let t := s.withCus { s.cus with own := 2, guard := false, latch := false, escDrive := true, ready := false, visitAt := s.sctr,
                                     seatAt := s.sctr }
     escSync (trgSeated (if s.pwr.resume then seatEvents t else t))))

/-- YIELD_TIMEOUT (R419): 100 ms at 01 are over. -/
def execYieldTimeout (s : State) : Res :=
  .next (onlyIf (s.cus.own == 1 && s.cus.yielding) s (toVault (s.withCus { s.cus with own := 0 })))

/-- The self-restarts of the last 600 s, by SCTR (R427, R429). -/
def State.recentRestarts (s : State) : List Nat := s.cus.restarts.filter (fun t => decide (s.sctr ≤ t + 28800000))

/-- A self-restart (R427): the fourth give-up within 600 s leaves the device in reset. -/
def selfRestart (s : State) : State :=
  let past := s.recentRestarts
  let again := decide (past.length < 3)
  let kept := s.cus.selfRestarted
  let at' := s.sctr
  let t := deviceReset s
  let t := t.withCus { t.cus with latch := true, restarts := if again then at' :: past else past, held := !again,
                                  selfRestarted := kept || again }
  releaseReset (t.withPwr { t.pwr with cause := t.pwr.cause ||| (if again then 4 else 0), taking := again })

/-- SELF_RESTART (R427): a single device after its give-up. Where the reset ends the straps are sampled (R550). -/
def execSelfRestart (straps : Word) (s : State) : Res :=
  let t := selfRestart s
  .next (onlyIf (s.cus.own == 3 && !s.cus.paired) s (onlyIf (t.pwr.phase == .awake) t (strapsTake straps t)))

/-- PARTNER_ABSENT_TIMEOUT (R419): no partner 01 within 400 ms of showing 11. -/
def execPartnerAbsentTimeout (s : State) : Res :=
  .next (onlyIf (s.cus.own == 3 && s.cus.paired && s.cus.partner != 1) s (selfRestart s))

/-- A standby's wake for its visit, where it still sleeps: the timer's wake, and the boot up to the custody decision. -/
def visitWake (s : State) : State :=
  if s.pwr.phase = .awake then s
  else
    let t := wakeNow 3 s
    t.withPwr { t.pwr with phase := .awake, good := 0x3FF, step := 5 }

/-- PRESENCE_VISIT (R419, R422): a standby whose escrow check passes shows 01 for 100 ms; one whose check fails sets
ESC_FAIL, makes no visit, and returns to Vault (log entry 100). `writes` are the heartbeat writes it has snooped, in order. -/
def execPresenceVisit (writes : List (List Word)) (s : State) : Res :=
  .next (onlyIf (s.cus.own == 0 && s.cus.paired && s.cus.partner == 2 &&
      (s.pwr.phase == .vault || (s.pwr.phase == .awake && s.pwr.step == 5 && !s.started))) s
    (let t := visitWake s
     let t := t.withCus { t.cus with escFail := !snoopOk writes }
     if snoopOk writes then show01 t else toVault t))

/-- No visit for 2 × STBY_CHECK hours since the last, since the device seated, or since this was told (R419, R429). -/
def State.standbyMissing (s : State) : Bool :=
  s.cus.own == 2 && s.cus.paired && s.started &&
    decide (s.cus.visitAt + 2 * max 1 (s.fldN 0x100F0000 8 8) * 172800000 ≤ s.sctr)

/-- CUSTODY_STANDBY_MISSING (R419, R430). -/
def execCustodyStandbyMissing (s : State) : Res :=
  .next (onlyIf s.standbyMissing s (cusEvent 0x0705 s.devLedger (s.withCus { s.cus with visitAt := s.sctr })))

/-- GIVE_UP (R420): a cause of the table. -/
def execGiveUp (cause : BitVec 4) (s : State) : Res :=
  .next (onlyIf (decide (1 ≤ cause.toNat ∧ cause.toNat ≤ 9)) s
    (letGo (giveUp cause.toNat (if cause = 9 then s.fldN 0x100F0000 0 4 else 0) s)))

/-- LOCKSTEP_MISMATCH and DIE_LINK_FAILURE (R420, R431). -/
def execLockstepMismatch (s : State) : Res := .next (letGo (giveUp 3 0 s))
def execDieLinkFailure (s : State) : Res := .next (letGo (giveUp 8 0 s))

/-- A write of CUS_CTL.GIVEUP with its FWCODE. -/
def cusGiveUp (fw : Nat) (s : State) : State := letGo (giveUp 9 fw (s.setFldN 0x100F0000 0 4 fw))

def execGiveup (fwcode : BitVec 4) (s : State) : Res := .next (cusGiveUp fwcode.toNat s)

def cusCntClr (s : State) : State := s.withCus { s.cus with conflicts := 0, visits := 0, giveUps := 0 }

/-- CNT_CLR (R429). -/
def execCntClr (s : State) : Res := .next (cusCntClr s)

/-! ## Boot (R432, R433, R550 to R554) -/

/-- Where the boot takes its image: 0 flash, 1 flash and then W0, 2 W0, 3 W2 (R550). -/
def State.bootMode (s : State) : Nat := if s.pwr.straps.fld 0 3 ≤ 3 then s.pwr.straps.fld 0 3 else 0

/-- A download has been accepted (R551). -/
def State.dlReady (s : State) : Bool := s.pwr.dlState == 1

/-- The address of an image slot in main flash (R433). -/
def slotBase (b : Bool) : Nat := if b then 0xC1000000 else 0xC0000000

/-- The FAIL code of an image slot, coded as in TLR_BOOT (R432). -/
def State.fwFail (s : State) (b : Bool) : Nat :=
  let a := slotBase b
  imageFail s.pwr.counter (s.words a (64 + min 1048576 ((s.word (a + 12)).toNat / 4)))

/-- The rollback index of the image in a slot. -/
def State.fwIndex (s : State) (b : Bool) : Nat := (s.word (slotBase b + 8)).toNat

/-- The image the ROM runs: rollback index, slot B, download; none where none is accepted. -/
def State.bootImage (s : State) : Option (Nat × Bool × Bool) :=
  if s.bootMode < 2 ∧ s.fwFail false = 0 then some (s.fwIndex false, false, false)
  else if s.bootMode < 2 ∧ s.fwFail true = 0 then some (s.fwIndex true, true, false)
  else if s.bootMode ≠ 0 ∧ s.dlReady then some ((s.pwr.dlWords.getD 2 0).toNat, false, true)
  else none

/-- SCTR is loaded: the chains' input index and the ports' ticks count from SCTR 0 (R207, R238). -/
def sctrLoads (b : Nat) (s : State) : State :=
  let s := (List.range 48).foldl (fun t c => t.setChain c { t.chain c with idx := 64 * b, firDue := none }) s
  { s with fdc := { s.fdc with now := 64 * b },
           ports := { s.ports with tick := 2048 * b } }

/-- Engine start at a boundary (R44, R340, R424, R554): SNAP, SCTR, LOCK; it is a block boundary for waiting master ports. -/
def engineStart (b : Nat) (s : State) : State :=
  let s := sctrLoads b (loopUpdate (refSnap s))
  let a := s.engine.abx
  mastersMark { s with
    sctr := b, started := true, eng := s.live
    engine := { s.engine with pos := 0, rampsEng := s.engine.ramps, abx := { a with mainEng := a.mainLive, amdEng := a.amdLive } } }

/-- The least multiple of 24 at or above a value. -/
def ceil24 (x : Nat) : Nat := (x + 23) / 24 * 24

/-- The cells of a time mark after its boundary, each of 2 AUDIO periods (R423): the mark, SCTR and the CRC-8, MSB first. The mark
itself is taken to fill one cell (log entry 108). -/
def timeMarkCells (sctr : Nat) : List Bool :=
  true :: (List.range 64).map (fun j => sctr.testBit (63 - j)) ++ (List.range 8).map (fun j => (Config.crc8 sctr).testBit (7 - j))

/-- The level of CUSTMO `t` AUDIO periods after the boundary. -/
def State.custmo (s : State) (t : Nat) : Bool := s.cus.tmSent.any (fun v => (timeMarkCells v).getD (t / 2) false)

/-- The SCTR of a mark received on CUSTMI with a good CRC. -/
def readMark (cells : List Bool) : Option Nat :=
  let v := ((cells.drop 1).take 64).foldl (fun n b => 2 * n + b.toNat) 0
  if cells = timeMarkCells v then some v else none

/-- SCTR of the last of two consecutive marks of good CRC (R425). -/
def markSctr (g : TakeSignals) : Option Nat :=
  match g.marks.reverse with
  | b :: a :: _ => match readMark a, readMark b with
    | some v, some w => if w = v + 24 then some w else none
    | _, _ => none
  | _ => none

/-- A worker's frame from upstream whose header is good. -/
def upFrame (g : TakeSignals) : Option CascadeFrame := g.frame.filter (fun f => f.hcrc && !f.up)

/-- SCTR that TB0 gives by the map of the newest heartbeat, to the nearest sample (R356, R425). -/
def State.sctrByTb (s : State) : Option Nat :=
  match s.lastBeat with
  | none => none
  | some h => if h.per = 0 then none else
      some ((h.sctr : Int) + roundDiv (((s.tb 0).val / 2 ^ 24 : Nat) - ((h.tb / 2 ^ 24 : Nat) : Int)) h.per.toNat).toNat

/-- The first source of SCTR that the device has (R425); `tb`: TB0 has run since the boot. -/
def State.sctrSource (s : State) (tb : Bool) (g : TakeSignals) : Nat :=
  if s.cus.paired && (markSctr g).isSome then 1
  else if s.cscRole == 2 && (upFrame g).isSome then 2
  else if tb && s.sctrByTb.isSome then 3
  else 4

/-- The newest SCTR in escrow: of the seal read or of the newest heartbeat. -/
def State.sealSctr (s : State) : Option Nat :=
  match s.sealRead, s.newestBeat with
  | some z, some h => some (max z.sctr h)
  | some z, none => some z.sctr
  | none, h => h

/-- CUS_WAKECNT (R429): what it had where PTP began to run, a free value, and the 7,500 PTP ticks of each period since. -/
def State.wakeCount (s : State) : Nat :=
  match s.cus.wakeAt with
  | none => 0
  | some (k, t) => min 0xFFFFFFFF ((Config.wakeCount k).toNat + (s.tbs.now - t) / 7500)

/-- SCTR at engine start, a boundary (R425, R554): the one after the last mark or frame; by TB0; else a boot goes on from the newest
heartbeat or from 0, and a resume from the newest SCTR in escrow and the time since. It is never below a journaled commit's
boundary; those that are armed again at a resume keep theirs (R426). -/
def State.startSctr (s : State) (resume : Bool) (src : Nat) (g : TakeSignals) : Nat :=
  let v := match src with
    | 1 => ceil24 ((markSctr g).getD 0) + 24
    | 2 => ceil24 (((upFrame g).map (fun f => f.sctr)).getD 0) + 24
    | 3 => ceil24 (s.sctrByTb.getD 0)
    | _ =>
      if resume then ceil24 (s.sealSctr.getD 0 + s.wakeCount * 375 / 256)
      else match s.newestBeat with
        | some h => ceil24 h + 24
        | none => 0
  match s.esc.image with
  | some z =>
    let armed := if resume then 0 else (z.cmt.armed.map (fun a => boundaryOf a.c)).getD 0
    max v (max (boundaryOf z.cmt.lastC) armed)
  | none => v

/-- The self-test fills all 192 SRAM banks with zeros (R514, R553). -/
def sramFill (s : State) : State :=
  { s with mem := s.mem.filter (fun e => decide (0x04000000 ≤ e.1)),
           memc := { s.memc with ecc := s.memc.ecc.filter (fun e => decide (0x00800000 ≤ e.1)) } }

/-- Tally image load (R180): all 64 cores are stopped, written and started; one whose task list Zekor does not admit stays
STOPPED (R175). The images stand after the fill of the self-test,
which the boot runs after this step (log entry 92). -/
def tallyLoad (s : State) : State :=
  (List.range 64).foldl (fun t k => if 499500 < t.finish t.next t.liveCycles k then t else coreStart k t)
    ((s.zk.images.filter (fun e => e.2.verdict e.1 == 0)).foldl (fun t e => e.2.words.foldl (fun t w =>
      if imagePlace e.1 w.1 then (tallyMemWrite w.1 w.2 t).1 else t) t) s)

/-- A device at 00 or 01 that may drive the escrow port (R422): its partner shows 11, before which its seal was written, or has
left; at a power-up by ROLE. A device without a partner reads its own record (R427). -/
def State.escMay (s : State) : Bool :=
  let c := s.cus
  !c.paired || c.partner == 3 || c.sawLeave || (c.partner == 0 && (c.selfRestarted ||
    (s.pwr.cold && (!c.roleB || decide (500 ≤ s.pwr.start.absent)))))

/-- Zekor of a paired device sets VCLK (R546), and the wake timer for its visits (R419, log entry 100). -/
def visitTimer (s : State) : State :=
  if s.cus.paired then
    ((s.setFldN 0x10150000 1 1 1).setFldN 0x10150000 6 1 1).setFldN 0x10150004 0 24 (3600 * max 1 (s.fldN 0x100F0000 8 8))
  else s

/-- Boot steps 1 to 5 (R552): at the custody decision a device that finds its partner seated stops for its presence visit, one
that takes over goes on with RESUME, and another shows 01. Zekor writes the node number of main flash (R405). -/
def boot (selfTest dram : Nat) (g : TakeSignals) (s : State) : State :=
  let flash := decide (s.bootMode < 2)
  let fa := if flash then s.fwFail false else 0
  let fb := if flash && fa != 0 then s.fwFail true else 0
  let image := s.bootImage
  let s := s.withPwr { s.pwr with step := 1, failA := fa, failB := fb }
  match image with
  | none => s
  | some (index, inB, dl) =>
    let s := (s.withPwr { s.pwr with index := index, slotB := inB, download := dl, start := g }).setFldN 0x10130080 0 2 dram
    if selfTest ≠ 0 then s.withPwr { s.pwr with step := 4, stFail := selfTest }
    else
      let s := visitTimer (tallyLoad (sramFill (s.withPwr { s.pwr with step := 5 })))
      let s := s.setFldN 0x100E0000 2 6 s.zk.nodeCfg
      let s := s.withCus { s.cus with escDrive := s.escMay }
      if s.cus.partner = 2 then s
      else if s.pwr.taking || s.cus.partner == 3 || s.cus.sawLeave then s.withPwr { s.pwr with resume := true }
      else show01 s

/-- Boot steps 6 and 7 (R552): the engine of a device that seated without a resume starts at a boundary. -/
def bootStart (s : State) : State :=
  let src := s.sctrSource (s.bitN (tbReg 0 0) 0) s.pwr.start
  let t := engineStart (s.startSctr false src s.pwr.start) s
  (t.withPwr { t.pwr with step := 7 }).withCus { t.cus with sctrSrc := 0, visitAt := t.sctr, seatAt := t.sctr }

/-- A boundary of a device whose engine has not started: the clock loop updates, and a device that has seated starts. -/
def idleBoundary (s : State) : State :=
  let s := { s with tbs := { s.tbs with blkAt := s.tbs.now } }
  if s.cus.own = 2 ∧ s.pwr.step = 5 ∧ ¬ s.pwr.resume then bootStart s else loopUpdate s

/-- A device that has resumed shows 01 at the boundary after its engine start (R419, R424). -/
def resumeShow (s : State) : State := if s.cus.own = 0 ∧ s.cus.ready then show01 s else s

/-- BOOT (R552): from reset release. `dram` is MEM_DRAM.SIZE of the DRAM that step 2 trains (R537). -/
def execBoot (selfTest : Word) (dram : Fin 3) (marks : List (List Bool)) (frame : Option CascadeFrame) (absent : Nat) (s : State) : Res :=
  .next (onlyIf (s.pwr.phase == .awake && s.pwr.step ≤ 1 && !s.started) s
    (boot (selfTest.fld 0 4) dram { marks := marks, frame := frame, absent := absent } s))

/-- DOWNLOAD_FRAME (R551): the ROM takes the words of a transaction or frame, header first, checks the image once its
body is complete, and answers with its status word. -/
def download (ws : List Word) (s : State) : State :=
  let p := s.pwr
  let all := p.dlWords ++ ws
  let st :=
    if p.dlState ≠ 0 then p.dlState
    else if all.length < 64 ∨ all.length < 64 + bodyLen all then 0
    else if imageFail p.counter all = 0 then 1
    else 2
  s.withPwr { p with dlWords := if p.dlState = 0 then all else p.dlWords, dlState := st,
                     dlOut := packW [(0, 4 * all.length % 2 ^ 28), (28, st)] }

def execDownloadFrame (words : List Word) (s : State) : Res :=
  .next (onlyIf (s.pwr.phase == .awake && !s.started && s.bootMode != 0 && s.pwr.step ≤ 1 &&
      (s.cus.partner == 0 || !s.cus.paired)) s
    (download words s))

/-! ## Rollback (R434) -/

/-- ROLLBACK_BLOW (R434): after 600 s seated, unless SYS ROLLBACK_HOLD holds the counter. -/
def execRollbackBlow (s : State) : Res :=
  .next (onlyIf (s.cus.own == 2 && s.started && decide (s.cus.seatAt + 28800000 ≤ s.sctr) && !s.zk.rollHold) s (s.withPwr { s.pwr with counter := max s.pwr.counter (min 64 s.pwr.index) }))

/-! ## CUS and PWR registers -/

def cusRead (a : Nat) (s : State) : Word :=
  let c := s.cus
  match a - 0x100F0000 with
  | 0x04 => packW [(0, c.own), (2, c.partner), (4, bitOf c.roleB), (5, bitOf c.paired), (6, bitOf c.escDrive),
      (7, bitOf c.escFail), (8, bitOf c.tmSeen), (9, c.sctrSrc)]
  | 0x08 => packW [(0, c.cause), (4, c.fwcode), (8, min 3 s.recentRestarts.length)]
  | 0x14 => Word.ofNat s.wakeCount
  | 0x18 => packW [(0, c.conflicts), (8, c.visits), (16, c.giveUps)]
  | _ => s.reg a

def cusWrite (a : Nat) (v : Word) (s : State) : State :=
  if a = 0x100F0000 then
    let t := s.writeRW a v
    let t := if v.bit 31 then cusCntClr t else t
    if v.bit 4 then cusGiveUp (v.fld 0 4) t else t
  else s.writeRW a v

/-- PWR_ISL: the islands that run at a boot step (R545). -/
def State.islands (s : State) : Word :=
  let n := s.pwr.step
  bitsW ([0] ++ (if 1 ≤ n then [1, 2, 3, 10, 12, 22] else []) ++
    (if 2 ≤ n then [4, 5, 6, 7, 8, 9, 11, 13, 14, 15, 16, 17, 18, 19, 20, 21] else []) ++
    (if (List.range 16).any (fun p => s.bitN (0x10060004 + 0x80 * p) 0) then [23] else []))

def pwrRead (a : Nat) (s : State) : Word :=
  let p := s.pwr
  match a - 0x10150000 with
  | 0x00 => (s.reg a).setBit 2 p.err
  | 0x08 => packW [(0, p.cause), (4, p.wakeSrc)]
  | 0x0C => packW [(0, p.good), (16, p.trip)]
  | 0x10 => s.islands
  | 0x14 => (p.straps &&& 0x1F) ||| packW [(8, p.step), (11, bitOf p.resume), (12, p.stFail)]
  | _ => s.reg a

def pwrWrite (a : Nat) (v : Word) (s : State) : State :=
  let p := s.pwr
  match a - 0x10150000 with
  | 0x00 =>
    let t := (s.writeRW a v).withPwr { p with err := p.err && !v.bit 2 }
    if v.bit 0 then vaultEnter t else t
  | 0x08 => s.withPwr { p with cause := (Word.ofNat p.cause &&& ~~~v &&& 0xF).toNat }
  | 0x0C => s.withPwr { p with trip := (Word.ofNat p.trip &&& ~~~(v >>> 16)).toNat }
  | _ => s.writeRW a v

end Sys2Proof.Machine
end

