-- ==== Sys2Proof/Machine/Teller.lean ====
section
/-!
DEFINITION. The teller windows (R435 to R442): request, response and event queues, SPI transactions, UART frames and
datagrams, and the TLR registers (R453).
-/

namespace Sys2Proof.Machine

open Sys2Proof

def State.win (s : State) (w : Nat) : Window := Tbl.getD s.zk.windows w {}
def State.setWin (s : State) (w : Nat) (x : Window) : State :=
  s.withZk { s.zk with windows := Tbl.set s.zk.windows w x {} }

/-! ## Queues and status (R435, R438, R439) -/

/-- Request words a window holds. -/
def Window.used (x : Window) : Nat := x.stream.length + (x.frames.map (fun f => f.2.2.length)).sum

/-- REQ_FREE in 8-word units. -/
def Window.reqFree (x : Window) : Nat := (2048 - x.used) / 8

/-- The words of an event entry (R472). -/
def evWords (e : EvEntry) : List Word :=
  [packW [(0, e.code), (16, e.node)], Word.ofNat e.payload, Word.ofNat e.sctrLo, Word.ofNat e.seq]

def State.evQ (s : State) (slot : Nat) : EvQueue := Tbl.getD s.evq slot {}

/-- EVT_AVAIL: for W3 the largest over its subscribers. -/
def State.evAvail (s : State) (w : Nat) : Nat :=
  if w < 3 then (s.evQ w).entries.length
  else (List.range 4).foldl (fun m k => max m (s.evQ (3 + k)).entries.length) 0

/-- This window is the owner. -/
def State.isOwnerWin (s : State) (w : Nat) : Bool :=
  s.zk.owner.owned && s.zk.owner.win == w && s.zk.owner.node == s.node

/-- The status word of R438. -/
def State.winStatus (s : State) (w : Nat) : Word :=
  packW [(0, min 4096 (s.win w).rsp.length), (13, s.evAvail w), (22, (s.win w).reqFree), (31, bitOf (s.isOwnerWin w))]

/-- HIRQ of W0 or W1 (R439). -/
def State.hirq (s : State) (w : Nat) : Bool :=
  let ctl := 0x10100100 + 0x20 * w
  s.cus.own == 2 && ((decide (0 < (s.win w).rsp.length) && s.bitN ctl 0) || (decide (0 < s.evAvail w) && s.bitN ctl 1))

/-- Remove entries from the front of an event queue; in the space that returns, 0x0909 with the number lost (R442). -/
def evConsume (slot k : Nat) (s : State) : State :=
  let q := s.evQ slot
  let q := { q with entries := q.entries.drop k }
  let q := if q.lost = 0 ∨ 256 ≤ q.entries.length then q
    else { q with
      entries := q.entries ++ [⟨0x0909, s.node, min q.lost 0xFFFF, s.sctr % 2 ^ 32, q.seq⟩]
      seq := q.seq + 1
      lost := 0 }
  { s with evq := Tbl.set s.evq slot q {} }

/-! ## SPI (R437) -/

/-- A transaction's words: the status word, and what follows it. -/
def spiOut (w : Nat) (words : List Word) (s : State) : State :=
  s.setWin w { s.win w with out := s.winStatus w :: words }

/-- The first `n` words, with 0 beyond the end. -/
def padWords (n : Nat) (ws : List Word) : List Word := (ws ++ List.replicate n 0).take n

/-- SPI_STATUS (R437). -/
def execSpiStatus (w : Fin 2) (s : State) : Res := .next (onlyIf (s.cus.own == 2) s (spiOut w [] s))

/-- PUT: the whole words shifted in, up to N, where REQ_FREE leaves room for N; else REQDROP. -/
def spiPut (w n : Nat) (words : List Word) (s : State) : State :=
  let t := spiOut w (List.replicate words.length 0) s
  let x := t.win w
  if n ≤ 8 * x.reqFree then
    t.setWin w { x with stream := x.stream ++ words.take n, db := if (words.take n).isEmpty then x.db else x.db + 1 }
  else t.setWin w { x with reqDrop := incHold 0xFFF x.reqDrop }

def execSpiPut (w : Fin 2) (n : Nat) (words : List Word) (s : State) : Res :=
  .next (onlyIf (s.cus.own == 2) s (spiPut w n words s))

/-- SPI_GET_RSP: words shifted out in full are consumed, up to RSP_AVAIL. -/
def execSpiGetRsp (w : Fin 2) (n : Nat) (s : State) : Res :=
  .next (onlyIf (s.cus.own == 2) s
    (let t := spiOut w (0 :: padWords n (s.win w).rsp) s
     t.setWin w { t.win w with rsp := (t.win w).rsp.drop n }))

/-- SPI_GET_EVT: whole entries shifted out in full are consumed. -/
def execSpiGetEvt (w : Fin 2) (n : Nat) (s : State) : Res :=
  .next (onlyIf (s.cus.own == 2) s
    (evConsume w (n / 4) (spiOut w (0 :: padWords n ((s.evQ w).entries.map evWords).flatten) s)))

/-- SPI_BAD_OP: an OP above 3 counts BADOP. -/
def execSpiBadOp (w : Fin 2) (op : BitVec 4) (s : State) : Res :=
  .next (onlyIf (s.cus.own == 2 && decide (4 ≤ op.toNat)) s
    (let t := spiOut w [] s
     t.setWin w { t.win w with badOp := incHold 0xFF (t.win w).badOp }))

/-! ## UART frames (R440) and datagrams (R441) -/

def crc16Bits : Nat → BitVec 16 → BitVec 16
  | 0, c => c
  | n + 1, c => crc16Bits n (if c.getLsbD 15 then (c <<< 1) ^^^ 0x1021 else c <<< 1)

/-- CRC-16 with polynomial 0x1021 and initial value 0xFFFF, most significant byte first. -/
def crc16 (bs : List Byte) : BitVec 16 :=
  bs.foldl (fun c (b : Byte) => crc16Bits 8 (c ^^^ ((BitVec.zeroExtend 16 b : BitVec 16) <<< 8))) 0xFFFF

/-- A word's bytes, most significant first. -/
def msbBytes (w : Word) : List Byte := [wordByte w 3, wordByte w 2, wordByte w 1, wordByte w 0]

/-- Byte stuffing between the delimiters. -/
def stuff (bs : List Byte) : List Byte :=
  (bs.map (fun (b : Byte) => if b = 0x7E ∨ b = 0x7D then ([0x7D, b ^^^ 0x20] : List Byte) else [b])).flatten

/-- A W2 frame. -/
def w2Frame (type : Byte) (ws : List Word) : List Byte :=
  let body := type :: (ws.map msbBytes).flatten
  let c := crc16 body
  ([0x7E] : List Byte) ++ stuff (body ++ [(c >>> 8).truncate 8, c.truncate 8]) ++ [0x7E]

/-- The device sends a frame on W2. -/
def w2Send (type : Byte) (ws : List Word) (s : State) : State := s.setWin 2 { s.win 2 with txd := w2Frame type ws }

/-- The bytes that stuffing stood for. -/
def unstuff : List Byte → List Byte
  | [] => []
  | [b] => [b]
  | b :: c :: t => if b = 0x7D then (c ^^^ 0x20) :: unstuff t else b :: unstuff (c :: t)

/-- The words of bytes, most significant first. -/
def msbWords : List Byte → List Word
  | a :: b :: c :: d :: t => (a ++ b ++ c ++ d) :: msbWords t
  | _ => []

/-- TYPE and payload of the bytes between the delimiters; none where the CRC is bad, or the payload is not whole words. -/
def w2Read (bytes : List Byte) : Option (Byte × List Word) :=
  let all := unstuff bytes
  let body := all.take (all.length - 2)
  match body with
  | [] => none
  | type :: t =>
    if crc16 body = all.getD (all.length - 2) 0 ++ all.getD (all.length - 1) 0 ∧ t.length % 4 = 0 then some (type, msbWords t)
    else none

/-- A frame is discarded: REQDROP counts it, and the device sends a status frame. -/
def w2Drop (s : State) : State :=
  let t := s.setWin 2 { s.win 2 with reqDrop := incHold 0xFFF (s.win 2).reqDrop }
  w2Send 4 [t.winStatus 2] t

/-- A frame arrives on W2, by the bytes between its delimiters (R440). -/
def w2Receive (bytes : List Byte) (s : State) : State :=
  let x := s.win 2
  match w2Read bytes with
  | none => w2Drop s
  | some (type, ws) =>
    if type ≠ 1 then s.setWin 2 { x with badOp := incHold 0xFF x.badOp }
    else if 2048 < x.used + ws.length then w2Drop s
    else s.setWin 2 { x with frames := x.frames ++ [(0, 0, ws)], db := x.db + 1 }

/-- `first` and `last` are the bytes at the two ends: only 0x7E delimits a frame (R440). -/
def execW2FrameReceive (first : Byte) (bytes : List Byte) (last : Byte) (s : State) : Res :=
  .next (onlyIf (s.cus.own == 2 && first == 0x7E && last == 0x7E) s (w2Receive bytes s))

/-- A datagram arrives on W3: its first word is TYPE. -/
def w3Receive (ip : Word) (port : Nat) (ws : List Word) (s : State) : State :=
  let x := s.win 3
  match ws with
  | [] => s.setWin 3 { x with badOp := incHold 0xFF x.badOp }
  | t :: body =>
    if t ≠ 0x01000000 then s.setWin 3 { x with badOp := incHold 0xFF x.badOp }
    else if 2048 < x.used + body.length ∨ 367 < body.length then
      s.setWin 3 { x with reqDrop := incHold 0xFFF x.reqDrop }
    else s.setWin 3 { x with frames := x.frames ++ [(ip, port, body)], db := x.db + 1 }

def execW3DatagramReceive (ip : Word) (port : Nat) (words : List Word) (s : State) : Res :=
  .next (onlyIf (s.cus.own == 2 && s.bitN 0x1010000C 31) s (w3Receive ip (port % 65536) words s))

/-! ## Responses leave (R436, R441) -/

/-- A response frame cut into datagrams: TYPE 0x02, then 0x05 for each further one. -/
def datagrams : Nat → Bool → List Word → List (List Word)
  | 0, _, _ => []
  | n + 1, first, ws =>
    ((if first then (0x02000000 : Word) else 0x05000000) :: ws.take 367) ::
      (if ws.length ≤ 367 then [] else datagrams n false (ws.drop 367))

/-- The front response of a window enters its response queue, where its words are known and there is room (R435). -/
def Window.enter (x : Window) : Window :=
  match x.owed with
  | o :: rest =>
    (match o.words with
     | some ws =>
       if x.rsp.length + ws.length ≤ 4096 then
         { x with owed := rest, rsp := x.rsp ++ ws, rspTo := x.rspTo ++ [(o.ip, o.port)] } else x
     | none => x)
  | [] => x

/-- Every response of a window that is ready enters the queue as room allows. -/
def Window.enterAll : Nat → Window → Window
  | 0, x => x
  | n + 1, x => Window.enterAll n x.enter

def responsesEnter (w : Nat) (s : State) : State := s.setWin w ((s.win w).enterAll (s.win w).owed.length)

/-- RESPONSE_SEND: on W0 and W1 the front response enters the queue that the host reads. W2 and W3 send the first response of the
queue, or an event entry where none waits; W3 sends nothing while EN = 0. -/
def responseSend (w : Nat) (s : State) : State :=
  let event := fun (slot : Nat) => ((s.evQ slot).entries.head?).map evWords
  if w < 2 then s.setWin w { (s.win w).enter with rspTo := [] }
  else if w = 3 ∧ ¬ s.bitN 0x1010000C 31 then s
  else
    let s := responsesEnter w s
    let x := s.win w
    match x.rsp with
    | h :: _ =>
      let n := h.fld 0 16
      let to' := x.rspTo.headD (0, 0)
      let y := { x with rsp := x.rsp.drop n, rspTo := x.rspTo.drop 1 }
      if w = 2 then s.setWin 2 { y with txd := w2Frame 2 (x.rsp.take n) }
      else s.setWin 3 { y with dgrams := (datagrams 3 true (x.rsp.take n)).map (fun d => (to'.1, to'.2, d)) }
    | [] =>
    if w = 2 then
      (match event 2 with
       | some ws => evConsume 2 1 (w2Send 3 ws s)
       | none => s)
    else if w = 3 then
      (List.range 4).foldl (fun (t : State) k =>
        match Tbl.find t.subs k, ((t.evQ (3 + k)).entries.head?).map evWords with
        | some sub, some ws =>
          let u := t.setWin 3 { t.win 3 with dgrams := (t.win 3).dgrams ++ [(sub.1, sub.2, 0x03000000 :: ws)] }
          evConsume (3 + k) 1 u
        | _, _ => t) (s.setWin 3 { x with dgrams := [] })
    else s

/-- RESPONSE_SEND (R436, R469). -/
def execResponseSend (w : Fin 4) (s : State) : Res := .next (onlyIf (s.cus.own == 2) s (responseSend w s))

/-- TLR_Ww_CTL.CLRCNT. -/
def winClr (w : Nat) (s : State) : State :=
  let t := s.setWin w { s.win w with reqDrop := 0, badOp := 0 }
  { t with evtLost := Tbl.set t.evtLost w 0 0 }

/-- WINDOW_CLRCNT (R453). -/
def execWindowClrcnt (w : Fin 4) (s : State) : Res := .next (winClr w s)

/-! ## MAINT_n (R444) -/

/-- MAINT_PIN: MAINT_n has read low for 10 ms. -/
def execMaintPin (s : State) : Res := .next (s.withZk { s.zk with maintPin := true })

/-- MAINT_PIN_HIGH: it revokes nothing. -/
def execMaintPinHigh (s : State) : Res := .next (s.withZk { s.zk with maintPin := false })

/-! ## TLR registers -/

def tlrRead (a : Nat) (s : State) : Word :=
  let o := s.zk.owner
  let p := s.pwr
  match a - 0x10100000 with
  | 0x00 => ownerWord o
  | 0x04 => o.ip
  | 0x08 => packW [(0, o.port), (31, bitOf s.zk.maintPin)]
  | 0x0C => s.reg a
  | 0x10 => packW [(0, p.counter), (7, p.index % 128), (14, bitOf p.slotB), (15, bitOf p.download), (16, p.failA), (20, p.failB)]
  | 0x14 => Word.ofNat s.oldest
  | _ =>
    if 0x10100100 ≤ a ∧ a < 0x10100180 then
      let w := (a - 0x10100100) / 0x20
      match a % 0x20 with
      | 0x00 => s.reg a
      | 0x04 => s.winStatus w
      | 0x08 => (s.win w).db
      | 0x0C => packW [(0, (s.win w).reqDrop), (12, (s.win w).badOp), (20, Tbl.getD s.evtLost w 0)]
      | _ => 0
    else 0

def tlrWrite (a : Nat) (v : Word) (s : State) : State :=
  if 0x10100100 ≤ a ∧ a < 0x10100180 ∧ a % 0x20 = 0 then
    let t := s.writeRW a v
    if v.bit 31 then winClr ((a - 0x10100100) / 0x20) t else t
  else s.writeRW a v

end Sys2Proof.Machine
end

