-- ==== Sys2Proof/Machine/Bus.lean ====
section
/-!
DEFINITION. The clearing fabric as one bus (R8, R9, R19, R523): a read and a write of the word at any address, by any
initiator. Register accesses take effect in the order in which commands stand.
-/

namespace Sys2Proof.Machine

open Sys2Proof

/-- A read of a register: its value and its side effects. -/
def regRead (i : Init) (a : Nat) (s : State) : Word × State :=
  if (regDef a).isNone then (0, s)
  else match a / 0x10000 with
    | 0x1000 => (sysRead i a s, if a = 0x10000100 then sctrBusRead i s else s)
    | 0x1001 => (abxRead a s, s)
    | 0x1002 => (rmpRead i a s, s)
    | 0x1003 => (secRead i a s, s)
    | 0x1004 => (if a = 0x10049000 then s.tlyNextBad else tallyRegRead a s, s)
    | 0x1005 => (fdcRead a s, s)
    | 0x1006 => (aptRead a s, s)
    | 0x1007 => (brgRead a s, s)
    | 0x1008 => (monRead a s, s)
    | 0x1009 => rsvRead a s
    | 0x100A => (refRead a s, s)
    | 0x100B => tbsRead i a s
    | 0x100C => (ethRead a s, s)
    | 0x100D => (lanRead a s, s.tickFree)
    | 0x100E => (cscRead i a s, s)
    | 0x100F => (cusRead a s, s.tickFree)
    | 0x1010 => (tlrRead a s, s)
    | 0x1011 => (queueRead i a s, s)
    | 0x1012 => (dmaRead a s, s)
    | 0x1013 => (memRead a s, s)
    | 0x1014 => (fabRead a s, s)
    | 0x1015 => (pwrRead a s, s)
    | 0x1016 => ctlRead a s
    | _ => (0, s)

/-- A write of a register. -/
def regWrite (i : Init) (a : Nat) (v : Word) (s : State) : State :=
  if (regDef a).isNone then s
  else match a / 0x10000 with
    | 0x1000 => sysWrite i a v s
    | 0x1001 => abxWrite a v s
    | 0x1002 => rmpWrite i a v s
    | 0x1003 => secWrite i a v s
    | 0x1004 => tallyRegWrite a v s
    | 0x1005 => pdmStop (fdcWrite a v s)
    | 0x1006 => aptWrite a v s
    | 0x1007 => brgWrite a v s
    | 0x1008 => monWrite a v s
    | 0x1009 => rsvWrite a v s
    | 0x100A => refWrite a v s
    | 0x100B => tbsWrite a v s
    | 0x100C => ethWrite a v s
    | 0x100D => lanWrite a v s
    | 0x100E => cscWrite i a v s
    | 0x100F => cusWrite a v s
    | 0x1010 => tlrWrite a v s
    | 0x1011 => queueWrite i a v s
    | 0x1012 => dmaWrite a v s
    | 0x1013 => memWrite a v s
    | 0x1014 => fabWrite a v s
    | 0x1015 => pwrWrite a v s
    | 0x1016 => ctlWrite a v s
    | _ => s

/-- A read of the word at an address (R523): an address that no target decodes answers with an error and reads 0. -/
def busRead (i : Init) (a : Nat) (s : State) : BusAns :=
  match memTarget a with
  | some t => memLoad i t a s
  | none =>
    if isRegAddr a then
      let r := regRead i (a / 4 * 4) s
      ⟨r.1, false, r.2⟩
    else busFail (fabError i a false s)

/-- A write of the word at an address (R523). -/
def busWrite (i : Init) (a : Nat) (v : Word) (s : State) : BusAns :=
  match memTarget a with
  | some t => memStore i t a v s
  | none =>
    if isRegAddr a then ⟨if (s.paramKey i (a / 4 * 4)).isSome then s.writeEpoch else 0, false, regWrite i (a / 4 * 4) v s⟩
    else busFail (fabError i a true s)

/-- REGISTER_WRITE (R19): a posted write. -/
def execRegisterWrite (init : Init) (addr val : Word) (s : State) : Res := .next (busWrite init addr.toNat val s).st

/-- Words read one after another by an initiator. -/
def busReads (i : Init) (a : Nat) : Nat → State → List Word × State
  | 0, s => ([], s)
  | n + 1, s =>
    let r := busRead i a s
    let q := busReads i (a + 4) n r.st
    (r.word :: q.1, q.2)

/-- Words written one after another. -/
def busWrites (i : Init) (a : Nat) : List Word → State → State
  | [], s => s
  | w :: ws, s => busWrites i (a + 4) ws (busWrite i a w s).st

end Sys2Proof.Machine
end

