-- ==== Sys2Proof/Machine/MoverRun.lean ====
section
/-!
DEFINITION. The mover's transfers (R529 to R531): words moved, completion of a descriptor, draining.
-/

namespace Sys2Proof.Machine

open Sys2Proof

/-- SWAP of a word: 1 bytes within half-words, 2 bytes within words, 3 half-words (R528). -/
def swapWord (k : Nat) (w : Word) : Word :=
  match k with
  | 1 => word4 (wordByte w 1) (wordByte w 0) (wordByte w 3) (wordByte w 2)
  | 2 => word4 (wordByte w 3) (wordByte w 2) (wordByte w 1) (wordByte w 0)
  | 3 => word4 (wordByte w 2) (wordByte w 3) (wordByte w 0) (wordByte w 1)
  | _ => w

/-- Move the next word of a channel; the answer says whether a response was an error (R529, R530). -/
def dmaWord (c : Nat) (s : State) : Bool × State :=
  let x := s.dma c
  let r := busRead moverInit x.src.toNat s
  if r.err then (true, r.st)
  else
    let q := busWrite moverInit x.dst.toNat (swapWord (x.ctl.fld 2 2) r.word) r.st
    if q.err then (true, q.st)
    else
      let y := q.st.dma c
      (false, q.st.setDma c { y with src := if x.ctl.bit 0 then x.src else x.src + 4,
                                     dst := if x.ctl.bit 1 then x.dst else x.dst + 4, remain := y.remain - 4 })

/-- Move up to `n` words; an error response ends the channel in ERROR with code 2. -/
def dmaWords (c : Nat) : Nat → State → State
  | 0, s => s
  | n + 1, s =>
    if (s.dma c).remain = 0 then s
    else
      let r := dmaWord c s
      if r.1 then dmaFail c 2 r.2 else dmaWords c n r.2

/-- A descriptor has completed: its interrupts, then its LINK, which a paused channel reads later (R530, R531). -/
def dmaComplete (c : Nat) (s : State) : State :=
  let x := s.dma c
  let s := if x.ctl.bit 4 then dmaIrq c s else s
  let s := if x.ctl.bit 5 then s.tallyIrq (x.ctl.fld 6 6) 2 else s
  let s := dmaYield c (s.setDma c { s.dma c with loaded := false })
  if x.aborting then
    dmaIrq c (s.setDma c { s.dma c with st := .idle, code := 3, aborting := false })
  else if s.dmaPause c then s.setDma c { s.dma c with paused := true, linkPending := true }
  else dmaLink c s

/-- DESCRIPTOR_COMPLETE (R530): the rest of the descriptor's words move and all responses return. -/
def execDescriptorComplete (c : Fin 32) (s : State) : Res :=
  .next (onlyIf (s.mover.cur == some c.val && (s.dma c).loaded && !s.dmaPause c && !(s.dma c).aborting) s
    (let u := dmaWords c ((s.dma c).remain / 4) s
     dmaSettle (if (u.dma c).st = .active then dmaComplete c u else u)))

/-- DMA_DRAINED (R531): `n` words that were in flight have moved, and the paused channel shows PAUSED or the aborted one
ends in IDLE. -/
def execDmaDrained (c : Fin 32) (n : Nat) (s : State) : Res :=
  .next (onlyIf (s.mover.cur == some c.val && (s.dma c).loaded && (s.dmaPause c || (s.dma c).aborting)) s
    (let u := dmaWords c (min n 16) s
     let x := u.dma c
     dmaSettle (if x.st ≠ .active then u
       else if x.remain = 0 then dmaComplete c u
       else if x.aborting then
         dmaIrq c (dmaYield c (u.setDma c { x with st := .idle, code := 3, loaded := false, aborting := false }))
       else dmaYield c (u.setDma c { x with paused := true }))))

end Sys2Proof.Machine
end

