-- ==== Sys2Proof/Machine/Ledger.lean ====
section
/-!
DEFINITION. Ledger numbers and rolls (R460 to R464), the nodes they name, effective beads (R95, R480), the units the
alarm service holds (R500), and ramp slots in use (R135).
-/

namespace Sys2Proof.Machine

open Sys2Proof

/-! ## Ledger numbers (R460, R461) -/

def lgNode (u : Nat) : Nat := u / 2 ^ 26 % 64
def lgCls (u : Nat) : Nat := u / 2 ^ 20 % 64
def lgIdx (u : Nat) : Nat := u % 2 ^ 20

/-- Indices of a class. -/
def clsSize (c : Nat) : Nat :=
  [0, 2048, 1024, 4096, 1024, 65536, 512, 256, 32, 64, 32, 16, 8, 4, 4, 256, 3, 4096, 1048576, 65536, 96, 1, 1].getD c 0

/-- A ledger number with node 63 standing for this node (R29). -/
def State.unit (s : State) (w : Word) : Nat :=
  if lgNode w.toNat = 63 then s.node * 2 ^ 26 + w.toNat % 2 ^ 26 else w.toNat

/-- A unit argument of a request: node 63 stands for the node that received it (R29, R460). -/
def unitOf (c : Cmd) (w : Word) : Nat :=
  if lgNode w.toNat = 63 then c.req.node * 2 ^ 26 + w.toNat % 2 ^ 26 else w.toNat

/-- How a node stands from here: 0 it can be reached, 2 absent (BAD_UNIT), 4 its map is held (BUSY) (R407, R461). A worker
sends upward what none of its maps contains. -/
def State.nodeState (s : State) (n : Nat) : Nat :=
  if n = s.node then 0
  else
    let downs := ((List.range 3).filter (fun p => !s.cpUp p)).map s.cp
    if downs.any (fun x => x.rxMap.testBit n) then 0
    else if downs.any (fun x => x.map.testBit n) then 4
    else if s.cscRole = 2 ∧ s.cpIsUp 0 then 0
    else 2

/-- The nodes of the tree as the manager sees them; this node alone elsewhere. -/
def State.treeNodes (s : State) : List Nat := if s.cscRole = 1 then nodesOf s.ownMap else [s.node]

/-- The range and existence of a unit. -/
def State.unitExists (s : State) (u : Nat) : Bool :=
  decide (lgIdx u < clsSize (lgCls u)) &&
    (lgCls u != 5 || (Tbl.find s.zk.rolls u).isSome) &&
    (lgNode u != s.node || ((lgCls u != 0x12 || (Tbl.find s.zk.scenes (lgIdx u)).isSome) &&
      (lgCls u != 0x13 || (Tbl.find s.zk.messages (lgIdx u)).isSome)))

/-- The status a unit is refused with; 0: none. -/
def State.unitBad (s : State) (u : Nat) : Nat :=
  if s.nodeState (lgNode u) ≠ 0 then s.nodeState (lgNode u) else if s.unitExists u then 0 else 2

/-! ## Rolls (R463, R464) -/

/-- A roll by ledger number. -/
def State.roll (s : State) (k : Nat) : Roll := Tbl.getD s.zk.rolls k {}

/-- What lies on or below a frontier of rolls, within `n` levels. -/
def rollDown (rs : Tbl Roll) : Nat → List Nat → List Nat → List Nat
  | 0, _, seen => seen
  | n + 1, front, seen =>
    let next := (front.flatMap (fun k => (Tbl.getD rs k {}).members)).filter (fun u => !seen.contains u)
    if next.isEmpty then seen
    else rollDown rs n (next.filter (fun u => lgCls u == 5)) (next.foldl (fun l u => insertNat u l) seen)

/-- Everything under a roll. -/
def underRoll (rs : Tbl Roll) (k : Nat) : List Nat := rollDown rs (rs.length + 1) [k] []

/-- What holds a frontier of units, within `n` levels. -/
def rollUp (rs : Tbl Roll) : Nat → List Nat → List Nat → List Nat
  | 0, _, seen => seen
  | n + 1, front, seen =>
    let next := (rs.filter (fun e => e.2.members.any front.contains && !seen.contains e.1)).map (fun e => e.1)
    if next.isEmpty then seen else rollUp rs n next (next.foldl (fun l u => insertNat u l) seen)

/-- Every distinct roll that one of the units is under. -/
def rollsOver (rs : Tbl Roll) (us : List Nat) : List Nat := rollUp rs (rs.length + 1) us []

/-- A unit argument that names a roll stands for the members of a class under it (R462). -/
def State.expandUnit (s : State) (cls u : Nat) : List Nat :=
  if lgCls u = 5 then (underRoll s.zk.rolls u).filter (fun m => lgCls m == cls) else [u]

/-- Entries of this node's object memory in use (R463). -/
def State.objectMemory (s : State) : Nat :=
  ((s.zk.rolls.filter (fun e => lgNode e.1 == s.node)).map (fun e => 1 + e.2.members.length)).sum

/-! ## Zones and holds (R493, R500) -/

/-- Valid output strips of a pair word. -/
def stripPair (w : Word) : List Nat := (if w.bit 15 then [w.fld 0 10] else []) ++ (if w.bit 31 then [w.fld 16 10] else [])

def Zone.w (z : Zone) (k : Nat) : Word := z.defn.getD k 0
def Zone.en (z : Zone) : Bool := (z.w 0).bit 15
def Zone.rod (z : Zone) : Nat := (z.w 0).fld 0 12
def Zone.mode (z : Zone) : Nat := (z.w 0).fld 12 2
def Zone.stripsA (z : Zone) : List Nat := stripPair (z.w 1) ++ stripPair (z.w 2)
def Zone.stripsB (z : Zone) : List Nat := stripPair (z.w 3) ++ stripPair (z.w 4)
def Zone.strips (z : Zone) : List Nat := z.stripsA ++ z.stripsB
def Zone.alevel (z : Zone) : Word := z.w 5
def Zone.duckLen (z : Zone) : Nat := (z.w 6).fld 0 16
def Zone.basePri (z : Zone) : Nat := (z.w 0).fld 24 8

def Plan.w (p : Plan) (k : Nat) : Word := p.defn.getD k 0
def Plan.pri (p : Plan) : Nat := (p.w 0).fld 0 8
def Plan.en (p : Plan) : Bool := (p.w 0).bit 31
def Plan.live (p : Plan) : Bool := (p.w 1).bit 31

/-- The plan word of a plan (R492). -/
def planWord (k : Nat) : Nat := k / 1024 * 2 ^ 26 + k % 1024

/-- A plan by node × 1024 + plan. -/
def State.plan (s : State) (k : Nat) : Plan := Tbl.getD s.zk.alarm.plan k {}
def State.zone (s : State) (z : Nat) : Zone := Tbl.getD s.zk.alarm.zone z {}
def State.withAlarm (s : State) (a : Alarm) : State := s.withZk { s.zk with alarm := a }
def State.setPlan (s : State) (k : Nat) (p : Plan) : State :=
  s.withAlarm { s.zk.alarm with plan := Tbl.set s.zk.alarm.plan k p {} }
def State.setZone (s : State) (z : Nat) (x : Zone) : State :=
  s.withAlarm { s.zk.alarm with zone := Tbl.set s.zk.alarm.zone z x {} }

/-- Zones a plan targets, by ledger number; those of this node. -/
def State.planZones (s : State) (p : Plan) : List Nat := s.expandUnit 4 (s.unit (p.w 3))
def State.ownZones (s : State) (p : Plan) : List Nat :=
  ((s.planZones p).filter (fun u => lgNode u == s.node)).map lgIdx

/-- The plans that hold a zone: its winner, those accepted since the last boundary, and those that a TRIGGER of this scan names
(R500). -/
def State.zoneHolders (s : State) (z : Nat) (x : Zone) : List Nat :=
  x.winner.toList ++ (s.zk.alarm.plan.filter (fun e => (e.2.accept || s.zk.alarm.soon.contains e.1) && e.2.en && x.en &&
    (s.ownZones e.2).contains z)).map (fun e => e.1)

/-- The bridge channels of output strips. -/
def State.stripBridges (s : State) (ks : List Nat) : List Nat :=
  ks.filterMap (fun k => match destOf s.live k with | some (1, n) => some n | _ => none)

/-- The priority at which the service holds a unit of this node. Players 448 to 511 are always its own. -/
def State.heldPri (s : State) (cls idx : Nat) : Option Nat :=
  let a := s.zk.alarm
  let own := if cls = 6 ∧ 448 ≤ idx ∧ idx < 512 then some 256 else none
  (a.zone.flatMap (fun e => (s.zoneHolders e.1 e.2).filterMap (fun p =>
      let pl := s.plan p
      let hit := match cls with
        | 2 => e.2.strips.contains idx
        | 3 => e.2.rod == idx || a.pathUse.any (fun u => u.2 == p && (a.paths.getD u.1 (0, 0)).1 == idx)
        | 4 => e.1 == idx
        | 6 => pl.player == some idx
        | 9 => (s.stripBridges e.2.strips).contains idx
        | 0x14 => (pl.w 4).bit 7 && (pl.w 4).fld 0 6 == idx
        | _ => false
      if hit then some pl.pri else none))).foldl (fun m p => max m (some p)) own

/-- A host write to a unit of this node ranks below its hold. -/
def State.lockedUnit (s : State) (u : Nat) : Bool :=
  lgNode u == s.node && (match s.heldPri (lgCls u) (lgIdx u) with | some p => decide (s.zk.alarm.hostPri < p) | none => false)

/-! ## Effective beads (R89, R95, R480) -/

/-- LIVE amendment and main beads of a rod that are effective. -/
def State.amdBeads (s : State) (r : Nat) : List Bead :=
  let p := s.engine.abx.amdLive
  let e := s.rod p r
  (List.range e.acount).map (fun i => s.bead p true (e.afirst + i))

def State.mainBeads (s : State) (r : Nat) : List Bead :=
  let a := s.engine.abx
  let e := s.rod a.amdLive r
  (List.range e.count).map (fun i => s.bead a.mainLive false (e.first + i))

def State.effBeads (s : State) (r : Nat) : List Bead :=
  let am := s.amdBeads r
  let cut := (am.filter (fun b => b.supersede)).map (fun b => b.src)
  (s.mainBeads r).filter (fun b => !cut.contains b.src) ++ am

/-- The effective bead of a pair: 1 main, 2 amendment. -/
def State.effBead (s : State) (r src : Nat) : Option (Nat × Bead) :=
  match (s.amdBeads r).find? (fun b => b.src == src) with
  | some b => some (2, b)
  | none => ((s.mainBeads r).find? (fun b => b.src == src)).map (fun b => (1, b))

/-- The gain a bead applies at a sample, with given slots. -/
def Bead.gainAt (b : Bead) (ds : Tbl SlotDef) (t : Int) : Int := rampGain b.frm b.tgt (rampVal ds b.ramp t)

/-- FROM of a bead that replaces the effective one at C (R89). -/
def State.fromGain (s : State) (r src c : Nat) : Int :=
  match s.effBead r src with
  | none => 0
  | some e => e.2.gainAt s.engine.ramps ((c : Int) - 1)

def State.liveRod (s : State) (r : Nat) : RodEntry := s.rod s.engine.abx.amdLive r
def State.liveRods (s : State) : List Nat := s.enabledRods s.engine.abx.amdLive

/-- The source slot of a SRC argument in class 0x00, 0x01, 0x03, 0x06 or 0x07 (R61, R462). -/
def srcSlot (u : Nat) : Option Nat :=
  match lgCls u with
  | 0 => some (u % 2 ^ 13)
  | 1 => some (lgIdx u)
  | 3 => some (2048 + lgIdx u)
  | 6 => some (6144 + lgIdx u)
  | 7 => some (6656 + lgIdx u)
  | _ => none

/-- The domain of a source slot in the LIVE set. -/
def State.liveSlotDom (s : State) (n : Nat) : Nat :=
  if n < 2048 then s.livF (keyIS n 0) 1 2
  else if n < 6144 then (s.liveRod (n - 2048)).dom
  else s.slotDom n

/-! ## Ramp slots (R135, R466) -/

/-- Slots that a LIVE bead with FROM ≠ TO, a ramping gain stage or a crossfade of the LIVE sets uses; a cancelled main bead is
LIVE until a page without it swaps (R95, R135). -/
def State.slotsInUse (s : State) : List Nat :=
  let stage := fun (g : GainSt) => if g.frm ≠ g.tgt then [g.slot] else []
  s.liveRods.flatMap (fun r => ((s.mainBeads r ++ s.amdBeads r).filter (fun b => decide (b.frm ≠ b.tgt))).map (fun b => b.ramp)) ++
    s.landed.engine.ins.flatMap (fun e => stage e.2.trim ++ stage e.2.fader ++ stage e.2.mute) ++
    s.landed.engine.ous.flatMap (fun e => stage e.2.gain ++ stage e.2.mute) ++
    s.fades.map (fun e => e.2.ramp)

/-- Slots that edits of pending changes take. -/
def editSlots : List Edit → List Nat
  | [] => []
  | .par k _ _ :: t => (if 0x10020004 ≤ k ∧ k < 0x10024000 then [(k - 0x10020000) / 4] else []) ++ editSlots t
  | _ :: t => editSlots t

def State.takenSlots (s : State) : List Nat :=
  s.slotsInUse ++ (s.zk.change.elim [] (fun c => editSlots c.edits)) ++ (s.zk.aside.elim [] (fun c => editSlots c.edits))

/-- The lowest free slot from 1 up. -/
def State.freeSlot (s : State) : Option Nat :=
  let used := s.takenSlots
  ((List.range 4095).find? (fun n => !used.contains (n + 1))).map (· + 1)

/-- Free slots, for R133. -/
def State.freeSlots (s : State) : Nat :=
  4095 - ((s.takenSlots.filter (fun n => decide (0 < n ∧ n < 4096))).foldl (fun l n => insertNat n l) []).length

end Sys2Proof.Machine
end

