-- ==== Sys2Proof/Machine/Answer.lean ====
section
/-!
DEFINITION. Answers to requests (R436, R455 to R458, R471): response words, owed responses, the audit of requests, repeated
writes, and the checks that every command shares.
-/

namespace Sys2Proof.Machine

open Sys2Proof

/-- An answer: STATUS, REASON, ARG, results, and the node at which a refusal arose where it is not this one. -/
structure Reply where
  status : Nat
  reason : Nat := 0
  arg : Nat := 0x3FF
  res : List Word := []
  node : Option Nat := none
  deriving DecidableEq, Repr

/-- What becomes of a request: answered now, waiting at the front of its window's work, or answered later. -/
inductive Ans where
  | done (r : Reply)
  | wait
  | later
  deriving DecidableEq, Repr

/-- OK with results, and refusals. -/
def okRes (ws : List Word) : Ans := .done { status := 0, res := ws }
def refuse (status reason arg : Nat) : Ans := .done { status := status, reason := reason, arg := arg }

def badUnit (arg : Nat) : Ans := refuse 2 0 arg
def badParam (arg : Nat) : Ans := refuse 3 0 arg
def badFormat (arg : Nat) : Ans := refuse 0x0A 5 arg

/-- The place of a status in the order of R471. -/
def checkOrder (status : Nat) : Nat :=
  match status with
  | 0x0A => 1
  | 0x0B => 2
  | 0x01 => 3
  | 0x02 => 4
  | 0x03 => 5
  | 0x0C => 6
  | 0x04 => 7
  | 0x05 => 8
  | 0x09 => 9
  | _ => 10

/-- Of two refusals the one whose check comes first; of one check the first. -/
def Reply.firstOf (a b : Reply) : Reply := if checkOrder b.status < checkOrder a.status then b else a

/-- The words of a response (R456). NODE is 0 in an answer that refuses nothing. -/
def respWords (op : Nat) (seq : Word) (r : Reply) (node : Nat) : List Word :=
  packW [(0, 3 + r.res.length), (16, op)] :: seq ::
    packW [(0, r.status), (8, r.reason), (16, r.arg), (26, if r.status = 0 then 0 else r.node.getD node)] :: r.res

/-! ## Owed responses -/

/-- A slot waits for the answer of this request: SEQ, source and arguments agree, and the opcode where one is given, as it is but for
a write, which R458 tells from others without it. -/
def RespSlot.waitsFor (o : RespSlot) (q : Req) (op : Option Nat) : Bool :=
  o.words.isNone && op.all (fun k => o.op == k) && o.seq == q.seq && o.ip == q.ip && o.port == q.port && o.crc == crc32 q.args

/-- The first open slot that waits for an answer takes it; every one that does takes that of a write, which may have been sent again
while it was outstanding (R458). -/
def fillOwed (q : Req) (op : Option Nat) (ws : List Word) : List RespSlot → List RespSlot
  | [] => []
  | o :: t =>
    if o.waitsFor q op then { o with words := some ws } :: (if op.isNone then fillOwed q op ws t else t)
    else o :: fillOwed q op ws t

def fillSlots (q : Req) (op : Option Nat) (ws : List Word) (x : Window) : Window := { x with owed := fillOwed q op ws x.owed }

/-- An answer on its way to its window (R31). -/
def deliver (q : Req) (op : Option Nat) (ws : List Word) (s : State) : State :=
  if q.node = s.node then s.setWin q.win (fillSlots q op ws (s.win q.win)) else cscSend (.response q.node q op ws) s

/-- The response slot of a request taken from a window of this node. -/
def oweResponse (c : Cmd) (s : State) : State :=
  let q := c.req
  if q.node = s.node then
    s.setWin q.win { s.win q.win with owed := (s.win q.win).owed ++ [⟨c.op % 2 ^ 16, q.seq, q.ip, q.port, crc32 q.args, none⟩] }
  else s

/-- Every OWN response carries the owner word (R477). -/
def Reply.forOwn (r : Reply) (op : Nat) (s : State) : Reply :=
  if 0x0201 ≤ op ∧ op ≤ 0x0207 ∧ r.res = [] then { r with res := [ownerWord s.zk.owner] } else r

/-- The words of the answer to a request. -/
def State.answerWords (s : State) (c : Cmd) (r : Reply) : List Word := respWords c.op c.req.seq (r.forOwn c.op s) s.node

/-- Answer a request. -/
def answer (c : Cmd) (r : Reply) (s : State) : State := deliver c.req (some (c.op % 2 ^ 16)) (s.answerWords c r) s

/-- Answer a journaled request: the entry keeps the answer for R458. -/
def answerEntry (jseq : Nat) (c : Cmd) (r : Reply) (s : State) : State :=
  let ws := s.answerWords c r
  let t := s.withEsc { s.esc with journal := s.esc.journal.map (fun a => if a.seq = jseq then { a with answer := some ws } else a) }
  deliver c.req none ws t

/-! ## The audit of requests (R449, R450) -/

/-- The entry of a request; a refused one carries no arguments. -/
def State.reqEntry (s : State) (kind status : Nat) (c : Cmd) : Audit :=
  { s.entry kind c.req.win c.req.node c.op status c.req.seq (if kind = 2 then [] else c.req.args) c.req.ip c.req.port with
    argCrc := crc32 c.req.args }

/-- Write the entry; answers its sequence number. -/
def journalReq (kind status : Nat) (c : Cmd) (s : State) : Nat × State :=
  let t := journalPut (s.reqEntry kind status c) s
  (t.esc.nextSeq - 1, t)

/-- The held entry of the same window, node, source and SEQ, one with the same arguments before others (R458). -/
def State.sameIdentity (s : State) (c : Cmd) : Option Audit :=
  let held := s.esc.journal.filter (fun a => decide (a.kind ≤ 3) && a.source == c.req.win.val && a.node == c.req.node &&
    a.ip == c.req.ip && a.port == c.req.port && a.reqSeq == c.req.seq)
  (held.find? (fun a => a.argCrc == crc32 c.req.args)).or held.head?

/-! ## The command table (R476) -/

/-- A command's kind: read, write, maintenance write, ownership, window-local. -/
inductive CmdKind where
  | read
  | write
  | maint
  | own
  | local
  deriving DecidableEq, Repr

/-- What the catalogue says of a command: its kind, the fewest and the most arguments, the number that repeats beyond the
fewest, and the argument that names the node to act. -/
structure CmdSpec where
  kind : CmdKind
  least : Nat
  most : Nat
  step : Nat
  unitArg : Option Nat
  deriving DecidableEq, Repr

/-- The arguments of a command whose number is fixed. -/
def fixedArgs (k : CmdKind) (n : Nat) (u : Option Nat := none) : Option CmdSpec := some ⟨k, n, n, 1, u⟩

/-- The catalogue by GROUP × 256 + OPCODE; the arguments are those of its rows. -/
def cmdSpec (op : Nat) : Option CmdSpec :=
  match op with
  | 0x0101 => fixedArgs .read 0
  | 0x0102 => fixedArgs .read 0
  | 0x0103 => fixedArgs .maint 0
  | 0x0104 => some ⟨.maint, 2, 1022, 1, none⟩
  | 0x0105 => fixedArgs .read 1
  | 0x0106 => fixedArgs .write 1
  | 0x0201 => fixedArgs .own 0
  | 0x0202 => fixedArgs .own 1
  | 0x0203 => fixedArgs .own 0
  | 0x0204 => fixedArgs .own 0
  | 0x0205 => fixedArgs .own 0
  | 0x0206 => fixedArgs .own 1
  | 0x0207 => fixedArgs .read 0
  | 0x0301 => fixedArgs .read 3 (some 0)
  | 0x0302 => some ⟨.write, 6, 1020, 3, some 3⟩
  | 0x0303 => fixedArgs .write 4 (some 3)
  | 0x0304 => fixedArgs .write 1 (some 0)
  | 0x0305 => fixedArgs .write 1 (some 0)
  | 0x0306 => some ⟨.write, 5, 1022, 1, some 3⟩
  | 0x0307 => some ⟨.write, 5, 1022, 1, some 3⟩
  | 0x0308 => fixedArgs .write 4 (some 3)
  | 0x0309 => fixedArgs .read 2 (some 0)
  | 0x030A => fixedArgs .read 3 (some 0)
  | 0x0401 => some ⟨.write, 6, 1020, 3, some 3⟩
  | 0x0402 => some ⟨.write, 5, 1021, 2, some 3⟩
  | 0x0403 => fixedArgs .read 2 (some 0)
  | 0x0404 => fixedArgs .read 2 (some 0)
  | 0x0405 => fixedArgs .read 1 (some 0)
  | 0x0501 => fixedArgs .write 2
  | 0x0502 => fixedArgs .write 4
  | 0x0503 => fixedArgs .write 1
  | 0x0504 => fixedArgs .write 5
  | 0x0505 => fixedArgs .read 0
  | 0x0506 => fixedArgs .read 0
  | 0x0601 => fixedArgs .write 8 (some 3)
  | 0x0602 => fixedArgs .write 4 (some 3)
  | 0x0603 => fixedArgs .read 1 (some 0)
  | 0x0604 => fixedArgs .read 0
  | 0x0701 => fixedArgs .write 2 (some 0)
  | 0x0702 => fixedArgs .write 2
  | 0x0703 => fixedArgs .write 2
  | 0x0704 => fixedArgs .write 2
  | 0x0705 => fixedArgs .read 0
  | 0x0706 => fixedArgs .maint 9 (some 0)
  | 0x0707 => fixedArgs .read 1 (some 0)
  | 0x0708 => fixedArgs .write 9 (some 0)
  | 0x0709 => fixedArgs .read 1 (some 0)
  | 0x0801 => fixedArgs .write 2 (some 0)
  | 0x0802 => fixedArgs .write 6 (some 3)
  | 0x0803 => fixedArgs .read 1 (some 0)
  | 0x0901 => fixedArgs .write 2
  | 0x0902 => fixedArgs .read 1
  | 0x0903 => fixedArgs .write 32
  | 0x0904 => fixedArgs .read 0
  | 0x0A01 => fixedArgs .write 2
  | 0x0A02 => fixedArgs .write 2 (some 0)
  | 0x0A03 => some ⟨.write, 1, 1022, 1, none⟩
  | 0x0A04 => some ⟨.write, 1, 4, 1, none⟩
  | 0x0A05 => fixedArgs .read 0
  | 0x0B01 => fixedArgs .write 2 (some 0)
  | 0x0B02 => some ⟨.write, 2, 9, 1, some 0⟩
  | 0x0B03 => fixedArgs .write 2 (some 0)
  | 0x0B04 => fixedArgs .read 1 (some 0)
  | 0x0C01 => fixedArgs .write 3 (some 0)
  | 0x0C02 => some ⟨.write, 5, 131, 2, none⟩
  | 0x0C03 => fixedArgs .write 5 (some 3)
  | 0x0C04 => fixedArgs .read 0
  | 0x0D01 => fixedArgs .read 0
  | 0x0D02 => fixedArgs .write 2
  | 0x0D03 => fixedArgs .write 1
  | 0x0D04 => fixedArgs .maint 1
  | 0x0E01 => fixedArgs .read 3 (some 0)
  | 0x0E02 => some ⟨.maint, 3, 1022, 1, some 0⟩
  | 0x0F01 => fixedArgs .read 2
  | 0x0F02 => fixedArgs .write 0
  | 0x1001 => fixedArgs .local 1
  | 0x1002 => some ⟨.local, 0, 1, 1, none⟩
  | 0x1003 => fixedArgs .local 1
  | _ => none

/-- The number of arguments fits; else the index of the first one missing or too many. -/
def CmdSpec.countBad (x : CmdSpec) (n : Nat) : Option Nat :=
  if n < x.least then some n
  else if x.most < n then some x.most
  else if (n - x.least) % x.step ≠ 0 then some (n - (n - x.least) % x.step)
  else none

/-- The request comes from the owner; on W3 from the bound source (R443, R446). -/
def State.fromOwner (s : State) (q : Req) : Bool :=
  let o := s.zk.owner
  o.owned && o.win == q.win.val && o.node == q.node && (q.win.val != 3 || (o.ip == q.ip && o.port == q.port))

/-- The check of R443: the status of a request that may not pass; 0: it may. -/
def State.ownCheck (s : State) (k : CmdKind) (q : Req) : Nat :=
  match k with
  | .write => if s.fromOwner q then 0 else 1
  | .maint => if s.fromOwner q && s.zk.owner.maint then 0 else 1
  | _ => 0

/-! ## The timing block (R466, R467) -/

structure Timing where
  asap : Bool
  stage : Bool
  nowait : Bool
  partHeld : Bool
  fanout : Bool
  shape : Nat
  len : Nat
  c : Nat
  deriving DecidableEq, Repr

def timingOf (args : List Word) : Timing :=
  let t0 := args.getD 0 0
  { asap := t0.fld 0 3 == 0, stage := t0.fld 0 3 == 2, nowait := t0.bit 3, partHeld := t0.bit 4, fanout := t0.bit 8,
    shape := t0.fld 5 3, len := t0.fld 12 20, c := (args.getD 1 0).toNat + (args.getD 2 0).toNat * 2 ^ 32 }

/-- A reserved bit of T0, or a reserved WHEN, is FORMAT. -/
def timingFormat (args : List Word) : Bool := (args.getD 0 0).fld 9 3 != 0 || decide (2 < (args.getD 0 0).fld 0 3)

/-- RMP_CFG of the command's slot: AT_COMMIT (R466). -/
def Timing.cfg (t : Timing) : Word := packW [(0, t.shape), (8, t.len)]

/-- BAD_PARAM of a timing block: SHAPE above 5, or a C that does not meet R467. -/
def timingParam (t : Timing) (soon : Nat) : Option Reply :=
  if 5 < t.shape then some { status := 3, arg := 0 }
  else if ¬ t.asap ∧ ¬ t.stage ∧ t.c < soon then some { status := 3, reason := 0x20, arg := 1 }
  else none

/-- The first boundary a commit of one node may take now (R125, R467). -/
def State.soonest (s : State) : Nat := 24 * (s.sctr / 24 + 2)

/-- The earliest C a tree commit may take now (R128), and the first multiple of 24 that meets it (R467). -/
def State.leastTree (s : State) : Nat := s.sctr + 24 * (8 + 2 * s.subDepth)
def State.soonestTree (s : State) : Nat := ceil24 s.leastTree

end Sys2Proof.Machine
end

