-- ==== Sys2Proof/Machine/Object.lean ====
section
/-!
DEFINITION. Objects and their parameters (R464, R465, R476): the register fields a PARAM names, host values under roll and
service factors, EQ bands on sections, and what each edit of a change writes into the NEXT sets.
-/

namespace Sys2Proof.Machine

open Sys2Proof

def tellerInit : Init := 0

/-- Zekor writes a NEXT parameter: the epoch of the write is the Teller's (R122). -/
def State.zkNxt (s : State) (k : Nat) (v : Word) : State :=
  (s.setNxt k v).setIniReg keyWepoch tellerInit (Word.ofNat s.engine.cmt.epoch)

/-! ## Checked results -/

inductive Chk (α : Type) where
  | ok (a : α)
  | bad (r : Reply)
  deriving DecidableEq, Repr

def Chk.bind {α β : Type} (x : Chk α) (f : α → Chk β) : Chk β :=
  match x with
  | .ok a => f a
  | .bad r => .bad r

/-- Two checks of one request: of two failures the one that R471 puts first. -/
def Chk.both {α β : Type} (x : Chk α) (y : Chk β) : Chk (α × β) :=
  match x, y with
  | .ok a, .ok b => .ok (a, b)
  | .bad r, .ok _ => .bad r
  | .ok _, .bad r => .bad r
  | .bad r, .bad q => .bad (r.firstOf q)

/-- Check the elements of a list and join what they give. -/
def Chk.all {α β : Type} (f : α → Chk (List β)) : List α → Chk (List β)
  | [] => .ok []
  | a :: t => ((f a).both (Chk.all f t)).bind (fun p => .ok (p.1 ++ p.2))

/-- Check the elements of a list, each on what the state becomes by those before it, and join what they give. -/
def Chk.thread {α β : Type} (f : α → State → Chk (List β)) (go : List β → State → State) : List α → State → Chk (List β)
  | [], _ => .ok []
  | a :: t, s =>
    match f a s with
    | .ok es => (Chk.thread f go t (go es s)).bind (fun ys => .ok (es ++ ys))
    | .bad r =>
      match Chk.thread f go t s with
      | .ok _ => .bad r
      | .bad q => .bad (r.firstOf q)

def Chk.fail {α : Type} (status reason arg : Nat) : Chk α := .bad { status := status, reason := reason, arg := arg }

/-! ## The fields of unit registers (R476): register word, low bit, width, and whether software writes it -/

def isFields : List (Nat × Nat × Nat × Bool) :=
  [(0, 0, 1, true), (0, 1, 2, true), (0, 3, 1, true), (0, 4, 1, true), (0, 5, 1, true), (0, 6, 1, true), (0, 8, 2, true),
   (0, 16, 16, true), (1, 0, 15, true), (1, 16, 15, true), (2, 0, 32, true), (3, 0, 32, true), (4, 0, 12, true),
   (4, 16, 12, true), (5, 0, 1, true), (5, 16, 12, true), (6, 0, 16, true), (6, 16, 2, true), (6, 20, 4, true),
   (7, 0, 1, true), (7, 1, 6, true), (7, 8, 4, true), (7, 16, 15, true), (7, 31, 1, true), (8, 0, 11, true),
   (8, 16, 14, true), (15, 0, 1, false), (15, 1, 1, false), (15, 2, 1, false), (15, 3, 1, false), (15, 4, 1, false),
   (15, 16, 16, false)]

def osFields : List (Nat × Nat × Nat × Bool) :=
  [(0, 0, 1, true), (0, 1, 2, true), (0, 3, 1, true), (0, 16, 12, true), (1, 0, 16, true), (1, 16, 5, true), (2, 0, 1, true),
   (2, 1, 6, true), (2, 8, 4, true), (2, 16, 15, true), (2, 31, 1, true), (3, 0, 17, true), (4, 0, 32, true),
   (5, 0, 12, true), (5, 16, 12, true), (5, 31, 1, true), (6, 0, 3, true), (6, 16, 15, true), (15, 0, 1, false),
   (15, 1, 1, false)]

def aptFields : List (Nat × Nat × Nat × Bool) :=
  [(0, 0, 1, true), (0, 1, 2, true), (0, 3, 2, true), (0, 5, 2, true), (0, 7, 5, true), (0, 12, 2, true), (0, 14, 1, true),
   (0, 15, 1, true), (0, 16, 1, true), (0, 17, 1, true), (0, 18, 1, true), (0, 24, 4, true), (1, 0, 1, true),
   (1, 1, 1, true), (1, 2, 4, true), (1, 30, 1, true), (2, 0, 3, false), (2, 3, 1, false), (2, 4, 1, false),
   (2, 16, 16, false), (3, 0, 32, true), (4, 0, 32, true), (5, 0, 1, true), (6, 0, 16, false), (6, 31, 1, false),
   (7, 0, 32, false), (8, 0, 32, false), (9, 0, 32, false), (10, 0, 16, false), (10, 16, 16, false), (11, 0, 16, false),
   (11, 16, 16, false), (12, 0, 32, false), (16, 0, 32, false), (17, 0, 32, false), (18, 0, 16, false), (18, 16, 16, false)]

def brgFields : List (Nat × Nat × Nat × Bool) :=
  [(0, 0, 1, true), (0, 1, 1, true), (0, 2, 4, true), (0, 8, 8, true), (0, 16, 8, true), (0, 31, 1, true), (1, 0, 12, true),
   (1, 31, 1, false), (2, 0, 4, false), (2, 4, 1, false), (2, 5, 1, false), (2, 6, 1, false), (2, 7, 1, false),
   (2, 8, 2, false), (2, 10, 1, true), (2, 11, 1, true), (2, 12, 1, false), (3, 0, 2, true), (4, 0, 16, false),
   (4, 16, 8, false), (4, 31, 1, true), (5, 0, 32, false)]

def fdcFields : List (Nat × Nat × Nat × Bool) :=
  [(0, 0, 1, true), (0, 1, 1, true), (0, 2, 3, true), (0, 5, 2, true), (0, 16, 9, true), (1, 0, 32, true), (2, 0, 6, true),
   (3, 0, 1, false), (3, 1, 1, false), (3, 2, 1, true), (3, 3, 1, false), (4, 0, 20, true), (4, 31, 1, true),
   (5, 0, 32, true), (6, 0, 32, false), (7, 0, 22, true), (8, 0, 32, false), (9, 0, 32, false), (10, 0, 32, true),
   (11, 0, 32, true), (12, 0, 32, false)]

/-- The fields of a unit and the address of its register base; for strips the base of their keys. -/
def unitFields (cls idx : Nat) : List (Nat × Nat × Nat × Bool) × Nat :=
  match cls with
  | 1 => (isFields, keyIS idx 0)
  | 2 => (osFields, keyOS idx 0)
  | 8 => if idx < 16 then (aptFields, 0x10060000 + 0x80 * idx) else (fdcFields, 0x10050000 + 0x40 * (16 + idx))
  | 9 => (brgFields, 0x10070000 + 0x40 * idx)
  | 10 => (fdcFields, 0x10050000 + 0x40 * idx)
  | _ => ([], 0)

/-- The field a PARAM below 0x4000 names. -/
def unitField (cls idx prm : Nat) : Option (Nat × Nat × Nat × Bool) :=
  (unitFields cls idx).1.find? (fun f => decide (prm < 0x4000) && f.1 == prm / 256 && f.2.1 == prm % 256)

/-- The fields that Zekor allocates. -/
def allocated (cls : Nat) (f : Nat × Nat × Nat × Bool) : Bool :=
  if cls = 1 then [(0, 0), (6, 0), (6, 16), (6, 20), (7, 1), (7, 8), (8, 16)].contains (f.1, f.2.1)
  else if cls = 2 then [(0, 0), (1, 0), (1, 16), (2, 1), (2, 8)].contains (f.1, f.2.1)
  else false

/-- Where the ramp slot of a ramping field lies: offset and low bit (R82). -/
def rampField (cls woff lo : Nat) : Option (Nat × Nat) :=
  if cls = 1 then
    (match woff, lo with
     | 2, 0 => some (0x10, 0)
     | 3, 0 => some (0x10, 16)
     | 5, 0 => some (0x14, 16)
     | _, _ => none)
  else if cls = 2 then
    (match woff, lo with
     | 4, 0 => some (0x14, 0)
     | 5, 31 => some (0x14, 16)
     | _, _ => none)
  else none

/-- The field's value stands under roll and service factors (R464). -/
def factored (cls woff lo : Nat) : Bool :=
  (cls == 1 && ((woff, lo) == (3, 0) || (woff, lo) == (5, 0))) || (cls == 2 && ((woff, lo) == (4, 0) || (woff, lo) == (5, 31)))

/-- The mask of a field. -/
def fldMask (lo len : Nat) : Word := Word.ofNat ((2 ^ len - 1) * 2 ^ lo)

/-! ## Reserve parameters (R323), numbered in the order of its table -/

def rsvDefault (n : Nat) : Rat :=
  ([0, 0, 1 / 10, 48, 40, 10, 2048, 24, 30, 200, 0, 5 / 4, 220, 6, -1, 17 / 20, 16, 3435, 10000, 1 / 2, 20, 2 / 5, 600, 40, 85,
    110] : List Rat).getD n 0

def State.rsvPar (s : State) (n : Nat) : Rat :=
  match Tbl.find s.zk.rsv.par n with
  | some w => if n = 1 ∨ n = 14 then (w.toNat : Rat) else Config.rsvNum n w
  | none => rsvDefault n

/-- This node has the battery (R323). -/
def State.hasBattery (s : State) : Bool := decide (s.rsvPar 1 ≠ 0)

/-- Reduction steps in force: this node's own, or those of the node with the battery. -/
def State.stepsInForce (s : State) : Nat :=
  if s.hasBattery then s.zk.rsv.steps else (s.zk.rsv.remote.map (fun r => r.2.2)).getD 0

/-! ## Host values and factors (R464, R320, R510) -/

/-- The priority of the programme a zone carries. -/
def State.zonePri (s : State) (z : Zone) : Nat :=
  match z.winner with
  | some p => (s.plan p).pri
  | none => z.basePri

/-- The zones that carry an output strip. -/
def State.zonesOf (s : State) (k : Nat) : List (Nat × Zone) := s.zk.alarm.zone.filter (fun e => e.2.strips.contains k)

/-- DIM, and COMP on the sound circuit, as gains (R320, R510). -/
def State.zoneGains (s : State) (k : Nat) (z : Zone) : List Int :=
  (if 1 ≤ s.stepsInForce ∧ (s.zonePri z : Rat) < s.rsvPar 12 then [(dbGain (-(s.rsvPar 13)) : Int)] else []) ++
    (if z.mode = 1 ∧ z.rerouted ∧ ((z.failA ∧ ¬ z.failB ∧ z.stripsB.contains k) ∨ (z.failB ∧ ¬ z.failA ∧ z.stripsA.contains k))
     then [(dbGain (((z.w 0).fld 16 8 : Rat) / 4) : Int)] else [])

/-- What the service mutes: a circuit with an output-stage fault, and the silent circuit of STANDBY (R510). -/
def State.zoneMutes (k : Nat) (z : Zone) : Bool :=
  (z.stageA && z.stripsA.contains k) || (z.stageB && z.stripsB.contains k) ||
    (z.en && z.mode == 2 && ((z.rerouted && z.stripsA.contains k) || (!z.rerouted && z.stripsB.contains k)))

/-- Gain factors and mutes of a strip: of the rolls it is under, itself or through its zones, and of the services. -/
def State.factorsOf (s : State) (cls idx : Nat) : List Int × Bool :=
  let zs := if cls = 2 then s.zonesOf idx else []
  let us := s.ledger cls idx :: zs.map (fun e => s.ledger 4 e.1)
  let rs := (rollsOver s.zk.rolls us).map s.roll
  (rs.map (fun r => sval r.gain) ++ zs.flatMap (fun e => s.zoneGains idx e.2),
    rs.any (fun r => r.mute) || zs.any (fun e => State.zoneMutes idx e.2))

/-- The host's gain under its factors: the exact product, floored, saturated. -/
def gainUnder (host : Int) (fs : List Int) : Int := sat32 (host * fs.prod / 2 ^ (27 * fs.length))

/-- Keys of the factored values: gain and mute word of a strip. -/
def gainKey (cls idx : Nat) : Nat := if cls = 1 then keyIS idx 0xC else keyOS idx 0x10
def muteKey (cls idx : Nat) : Nat := if cls = 1 then keyIS idx 0x14 else keyOS idx 0x14
def muteBit (cls : Nat) : Nat := if cls = 1 then 0 else 31

/-- The host's value: as set, else what the NEXT set holds. -/
def State.hostGain (s : State) (hv : Tbl Word) (cls idx : Nat) : Word := Tbl.getD hv (gainKey cls idx) (s.nxt (gainKey cls idx))
def State.hostMute (s : State) (hv : Tbl Word) (cls idx : Nat) : Bool :=
  match Tbl.find hv (muteKey cls idx) with
  | some w => w.bit 0
  | none => (s.nxt (muteKey cls idx)).bit (muteBit cls)

def State.putHost (s : State) (key : Nat) (v : Word) : State := s.withZk { s.zk with hostVal := Tbl.put s.zk.hostVal key v }

/-- Write a ramping value of a strip and the slot it ramps on, where the value changes. -/
def putRamped (key : Nat) (v mask : Word) (rkey rlo slot : Nat) (s : State) : State :=
  if mergeMask (s.nxt key) v mask = s.nxt key then s
  else
    let t := s.zkNxt key (mergeMask (s.nxt key) v mask)
    t.zkNxt rkey ((t.nxt rkey).setFld rlo 12 slot)

/-- Form a strip's gain and mute again from the host's values (R464). -/
def refreshStrip (cls idx slot : Nat) (s : State) : State :=
  let g := s.hostGain s.zk.hostVal cls idx
  let m := s.hostMute s.zk.hostVal cls idx
  let f := s.factorsOf cls idx
  let s := (s.putHost (gainKey cls idx) g).putHost (muteKey cls idx) (Word.ofNat (bitOf m))
  let s := putRamped (gainKey cls idx) (Word.ofInt (gainUnder (sval g) f.1)) 0xFFFFFFFF
    (if cls = 1 then keyIS idx 0x10 else keyOS idx 0x14) (if cls = 1 then 16 else 0) slot s
  putRamped (muteKey cls idx) (if m || f.2 then 0xFFFFFFFF else 0) (fldMask (muteBit cls) 1) (muteKey cls idx) 16 slot s

/-- The limiter's ceiling word of an output strip with a task, in the NEXT set. -/
def State.ceilKey (s : State) (k : Nat) : Option Nat :=
  if (s.nxt (keyOS k 8)).bit 0 then
    ((entriesOf s.next 1 k).head?).map (fun e => keyParam e.1 e.2.1 (Config.ceilWord % 60))
  else none

/-- Form a limiter's ceiling again: CREST and the derating of the strip's channel (R320, R322). -/
def refreshCeil (k : Nat) (s : State) : State :=
  match s.ceilKey k with
  | none => s
  | some key =>
    let host := Tbl.getD s.zk.hostVal key (s.nxt key)
    let down : Rat := (if 2 ≤ s.stepsInForce then 3 else 0) +
      ((s.stripBridges [k]).map (fun n => ((Tbl.getD s.zk.rsv.derate n 0 : Nat) : Rat))).sum
    let v := if down = 0 then host else Config.ceilDown host down
    let s := s.putHost key host
    if v = s.nxt key then s else s.zkNxt key v

/-- The strips of this node whose values a set of units acts on: strips, and the output strips of zones. -/
def State.stripsUnder (s : State) (us : List Nat) : List (Nat × Nat) :=
  us.flatMap (fun u =>
    if lgNode u ≠ s.node then []
    else if lgCls u = 1 ∨ lgCls u = 2 then [(lgCls u, lgIdx u)]
    else if lgCls u = 4 then (s.zone (lgIdx u)).strips.map (fun k => (2, k))
    else [])

/-- Output strips that stand under service factors or have stood under them: those of zones, and those whose host value is kept
apart. -/
def State.factoredStrips (s : State) : List Nat :=
  (s.zk.alarm.zone.flatMap (fun (e : Nat × Zone) => e.2.strips) ++
    s.zk.hostVal.filterMap (fun (e : Nat × Word) =>
      if 0x200000000 ≤ e.1 ∧ e.1 < 0x300000000 then some ((e.1 - 0x200000000) / 0x40) else none)).eraseDups

/-- Form those strips' values and every limiter's ceiling again. -/
def refreshAll (slot : Nat) (s : State) : State :=
  let ks := s.factoredStrips
  let s := ks.foldl (fun t k => refreshStrip 2 k slot t) s
  (enabledOS s.next).foldl (fun t k => refreshCeil k t) s

/-! ## EQ bands on sections (R148, R149, R152, R476) -/

/-- The key of an EQ or high-pass value. -/
def eqKey (cls idx prm : Nat) : Nat := cls * 2 ^ 32 + idx * 2 ^ 16 + prm
def State.eqVal (s : State) (cls idx prm : Nat) : Word := Tbl.getD s.zk.eqBands (eqKey cls idx prm) 0

/-- The PARAM is an EQ or high-pass value of the class, and the value is one it takes. -/
def eqParam (cls prm : Nat) : Bool :=
  (decide (0x4000 ≤ prm ∧ prm < 0x5000) && decide (prm % 256 < 4) &&
    ((cls == 1 && decide ((prm - 0x4000) / 256 < 8)) || (cls == 2 && decide ((prm - 0x4000) / 256 < 16)))) ||
    (cls == 1 && (prm == 0x5000 || prm == 0x5001))

def eqValueOk (prm : Nat) (v : Word) : Bool :=
  if prm = 0x5000 then v == 0 || v == 2 || v == 4
  else if prm < 0x5000 ∧ prm % 256 = 0 then decide (v.toNat ≤ 7)
  else true

/-- The section words of real coefficients: Q2.29 by R35 (R36). -/
def secWords (cs : List Rat) : List Word := cs.map (fun x => Word.ofInt (codeOf 29 x))

/-- A b coefficient reaches ±4 (R152). -/
def reaches4 (cs : List Rat) : Bool := (cs.take 3).any (fun x => decide (2 ^ 31 ≤ (roundDiv (x.num * 2 ^ 29) x.den).natAbs))

/-- The sections of an EQ band from its TYPE, frequency, gain and Q words (R476): one, or for a boost whose b coefficients would
reach ±4 two adjacent ones of half the boost each (R152). -/
def eqSections (ty : Nat) (f g q : Word) (dom : Nat) : List (List Word) :=
  let cs := fun (db : Rat) => Config.eqCoef ty ((f.toNat : Rat) / 16) db ((q.toNat : Rat) / 256) dom
  let db : Rat := (g.toInt : Rat) / 256
  if reaches4 (cs db) && decide (0 < db) then [secWords (cs (db / 2)), secWords (cs (db / 2))] else [secWords (cs db)]

/-- The sections of a high-pass filter of an order (R476). -/
def hpfSections (order : Nat) (f : Word) (dom : Nat) : List (List Word) :=
  (List.range (order / 2)).map (fun j => secWords (Config.hpfCoef order j ((f.toNat : Rat) / 16) dom))

/-- The sections a strip's high-pass and EQ bands ask for: coefficients, and how many are high-pass. -/
def State.eqWants (s : State) (cls idx : Nat) : List (List Word) × Nat :=
  let dom := s.nxtF (if cls = 1 then keyIS idx 0 else keyOS idx 0) 1 2
  let order := (s.eqVal cls idx 0x5000).toNat
  let hpf := if cls = 1 ∧ order ≠ 0 then (hpfSections order (s.eqVal cls idx 0x5001) dom).take 2 else []
  let bands := (List.range (if cls = 1 then 8 else 16)).flatMap (fun k =>
    let b := 0x4000 + 0x100 * k
    let ty := (s.eqVal cls idx b).toNat
    if ty = 0 then []
    else eqSections ty (s.eqVal cls idx (b + 1)) (s.eqVal cls idx (b + 2)) (s.eqVal cls idx (b + 3)) dom)
  (hpf ++ bands, hpf.length)

/-- Sections in use by chains of either set, by crossfades and as partners of the NEXT set. -/
def State.secsInUse (s : State) : List Nat :=
  runningSecs s.live ++ runningSecs s.next ++ s.fades.map (fun e => e.2.partner) ++
    s.next.filterMap (fun e => if 0x300000018 ≤ e.1 ∧ e.1 < 0x400000000 ∧ e.1 % 0x20 = 0x18 ∧ e.2.fld 16 12 ≠ 0
      then some (secPartner s.next ((e.1 - 0x300000000) / 0x20)) else none)

/-- The lowest run of `n` free sections. -/
def freeRun (used : List Nat) (n : Nat) : Option Nat :=
  (List.range (65537 - n)).find? (fun b => (List.range n).all (fun j => !used.contains (b + j)))

/-- Write one section of a strip: coefficients, domain, and a crossfade to a free partner where it runs, its coefficients
change and the ramp has a length (R148). -/
def putSection (n dom slot : Nat) (cs : List Word) (s : State) : State :=
  let old := coefsOf s.next n
  let t := (List.range 5).foldl (fun (u : State) j => u.zkNxt (keySec n (4 + 4 * j)) (cs.getD j 0)) s
  let fade := runsIn s.live n && decide (coefsOf t.next n ≠ coefsOf s.live n) && slot != 0 &&
    decide (0 < (s.nxt (0x10020000 + 4 * slot)).fld 8 20)
  let partner := if fade then freeRun s.secsInUse 1 else none
  if coefsOf t.next n = old ∧ secDom s.next n = dom then s
  else match partner with
    | some p => (t.zkNxt (keySec n 0x18) (packW [(0, dom), (16, slot)])).zkNxt (keySec n 0x1C) (Word.ofNat p)
    | none => t.zkNxt (keySec n 0x18) (packW [(0, dom)])

/-- Place a strip's sections: 0 done, 3 beyond the strip's limit, 5 no room in the pool; the budget is that of the whole change
(R147). -/
def eqPlace (cls idx slot : Nat) (s : State) : Nat × State :=
  let w := s.eqWants cls idx
  let n := w.1.length
  let key := if cls = 1 then keyIS idx 0x18 else keyOS idx 4
  let c := if cls = 1 then isChain s.next idx else osChain s.next idx
  let dom := s.nxtF (if cls = 1 then keyIS idx 0 else keyOS idx 0) 1 2
  if (if cls = 1 then 8 else 16) < n - w.2 then (3, s)
  else
    let base := if n = c.2.1 ∨ n = 0 then some c.1 else freeRun s.secsInUse n
    match base with
    | none => (5, s)
    | some b =>
      let word := if cls = 1 then packW [(0, b), (16, w.2), (20, n - w.2)] else packW [(0, b), (16, n)]
      let t := if word = s.nxt key then s else s.zkNxt key word
      let t := (List.range n).foldl (fun (u : State) j => putSection (b + j) dom slot (w.1.getD j []) u) t
      (0, t)

/-! ## The input delay pool (R69, R476) -/

/-- Zekor places the granules a strip's delay needs beside those of the other strips of either set. -/
def delayPlace (i : Nat) (s : State) : Option State :=
  let used := fun (ps : Tbl Word) => (enabledIS ps).filterMap (fun j =>
    let n := granules (pfld ps (keyIS j 0x20) 0 11) (s.blockLen (pfld ps (keyIS j 0) 1 2))
    if j = i ∨ n = 0 then none else some (pfld ps (keyIS j 0x20) 16 14, n))
  let all := used s.live ++ used s.next
  let need := granules (s.nxtF (keyIS i 0x20) 0 11) (s.blockLen (s.nxtF (keyIS i 0) 1 2))
  let fits := fun (g : Nat) => all.all (fun e => !overlaps g need e.1 e.2)
  if need = 0 ∨ (fits (s.nxtF (keyIS i 0x20) 16 14) ∧ s.nxtF (keyIS i 0x20) 16 14 + need ≤ s.poolGranules) then some s
  else match (List.range (s.poolGranules + 1 - need)).find? fits with
    | none => none
    | some g => some (s.zkNxt (keyIS i 0x20) ((s.nxt (keyIS i 0x20)).setFld 16 14 g))

/-! ## Edits -/

/-- What an edit writes into the NEXT sets and into Zekor's own tables as its change is built. -/
def applyEdit (e : Edit) (s : State) : State :=
  match e with
  | .bead .. => s
  | .par key val mask =>
    let t := s.zkNxt key (mergeMask (s.nxt key) val mask)
    if 0x100000000 ≤ key ∧ key < 0x200000000 ∧ key % 0x40 = 0x20 then (delayPlace ((key - 0x100000000) / 0x40) t).getD t else t
  | .reg .. => s
  | .host key val slot =>
    let t := s.putHost key val
    if 0x400000000 ≤ key then (enabledOS t.next).foldl (fun u k => if u.ceilKey k = some key then refreshCeil k u else u) t
    else if key < 0x200000000 then refreshStrip 1 ((key - 0x100000000) / 0x40) slot t
    else refreshStrip 2 ((key - 0x200000000) / 0x40) slot t
  | .roll k val slot =>
    let below := fun (u : State) => u.stripsUnder ((underRoll u.zk.rolls k).filter (fun m => !u.lockedUnit m))
    let t := s.withZk { s.zk with rolls := match val with | some r => Tbl.put s.zk.rolls k r | none => Tbl.del s.zk.rolls k }
    (below s ++ below t).foldl (fun u p => refreshStrip p.1 p.2 slot u) t
  | .eq cls idx prm val slot =>
    (eqPlace cls idx slot (s.withZk { s.zk with eqBands := Tbl.set s.zk.eqBands (eqKey cls idx prm) val 0 })).2
  | .factors slot => refreshAll slot s
  | .sup .. => s
  | .play .. => s
  | .stop .. => s
  | .planPlay .. => s
  | .applied _ => s
  | .line .. => s
  | .settled .. => s

def applyEdits (es : List Edit) (s : State) : State := es.foldl (fun t e => applyEdit e t) s

/-- The state that a request's later parts are checked on: edits applied, and among those of the pending change. -/
def withEdits (es : List Edit) (s : State) : State :=
  let t := applyEdits es s
  let c := t.zk.change.getD { src := .host }
  t.withZk { t.zk with change := some { c with edits := c.edits ++ es } }

/-- The edits that place a command's ramp slot (R466). -/
def slotEdits (slot : Nat) (cfg : Word) : List Edit :=
  if slot = 0 then [] else [.par (0x10020000 + 4 * slot) cfg 0xFFFFFFFF, .par (0x10024000 + 4 * slot) 0 0xFFFFFFFF]

/-! ## OBJ SET's edits (R465, R476) -/

/-- The PARAM exists for a unit. -/
def hasParam (u prm : Nat) : Bool :=
  let cls := lgCls u
  (unitField cls (lgIdx u) prm).isSome || eqParam cls prm ||
    ((cls == 1 || cls == 2) && decide (0x6000 ≤ prm ∧ prm < 0x603C)) || (cls == 5 && (prm == 0x7001 || prm == 0x7002))

/-- The parameter block's word that PARAM 0x6000 + w names. -/
def State.paramWord (s : State) (cls idx w : Nat) : Option Nat :=
  ((entriesOf s.next (if cls = 1 then 0 else 1) idx).head?).map (fun e => keyParam e.1 e.2.1 w)

/-- With a chain's L, Zekor writes the SHIFT and SCALE it chooses for it (R209). -/
def lengthEdits (cls idx woff lo : Nat) (v : Word) : List Edit :=
  if (cls = 10 ∨ cls = 8 ∧ 16 ≤ idx) ∧ woff = 0 ∧ lo = 16 then
    (match scaleFor v.toNat with
     | some (shift, scale) =>
       [.reg ((unitFields cls idx).2 + 4) scale 0xFFFFFFFF, .reg ((unitFields cls idx).2 + 8) (Word.ofNat shift) 0x3F]
     | none => [])
  else []

/-- The edits of setting one parameter of one unit of this node; `i` is the index of its argument. -/
def setEdits (i slot u prm : Nat) (v : Word) (s : State) : Chk (List Edit) :=
  let cls := lgCls u
  let idx := lgIdx u
  if cls = 5 then
    (if prm = 0x7001 then .ok [.roll u (some { s.roll u with gain := v }) slot]
     else if prm = 0x7002 ∧ v.toNat ≤ 1 then .ok [.roll u (some { s.roll u with mute := v.bit 0 }) slot]
     else .fail 3 0 (i + 1))
  else if eqParam cls prm then
    (if !eqValueOk prm v then .fail 3 0 (i + 2) else .ok [.eq cls idx prm v slot])
  else if (cls = 1 ∨ cls = 2) ∧ 0x6000 ≤ prm ∧ prm < 0x603C then
    (match s.paramWord cls idx (prm - 0x6000) with
     | none => .fail 3 0 (i + 1)
     | some key =>
       if cls = 2 ∧ s.ceilKey idx = some key then .ok [.host key v slot] else .ok [.par key v 0xFFFFFFFF])
  else match unitField cls idx prm with
    | none => .fail 3 0 (i + 1)
    | some f =>
      if !f.2.2.2 || allocated cls f then .fail 3 0 (i + 1)
      else if 2 ^ f.2.2.1 ≤ v.toNat then .fail 3 0 (i + 2)
      else
        let key := (unitFields cls idx).2 + 4 * f.1
        let m := fldMask f.2.1 f.2.2.1
        let val := v <<< f.2.1
        if cls = 1 ∨ cls = 2 then
          (if factored cls f.1 f.2.1 then .ok [.host key v slot]
           else match rampField cls f.1 f.2.1 with
             | some r => .ok [.par key val m, .par ((unitFields cls idx).2 + r.1) (Word.ofNat (slot * 2 ^ r.2)) (fldMask r.2 12)]
             | none => .ok [.par key val m])
        else .ok (.reg key val m :: lengthEdits cls idx f.1 f.2.1 v)

/-- What the whole request makes of a strip's sections and delay fits (R147, R152): `i` is the index of the argument. -/
def placeCheck (i slot u prm : Nat) (s : State) : Chk (List Edit) :=
  if lgCls u ≠ 5 ∧ eqParam (lgCls u) prm then
    (let st := (eqPlace (lgCls u) (lgIdx u) slot s).1
     if st ≠ 0 then .fail st 0 (if st = 3 then i + 1 else 0x3FF) else .ok [])
  else if lgCls u = 1 ∧ prm / 256 = 8 ∧ (delayPlace (lgIdx u) s).isNone then .fail 5 0 0x3FF
  else .ok []

/-- The parameter ramps, so the command takes a slot (R466). -/
def rampsOn (u prm : Nat) : Bool :=
  (rampField (lgCls u) (prm / 256) (prm % 256)).isSome && decide (prm < 0x4000) || lgCls u == 5 || eqParam (lgCls u) prm

/-- The units of a triple: under a roll with FANOUT, those that have the parameter (R465). -/
def State.setTargets (s : State) (fanout : Bool) (u prm : Nat) : List Nat :=
  if lgCls u = 5 ∧ fanout then (underRoll s.zk.rolls u).filter (fun m => hasParam m prm) else [u]

/-- The units of this node that a write to `u` affects, for the holds of R500. -/
def State.affected (s : State) (u : Nat) : List Nat := if lgCls u = 5 then u :: underRoll s.zk.rolls u else [u]

/-- The earliest boundary at which a message can start: its first 2 s are staged. -/
def State.stagedAt (s : State) (m : Nat) : Nat := ceil24 (s.sctr + min 1440 (Config.stageTime m s.sctr))

end Sys2Proof.Machine
end

