-- ==== Sys2Proof/Machine/Change.lean ====
section
/-!
DEFINITION. Changes pending at a node (R89, R133 to R135, R466 to R470, R482): building page images, arming, landing, being
refused or put aside, and compaction.
-/

namespace Sys2Proof.Machine

open Sys2Proof

/-! ## Page images (R87, R90, R93) -/

/-- Memory with a range emptied. -/
def clearRange (a len : Nat) (s : State) : State :=
  let out := fun (k : Nat) => decide (k < a ∨ a + len ≤ k)
  { s with
    mem := s.mem.filter (fun e => out e.1)
    memc := { s.memc with ecc := s.memc.ecc.filter (fun e => out (8 * e.1)),
                          writeback := s.memc.writeback.filter (fun k => out (8 * k)) } }

/-- Copy a range of memory. -/
def copyRange (src dst len : Nat) (s : State) : State :=
  let moved := s.mem.filterMap (fun e => if src ≤ e.1 ∧ e.1 < src + len then some (e.1 - src + dst, e.2) else none)
  let t := clearRange dst len s
  { t with mem := moved.foldl (fun m e => Tbl.set m e.1 e.2 0) t.mem }

/-- A bead's four words. -/
def beadWords (src ramp : Nat) (sup : Bool) (frm tgt : Int) : List Word :=
  [packW [(0, src), (14, bitOf sup), (16, ramp)], Word.ofInt frm, Word.ofInt tgt, 0]

def Bead.words (b : Bead) : List Word := beadWords b.src b.ramp b.supersede b.frm b.tgt

/-- The beads that edits write: rod, source, TO, slot; of two edits of one pair the later one stands. -/
def editBeads : List Edit → List (Nat × Nat × Word × Nat)
  | [] => []
  | .bead r src tgt slot :: t =>
    if (editBeads t).any (fun b => b.1 == r && b.2.1 == src) then editBeads t else (r, src, tgt, slot) :: editBeads t
  | _ :: t => editBeads t

/-- The amendment rows of a rod in the next image: those that stay, and a SUPERSEDE bead for each edit, whose FROM is the
gain at the sample before C (R89, R95). -/
def State.amendRows (s : State) (news : List (Nat × Nat × Word × Nat)) (c r : Nat) : List (List Word) :=
  let mine := news.filter (fun b => b.1 == r)
  ((s.amdBeads r).filter (fun b => !mine.any (fun m => m.2.1 == b.src))).map Bead.words ++
    mine.map (fun m => beadWords m.2.1 m.2.2.2 true (s.fromGain r m.2.1 c) (sval m.2.2.1))

/-- Amendment beads of the next image. -/
def State.amendCount (s : State) (news : List (Nat × Nat × Word × Nat)) : Nat :=
  (s.liveRods.map (fun r => (s.amendRows news 0 r).length)).sum

/-- Build an AMEND image: every LIVE amendment, with the edits (R135). -/
def buildAmend (news : List (Nat × Nat × Word × Nat)) (c : Nat) (s : State) : State :=
  let a := s.engine.abx
  let p := 1 - a.amdLive
  let t := copyRange (dirAddr a.amdLive 0) (dirAddr p 0) 0x10000 s
  (s.liveRods.foldl (fun (acc : Nat × State) r =>
    let rows := s.amendRows news c r
    (acc.1 + rows.length, (acc.2.putWords (beadAddr p true acc.1) rows.flatten).putWord (dirAddr p r + 8)
      (packW [(0, if rows.isEmpty then 0 else acc.1 % 65536), (16, rows.length)]))) (0, t)).2

/-- A rod of a FULL image: index, TIER, DOMAIN, SPLIT and rows. -/
structure FullRod where
  rod : Nat
  tier : Nat
  dom : Nat
  split : Nat
  rows : List (List Word)

/-- A rod into its place among rods in rising order. -/
def insertRod (f : FullRod) : List FullRod → List FullRod
  | [] => [f]
  | g :: t => if f.rod ≤ g.rod then f :: g :: t else g :: insertRod f t

/-- SPLIT that keeps pieces within 4,096 beads and no empty piece. -/
def splitFor (old n : Nat) : Nat := if n = 0 then 0 else max ((n - 1) / 4096) (min old (n - 1))

/-- Build a FULL image in the other page's halves: no amendments (R133, R482). -/
def buildFull (rods : List FullRod) (s : State) : State :=
  let a := s.engine.abx
  let mp := 1 - a.mainLive
  let ap := 1 - a.amdLive
  (rods.foldl (fun (acc : Nat × State) f =>
    let n := f.rows.length
    (acc.1 + n, (acc.2.putWords (beadAddr mp false acc.1) f.rows.flatten).putWords (dirAddr ap f.rod)
      [if n = 0 then 0 else Word.ofNat acc.1,
       packW [(0, n), (16, f.tier), (18, f.dom), (20, splitFor f.split n), (31, 1)], 0, 0]))
    (0, clearRange (dirAddr ap 0) 0x10000 s)).2

/-- A bead of the compacted page (R133): DONE ones with RAMP = 0 and FROM = TO, none where TO is 0; ramping ones unchanged. -/
def State.compactRow (s : State) (t : Int) (b : Bead) : Option (List Word) :=
  if b.ramp = 0 ∨ rampStage s.engine.ramps b.ramp t = 2 then
    (if b.tgt = 0 then none else some (beadWords b.src 0 false b.tgt b.tgt))
  else some (beadWords b.src b.ramp false b.frm b.tgt)

def State.compactRods (s : State) : List FullRod :=
  let t : Int := (s.sctr : Int) - 1
  s.liveRods.map (fun r =>
    let e := s.liveRod r
    ⟨r, e.tier, e.dom, e.split, (s.effBeads r).filterMap (s.compactRow t)⟩)

/-- A scene's page (R482): its beads, FROM by R89, all on one slot; unless HARD the beads it drops stay with TO = 0. -/
def State.sceneRods (s : State) (x : Scene) (hard : Bool) (slot : Nat) : List FullRod :=
  let t := s.sctr
  let own := x.rods.map (fun q =>
    let beads := (x.beads.filter (fun b => b.1 == q.1)).map (fun b => (b.2.1, b.2.2))
    let kept := beads.map (fun b => beadWords b.1 slot false (s.fromGain q.1 b.1 t) (sval b.2))
    let gone := if hard ∨ ¬ s.liveRods.contains q.1 then [] else
      ((s.effBeads q.1).filter (fun b => !beads.any (fun n => n.1 == b.src))).map
        (fun b => beadWords b.src slot false (b.gainAt s.engine.ramps ((t : Int) - 1)) 0)
    ⟨q.1, q.2.1, q.2.2, 0, kept ++ gone⟩)
  let others := if hard then [] else
    (s.liveRods.filter (fun r => !x.rods.any (fun q => q.1 == r))).map (fun r =>
      let e := s.liveRod r
      ⟨r, e.tier, e.dom, e.split, (s.effBeads r).map (fun b =>
        beadWords b.src slot false (b.gainAt s.engine.ramps ((t : Int) - 1)) 0)⟩)
  (own ++ others).foldr insertRod []

/-! ## Undoing what a change wrote -/

/-- The entries of a table that a change made different, as they were. -/
def tblUndo {α : Type} [DecidableEq α] (old new : Tbl α) : List (Nat × Option α) :=
  (((old ++ new).map (fun e => e.1)).foldl (fun l k => insertNat k l) []).filterMap (fun k =>
    if Tbl.find old k = Tbl.find new k then none else some (k, Tbl.find old k))

def tblRestore {α : Type} (u : List (Nat × Option α)) (t : Tbl α) : Tbl α :=
  u.foldl (fun t e => match e.2 with | some v => Tbl.put t e.1 v | none => Tbl.del t e.1) t

/-- What a change that was built from `s` to `t` overwrote. -/
def undoOf (s t : State) : Undo :=
  let ks := (t.next.map (fun e => e.1) ++ s.next.map (fun e => e.1)).foldl (fun l k => insertNat k l) []
  let hit := (ks.filter (fun k => decide (t.nxt k ≠ s.nxt k))) ++ (t.marks.filter (fun k => !s.marks.contains k))
  { next := (hit.foldl (fun l k => insertNat k l) []).map (fun k => (k, s.nxt k, s.marks.contains k))
    rolls := tblUndo s.zk.rolls t.zk.rolls, host := tblUndo s.zk.hostVal t.zk.hostVal
    eq := tblUndo s.zk.eqBands t.zk.eqBands }

def undoChange (u : Option Undo) (s : State) : State :=
  match u with
  | none => s
  | some u =>
    let t := u.next.foldl (fun (t : State) e =>
      let v := t.setNxtUnmarked e.1 e.2.1
      if e.2.2 then v else { v with marks := v.marks.filter (fun k => k != e.1) }) s
    t.withZk { t.zk with rolls := tblRestore u.rolls t.zk.rolls, hostVal := tblRestore u.host t.zk.hostVal,
                         eqBands := tblRestore u.eq t.zk.eqBands }

/-! ## Budgets that Zekor keeps (R147, R175) -/

/-- A change from `s` to `t`, with a page of its own or not, would take the sections past their budget, or a core that runs past
its finish. -/
def overGrows (page : Bool) (s t : State) : Bool :=
  let cycles := if page then t.nextCycles else s.liveCycles
  (t.budgetOver && decide (s.budgetNext < t.budgetNext)) ||
    s.tly.cores.any (fun e => e.2.st != .stopped && decide (499500 < t.finish t.next cycles e.1) &&
      decide (s.finish s.next s.liveCycles e.1 < t.finish t.next cycles e.1))

/-- A section that crossfades would change (R151). -/
def fadeWaits (s t : State) : Bool := s.fades.any (fun e => decide (coefsOf t.next e.1 ≠ coefsOf s.next e.1))

/-! ## Starting a change -/

def State.setChange (s : State) (c : Option Change) : State := s.withZk { s.zk with change := c }

/-- A tree commit has reached this node and has not resolved (R132). -/
def State.treePending (s : State) : Bool :=
  let t := s.csc.tree
  t.tag.isSome && t.phase != 0 && t.res == 0 && decide (s.blk ≤ t.block)

/-- The commit unit is free for a change: nothing armed, no tree commit pending but its own (R132), no check or frozen
half. -/
def State.unitFree (s : State) (tag : Option Nat) : Bool :=
  let u := s.engine.cmt
  let t := s.csc.tree
  let a := s.engine.abx
  (u.armed.isNone || u.cancelled || (tag.isSome && tag == t.tag)) &&
    (tag == t.tag || !s.treePending) &&
    !a.chkBusy && a.mainOther != .frozen && a.amdOther != .frozen

/-- The halves an image needs are BUILDING. -/
def State.halvesFree (s : State) (full : Bool) : Bool :=
  s.engine.abx.amdOther == .building && (!full || s.engine.abx.mainOther == .building)

/-- Write CHECK for an image of a kind: 0 FULL, 1 AMEND. -/
def zkCheck (kind : Nat) (s : State) : State := abxCheck kind (s.setFldN 0x10010004 0 1 kind)

/-- Load RMP_CMT_TGT and arm (R125). -/
def zkArm (c : Nat) (page : Bool) (s : State) : State :=
  cmtArm c page false
    ((s.setReg 0x1002C000 (Word.ofNat c)).setReg 0x1002C004 (Word.ofNat (c / 2 ^ 32)))

/-- A comparator that nothing uses: the highest-numbered one (log entry 71). -/
def State.timerFree (s : State) : Option Nat :=
  (List.range 16).reverse.find? (fun n => !(s.trg n).armed && s.reg (trgReg n 0) == 0)

/-- The TB0 second that SCTR `c` follows by the epoch map (R356). -/
def State.instantOf (s : State) (c : Nat) : Nat :=
  ((((s.tbs.epochTb / 2 ^ 24 : Nat) : Int) + ((c : Int) - (s.tbs.epochSctr : Int)) * (s.tbs.epochPer.toNat : Int)) /
    65536000000000).toNat

/-- Load RMP_CMT_TGT and arm a comparator with ACT_CMT 2 ms before the instant of C (R503). -/
def armTimer (n c : Nat) (page : Bool) (s : State) : State :=
  let ns := s.instantOf c * 1000000000 - 2000000
  let sec := ns / 1000000000
  let t := (s.setReg 0x1002C000 (Word.ofNat c)).setReg 0x1002C004 (Word.ofNat (c / 2 ^ 32))
  let t := (t.setReg 0x1002C008 (packW [(0, bitOf page)])).setReg (trgReg n 0) 0x10
  let t := (t.setReg (trgReg n 4) (Word.ofNat sec)).setReg (trgReg n 8) (Word.ofNat (sec / 2 ^ 32 % 65536))
  trgArm n ((t.setReg (trgReg n 0xC) (Word.ofNat (ns % 1000000000))).setReg (trgReg n 0x10) 0)

/-- The comparator of a change that has ended is free again. -/
def freeTimer (c : Change) (s : State) : State :=
  match c.timer with
  | some n => (trgDisarm n s).setReg (trgReg n 0) 0
  | none => s

/-- The standard results (R469). -/
def stdResults (c : Nat) (epoch : Word) (jseq slot : Nat) : List Word :=
  [Word.ofNat c, Word.ofNat (c / 2 ^ 32), epoch, Word.ofNat jseq, Word.ofNat slot]

/-- Answer every request of a change that is refused; one with NOWAIT that was armed has its answer. -/
def refuseReqs (armed : Bool) (r : Reply) (ps : List Pend) (s : State) : State :=
  ps.foldl (fun t p => if p.nowait && armed then t else answerEntry p.jseq p.cmd r t) s

/-- Release what a change holds: its image, its armed commit, and what it wrote. -/
def releaseChange (c : Change) (s : State) : State :=
  let t := undoChange c.undo (freeTimer c s)
  let t := if c.page ∧ c.phase ≠ 0 then abxAbort t else t
  if c.phase = 2 then cmtCancel t else t

/-- Tell the manager about a part (R483), or take this node's own part's news. -/
def tellPart (tag : Nat) (r : Reply) (s : State) : State :=
  let m : CscMsg := .partDone s.node tag r.status r.reason r.arg
  if s.cscRole = 2 then cscSend m s else s.withCsc { s.csc with inbox := s.csc.inbox ++ [m] }

/-- A part is ready, with its count. -/
def tellReady (tag count : Nat) (s : State) : State := tellPart tag { status := 0, reason := count } s

/-- A change is refused. -/
def failChange (c : Change) (r : Reply) (s : State) : State :=
  let t := (releaseChange c s).setChange none
  let t := refuseReqs (c.phase == 2) r c.reqs t
  let t := match c.tag with
    | some g => tellPart g r (if t.csc.tree.tag = some g ∧ t.csc.tree.ans = 0 then treeManager (treeAnswer 2 t) else t)
    | none => t
  if c.src = .scene then t.withZk { t.zk with prepared := none }
  else if c.src = .alarm then t.withAlarm { t.zk.alarm with dirty := true }
  else if c.src = .reserve then t.withZk { t.zk with rsv := { t.zk.rsv with due := true } }
  else t

/-- A host change that was put aside may no longer land: its units are held now (R470, R500). -/
def Edit.unitsOf (s : State) : Edit → List Nat
  | .bead r .. => [s.ledger 3 r]
  | .par k .. =>
    if 0x100000000 ≤ k ∧ k < 0x200000000 then [s.ledger 1 ((k - 0x100000000) / 0x40)]
    else if 0x200000000 ≤ k ∧ k < 0x300000000 then [s.ledger 2 ((k - 0x200000000) / 0x40)] else []
  | .reg a .. => if 0x10070000 ≤ a ∧ a < 0x10071000 then [s.ledger 9 ((a - 0x10070000) / 0x40)] else []
  | .host k .. =>
    if k < 0x200000000 then [s.ledger 1 ((k - 0x100000000) / 0x40)]
    else if k < 0x300000000 then [s.ledger 2 ((k - 0x200000000) / 0x40)] else []
  | .roll k .. => s.affected k
  | .eq cls idx .. => [s.ledger cls idx]
  | .sup ch .. => [s.ledger 9 ch]
  | .factors _ => []
  | .play p .. => [s.ledger 6 p]
  | .stop p _ => [s.ledger 6 p]
  | .planPlay .. => []
  | .applied _ => []
  | .line .. => []
  | .settled .. => []

/-- The rods and beads a change would make do not fit one amendment half (R479). -/
def Change.tooMany (c : Change) (s : State) : Bool := decide (65536 < s.amendCount (editBeads c.edits))

/-- The image a change builds: none, a FULL page or an amendment. -/
def buildImage (c : Change) (at' : Nat) (s : State) : State :=
  match c.scene, c.src with
  | some (k, hard), _ =>
    (match Tbl.find s.zk.scenes k with
     | none => s
     | some x =>
       let t := zkCheck 0 (buildFull (s.sceneRods x hard ((editSlots c.edits).headD 0)) s)
       let t := x.params.foldl (fun (u : State) p =>
         (u.setNxt p.1 p.2).setIniReg keyWepoch moverInit (Word.ofNat u.engine.cmt.epoch)) t
       let t := t.withZk { t.zk with hostVal := t.zk.hostVal.filter (fun e => !x.params.any (fun p => p.1 == e.1)) }
       refreshAll 0 t)
  | none, .compaction => zkCheck 0 (buildFull s.compactRods s)
  | none, _ => zkCheck 1 (buildAmend (editBeads c.edits) at' s)

/-- Whether a change swaps a page. -/
def Change.needsPage (c : Change) : Bool :=
  c.scene.isSome || c.src == .compaction || c.tag.isSome || !(editBeads c.edits).isEmpty

def Change.isFull (c : Change) : Bool := c.scene.isSome || c.src == .compaction

/-- What a change makes of NEXT, of Zekor's tables and of the image. -/
def buildChange (c : Change) (at' : Nat) (s : State) : State :=
  let t := applyEdits c.edits s
  if c.needsPage then buildImage c at' t else t

/-- Arm a built change: with NOWAIT its requests are answered now (R469). -/
def armNow (c : Change) (at' : Nat) (t : State) : State :=
  let u := zkArm at' c.page t
  if u.engine.cmt.armed.isNone then failChange c { status := 3, reason := 0x20 } u
  else
    let u := c.reqs.foldl (fun (u : State) p =>
      if p.nowait then
        answerEntry p.jseq p.cmd { status := 0, res := stdResults at' 0xFFFFFFFF p.jseq p.slot ++ p.extra } u
      else u) u
    escSync (u.setChange (some { c with phase := 2 }))

/-- Arm a built change: an action for an instant by a comparator (R503), another now. -/
def armChange (c : Change) (at' : Nat) (t : State) : State :=
  match t.timerFree with
  | some n =>
    if c.src = .alarm ∧ c.c.isSome then escSync ((armTimer n at' c.page t).setChange (some { c with phase := 2, timer := some n }))
    else armNow c at' t
  | none => armNow c at' t

/-- A change whose comparator has fired while the unit did not arm it: the action is decided again. -/
def timerStep (s : State) : State :=
  match s.zk.change with
  | none => s
  | some c =>
    if c.phase = 2 ∧ s.engine.cmt.armed.isNone ∧ c.timer.any (fun n => !(s.trg n).armed) then
      failChange c { status := 8, reason := 0x24 } s
    else s

/-- Start a change that waits for the commit unit (R125, R467, R470): build, check, arm. -/
def startChange (s : State) : State :=
  match s.zk.change with
  | none => s
  | some c =>
    let pg := c.needsPage
    let free := c.edits.all (fun e => !(e.unitsOf s).any s.lockedUnit)
    if c.phase ≠ 0 ∨ !s.unitFree c.tag ∨ (pg ∧ !s.halvesFree c.isFull) then s
    else if pg ∧ !c.isFull ∧ c.tooMany s then
      (if c.src = .host then s.withZk { s.zk with compact := true } else s)
    else if c.src = .host ∧ c.armedC ≠ 0 ∧ !free then failChange c { status := 0x0C } s
    else
      let at' := match c.c with | some x => x | none => max s.soonest c.least
      if c.tag.isNone ∧ c.scene.isNone ∧ boundaryOf at' < s.soonest then
        failChange c (if c.armedC = 0 then { status := 3, reason := 0x20, arg := 1 } else { status := 8, reason := 0x24 }) s
      else
        let t := buildChange c at' s
        if c.src ≠ .alarm ∧ fadeWaits s t then s
        else if overGrows pg s t then failChange c { status := 5, arg := 0x3FF } s
        else
        let c := { c with undo := some (undoOf s t), page := pg, armedC := at' }
        if c.tag.isSome ∨ c.scene.isSome then t.setChange (some { c with phase := 1 }) else armChange c at' t

/-! ## The end of a check (R106, R478) -/

/-- Zekor reads a finished check: a refused image refuses the change; a part's accepted image is ready. -/
def checkStep (s : State) : State :=
  match s.zk.change with
  | none => s
  | some c =>
    let a := s.engine.abx
    if !c.page ∨ c.phase = 0 ∨ c.phase = 3 ∨ a.chkBusy then s
    else if !a.accepted then
      (if c.phase = 1 ∨ s.engine.cmt.armed.isSome then failChange c { status := a.status, reason := a.reason } s else s)
    else if c.phase ≠ 1 then s
    else if s.nextBadCount ≠ 0 then failChange c { status := 3, reason := 0x21 } s
    else
      let t := s.setChange (some { c with phase := 3, told := true })
      match c.tag with
      | some g => if c.told then t else tellReady g c.count t
      | none => t

/-- FROM of some bead is not the gain at the sample before `at'` (R478). -/
def Change.staleFrom (c : Change) (at' : Nat) (s : State) : Bool :=
  (editBeads c.edits).any (fun b => s.fromGain b.1 b.2.1 c.armedC != s.fromGain b.1 b.2.1 at')

/-- Zekor answers a PREPARE for the part it holds (R129, R411). Where C brings other FROM values the amendment is built and checked
again first (R478). -/
def answerPrepare (s : State) : State :=
  let t := s.csc.tree
  match s.zk.change with
  | none => s
  | some c =>
    if t.phase = 1 ∧ t.ans = 0 ∧ c.phase = 3 ∧ c.tag.isSome ∧ c.tag = t.tag then
      if c.staleFrom t.target s then
        (releaseChange c s).setChange (some { c with phase := 0, undo := none, page := false, c := some t.target })
      else cmtAnsWrite (packW [(0, t.tag.getD 0), (8, if s.imageReady ∧ s.nextBadCount = 0 then 1 else 2)]) s
    else s

/-! ## Landing (R126, R469) -/

/-- The bound of R502 where a plan's first sound starts at `c`: the way to the pins is 48 + 24 + 4.125 samples, and 96 more from a
V rod. -/
def judgeLate (k c : Nat) (v : Bool) (s : State) : State :=
  let p := s.plan k
  (s.setPlan k { p with due := false }).raiseIf (p.due && decide (p.acceptedAt + 4800 < c + (if v then 173 else 77)))
    0x0A0B (planWord k)

/-- What an edit does as its change lands at C. -/
def landEdit (c : Nat) (e : Edit) (s : State) : State :=
  match e with
  | .reg a v m => regWrite tellerInit a (mergeMask (s.reg a) v m) s
  | .sup ch prm v =>
    let m := s.monC ch
    if prm = 1 then s.setMonC ch { m with winW := some v }
    else if prm = 2 then s.setMonC ch { m with thrW := some v }
    else regWrite tellerInit (monReg ch 0) ((s.reg (monReg ch 0)).setBit 0 (v.bit 0)) s
  | .play p msg rep gap level cfg =>
    let t := s.setPlayer p { st := 1, msg := msg, rep := rep, gap := gap, level := level, start := c, cfg := cfg }
    { t with engine := { t.engine with playerDom := Tbl.set t.engine.playerDom p (t.message msg).dom 0 } }
  | .stop p cfg => if (s.player p).st = 0 then s else s.setPlayer p { s.player p with stopAt := some (c, cfg) }
  | .planPlay p plan msg msg2 rep gap =>
    let pl := s.plan plan
    let start := if pl.staged then c else max c (s.stagedAt msg)
    let t := s.setPlayer p { st := 1, msg := msg, msg2 := msg2, rep := rep, gap := gap, level := 0x08000000, start := start,
                             plan := some plan }
    let t := judgeLate plan start ((t.message msg).dom = 2) (t.setPlan plan { pl with sounding := !pl.silenced })
    let t := t.raise 0x0A02 (planWord plan)
    { t with engine := { t.engine with playerDom := Tbl.set t.engine.playerDom p (t.message msg).dom 0 } }
  | .applied n => s.withZk { s.zk with staged := s.zk.staged.drop n }
  | .line k lvl p on => (ctlLineWrite k lvl s).setPlan p { s.plan p with lineOn := on }
  | .roll k v _ => if lgNode k = s.node then cscSend (.roll k (v.map (fun r => (r.members, r.gain, r.mute)))) s else s
  | .settled z w =>
    let x := s.zone z
    if x.winner ≠ w then s
    else
      let t := s.setZone z { x with fresh := false, saved := if w.isNone then [] else x.saved,
                                    mine := if w.isNone then [] else x.mine }
      match w with
      | some k => if (t.plan k).live then judgeLate k c false t else t
      | none => t
  | _ => s

/-- A scene's node alarm configuration (R492), and the scene that checkpoints refer to from now on (R421). -/
def landScene (k : Nat) (s : State) : State :=
  match Tbl.find s.zk.scenes k with
  | none => s
  | some x =>
    let t := s.withZk { s.zk with sceneRef := some (k, x.crc) }
    t.withAlarm { t.zk.alarm with paths := x.paths, faultOut := x.faultOut, hostPri := x.hostPri, dirty := true }

/-- What the host set in a zone rod that a plan holds wins over the TO that the service would restore (R499). -/
def hostWins (c : Change) (s : State) : State :=
  if c.src = .scene then s.withAlarm { s.zk.alarm with zone := s.zk.alarm.zone.map (fun e => (e.1, { e.2 with saved := [] })) }
  else if c.src = .host then
    let bs := editBeads c.edits
    s.withAlarm { s.zk.alarm with zone := s.zk.alarm.zone.map (fun e =>
      (e.1, { e.2 with saved := e.2.saved.filter (fun p => !bs.any (fun b => b.1 == e.2.rod && b.2.1 == p.1)) })) }
  else s

/-- Channels that a landed PARK has parked or that run again (R320). -/
def parkLands : List Edit → List Nat → List Nat
  | [], ps => ps
  | .reg a v _ :: t, ps =>
    parkLands t (if v.bit 0 then ps.filter (fun n => n != (a - 0x10070000) / 0x40) else insertNat ((a - 0x10070000) / 0x40) ps)
  | _ :: t, ps => parkLands t ps

/-- A change that lands (R469): what is no NEXT parameter takes effect, the entry of KIND 6, and the answers. -/
def landChange (c : Change) (a : Armed) (s : State) : State :=
  let t := c.edits.foldl (fun u e => landEdit a.c e u) (freeTimer c (s.setChange none))
  let t := match c.scene with
    | some (k, _) => landScene k (t.withZk { t.zk with prepared := none })
    | none => t
  let t := hostWins c t
  let t := if c.src = .reserve then t.withZk { t.zk with rsv := { t.zk.rsv with parked := parkLands c.edits t.zk.rsv.parked } } else t
  let t := journalCommit c.src 0 [] t
  escSync (c.reqs.foldl (fun (u : State) p =>
    if p.nowait then u
    else answerEntry p.jseq p.cmd
      { status := 0, res := stdResults a.c (Word.ofNat u.engine.cmt.epoch) p.jseq p.slot ++ p.extra } u) t)

/-- The resolution reaches the change that was armed, or the part of the tree commit. -/
def changeResolved (a : Armed) (status reason : Nat) (s : State) : State :=
  match s.zk.change with
  | none => s
  | some c =>
    let mine := (c.phase == 2 && c.armedC == a.c) || (c.tag.isSome && c.tag == s.csc.tree.tag && a.cond)
    if !mine then s
    else if status = 0 then landChange c a s
    else
      failChange { c with tag := none } { status := status, reason := reason } (journalCommit c.src status [] s)

end Sys2Proof.Machine
end

