-- ==== Sys2Proof/Machine/Edits.lean ====
section
/-!
DEFINITION. What the commands with a timing block change (R463 to R466, R476, R478, R479, R486, R487): their checks in the
order of R471 and the edits for this node.
-/

namespace Sys2Proof.Machine

open Sys2Proof

/-- The edits of a command on this node, and its results after the standard ones. -/
abbrev Edits := Chk (List Edit × List Word)

/-- Group arguments from index `i` in threes and twos, each with the index of its first. -/
def triples : Nat → List Word → List (Nat × Word × Word × Word)
  | i, a :: b :: c :: t => (i, a, b, c) :: triples (i + 3) t
  | _, _ => []

def pairsFrom : Nat → List Word → List (Nat × Word × Word)
  | i, a :: b :: t => (i, a, b) :: pairsFrom (i + 2) t
  | _, _ => []

/-- The first unit argument that may not be used; `i` is the index of the first. -/
def State.unitsCheck (s : State) (us : List (Nat × Nat)) : Chk Unit :=
  match us.find? (fun p => s.unitBad p.2 != 0) with
  | some p => .fail (s.unitBad p.2) 0 p.1
  | none => .ok ()

/-- LOCKED for the first argument one of whose units is held (R465). -/
def State.lockCheck (s : State) (us : List (Nat × List Nat)) : Chk Unit :=
  match us.find? (fun p => p.2.any s.lockedUnit) with
  | some p => .fail 0x0C 0 p.1
  | none => .ok ()

/-! ## OBJ (R463 to R465, R468, R476) -/

/-- The units an OBJ SET triple affects. -/
def State.setAffected (s : State) (t : Timing) (u prm : Nat) : List Nat := (s.setTargets t.fanout u prm).flatMap s.affected

/-- The settings an OBJ SET asks of this node: argument index, unit, PARAM, value. PARTIAL leaves held units out. -/
def objSettings (c : Cmd) (s : State) : List (Nat × Nat × Nat × Word) :=
  let t := timingOf c.req.args
  let held := fun (m : Nat) => t.partHeld && lgCls m != 5 && (s.affected m).any s.lockedUnit
  (triples 3 (c.req.args.drop 3)).flatMap (fun x =>
    let prm := x.2.2.1.toNat
    ((s.setTargets t.fanout (unitOf c x.2.1) prm).filter (fun m => (lgNode m == s.node || lgCls m == 5) && !held m)).map
      (fun m => (x.1, m, prm, x.2.2.2)))

def objSetEdits (c : Cmd) (slot : Nat) (s : State) : Edits :=
  let t := timingOf c.req.args
  let ts := (triples 3 (c.req.args.drop 3)).map (fun x => (x.1, unitOf c x.2.1, x.2.2.1.toNat))
  (s.unitsCheck (ts.map (fun x => (x.1, x.2.1)))).bind (fun _ =>
    let sets := objSettings c s
    let s0 := withEdits (slotEdits slot t.cfg) s
    let es := (Chk.thread (fun (x : Nat × Nat × Nat × Word) v => setEdits x.1 slot x.2.1 x.2.2.1 x.2.2.2 v) withEdits sets s0).bind
      (fun es =>
        let v := withEdits es s0
        (Chk.all (fun (x : Nat × Nat × Nat × Word) => placeCheck x.1 slot x.2.1 x.2.2.1 v) sets).bind (fun _ => .ok es))
    let free := if t.partHeld then .ok () else s.lockCheck (ts.map (fun x => (x.1, s.setAffected t x.2.1 x.2.2)))
    (es.both free).bind (fun r =>
      let skipped := ((ts.flatMap (fun x => (s.setAffected t x.2.1 x.2.2).filter s.lockedUnit)).foldl
        (fun l u => insertNat u l) []).length
      .ok (r.1, if t.partHeld then [Word.ofNat skipped] else [])))

/-- The command takes a ramp slot. -/
def objSetRamps (c : Cmd) (s : State) : Bool :=
  (triples 3 (c.req.args.drop 3)).any (fun x =>
    (s.setTargets (timingOf c.req.args).fanout (unitOf c x.2.1) x.2.2.1.toNat).any (fun m => rampsOn m x.2.2.1.toNat))

/-- A roll that takes members: the roll itself may not come to lie under itself (R463). -/
def rollAddEdits (c : Cmd) (slot : Nat) (s : State) : Edits :=
  let k := unitOf c (c.req.args.getD 3 0)
  let ms := ((c.req.args.drop 4).zipIdx).map (fun p => (4 + p.2, unitOf c p.1))
  (s.unitsCheck ((3, k) :: ms)).bind (fun _ =>
    if lgCls k ≠ 5 then .fail 2 0 3
    else match ms.find? (fun p => p.2 == k || (lgCls p.2 == 5 && (underRoll s.zk.rolls p.2).contains k)) with
      | some p => .fail 3 0 p.1
      | none =>
        (s.lockCheck (ms.map (fun p => (p.1, s.affected p.2)))).bind (fun _ =>
          let r := s.roll k
          let all := ms.foldl (fun l p => insertNat p.2 l) r.members
          if lgNode k = s.node ∧ 65536 < s.objectMemory + (all.length - r.members.length) then .fail 5 0 0x3FF
          else .ok ([.roll k (some { r with members := all }) slot], [])))

def rollRemoveEdits (c : Cmd) (slot : Nat) (s : State) : Edits :=
  let k := unitOf c (c.req.args.getD 3 0)
  let ms := ((c.req.args.drop 4).zipIdx).map (fun p => (4 + p.2, unitOf c p.1))
  (s.unitsCheck ((3, k) :: ms)).bind (fun _ =>
    if lgCls k ≠ 5 then .fail 2 0 3
    else
      (s.lockCheck (ms.map (fun p => (p.1, s.affected p.2)))).bind (fun _ =>
        let r := s.roll k
        .ok ([.roll k (some { r with members := r.members.filter (fun m => !ms.any (fun p => p.2 == m)) }) slot], [])))

/-- A deleted roll leaves every roll that held it. -/
def rollDeleteEdits (c : Cmd) (slot : Nat) (s : State) : Edits :=
  let k := unitOf c (c.req.args.getD 3 0)
  (s.unitsCheck [(3, k)]).bind (fun _ =>
    if lgCls k ≠ 5 then .fail 2 0 3
    else
      (s.lockCheck [(3, s.affected k)]).bind (fun _ =>
        let parents := s.zk.rolls.filter (fun e => e.2.members.contains k)
        .ok (parents.map (fun e => .roll e.1 (some { e.2 with members := e.2.members.filter (fun m => m != k) }) slot) ++
          [.roll k none slot], [])))

/-! ## ROUTE (R478, R479) -/

/-- The source slots of a SRC argument, and whether it may be used here (R462). -/
def State.srcSlots (s : State) (c : Cmd) (w : Word) : Chk (List Nat) :=
  if lgCls w.toNat = 0 then (if w.toNat < 2 ^ 13 then .ok [w.toNat] else .fail 0x0A 5 0)
  else
    let u := unitOf c w
    if s.unitBad u ≠ 0 then .fail (s.unitBad u) 0 0
    else if lgCls u = 5 then
      .ok (((underRoll s.zk.rolls u).filter (fun m => lgNode m == s.node && lgCls m != 0)).filterMap srcSlot)
    else match srcSlot u with
      | some n => if lgNode u = s.node then .ok [n] else .fail 2 0 0
      | none => .fail 2 0 0

/-- The rods of this node that a ROD argument names. -/
def State.rodList (s : State) (c : Cmd) (w : Word) : Chk (List Nat) :=
  let u := unitOf c w
  if s.unitBad u ≠ 0 then .fail (s.unitBad u) 0 0
  else if lgCls u = 3 ∨ lgCls u = 5 then .ok (((s.expandUnit 3 u).filter (fun m => lgNode m == s.node)).map lgIdx)
  else .fail 2 0 0

/-- Give a failed check the index of its argument. -/
def Chk.at {α : Type} (i : Nat) (x : Chk α) : Chk α :=
  match x with
  | .ok a => .ok a
  | .bad r => .bad { r with arg := i }

/-- The pairs a ROUTE request names: argument index, rod, source slot, TO. -/
def State.routePairs (s : State) (c : Cmd) (ts : List (Nat × Word × Word × Word)) : Chk (List (Nat × Nat × Nat × Word)) :=
  Chk.all (fun (x : Nat × Word × Word × Word) =>
    (Chk.at x.1 (s.rodList c x.2.1)).bind (fun rods =>
      (if rods.isEmpty then .ok [] else Chk.at (x.1 + 1) (s.srcSlots c x.2.2.1)).bind (fun srcs =>
        .ok (rods.flatMap (fun r => srcs.map (fun n => (x.1, r, n, x.2.2.2))))))) ts

/-- The tier rule of R92. -/
def State.tierBad (s : State) (r n : Nat) : Bool :=
  decide (2048 ≤ n ∧ n < 6144 ∧ (s.liveRod r).tier ≤ (s.liveRod (n - 2048)).tier)

/-- Some element occurs twice: the second. -/
def firstTwice : List (Nat × Nat) → List (Nat × Nat × Nat × Word) → Option Nat
  | _, [] => none
  | seen, p :: t => if seen.contains (p.2.1, p.2.2.1) then some p.1 else firstTwice ((p.2.1, p.2.2.1) :: seen) t

def routeSetEdits (c : Cmd) (slot : Nat) (s : State) : Edits :=
  (s.routePairs c (triples 3 (c.req.args.drop 3))).bind (fun ps =>
    match ps.find? (fun p => !(s.liveRod p.2.1).en || s.liveSlotDom p.2.2.1 != (s.liveRod p.2.1).dom) with
    | some p => .fail 3 0 p.1
    | none =>
      match ps.find? (fun p => s.tierBad p.2.1 p.2.2.1) with
      | some p => .fail 3 0x16 (p.1 + 1)
      | none =>
        match firstTwice [] ps with
        | some i => .fail 3 0 i
        | none =>
          let news := ps.map (fun p => (p.2.1, p.2.2.1, p.2.2.2, slot))
          match ps.find? (fun p => decide (16384 < (s.liveRod p.2.1).count + (s.amendRows news 0 p.2.1).length)) with
          | some p => .fail 3 0x11 p.1
          | none =>
            (s.lockCheck (ps.map (fun p => (p.1, [s.ledger 3 p.2.1])))).bind (fun _ =>
              .ok (ps.map (fun p => .bead p.2.1 p.2.2.1 p.2.2.2 slot), [Word.ofNat ps.length])))

/-- A pair without an effective bead is skipped. -/
def routeClearEdits (c : Cmd) (slot : Nat) (s : State) : Edits :=
  (s.routePairs c ((pairsFrom 3 (c.req.args.drop 3)).map (fun p => (p.1, p.2.1, p.2.2, 0)))).bind (fun ps =>
    let ps := ps.filter (fun p => (s.effBead p.2.1 p.2.2.1).isSome)
    (s.lockCheck (ps.map (fun p => (p.1, [s.ledger 3 p.2.1])))).bind (fun _ =>
      .ok (ps.map (fun p => .bead p.2.1 p.2.2.1 0 slot), [Word.ofNat ps.length])))

/-! ## MSG (R486, R487) -/

/-- A player that plays, or that a pending change starts. -/
def State.playerBusy (s : State) (p : Nat) : Bool :=
  let starts := fun (c : Option Change) => c.any (fun c => c.edits.any (fun e =>
    match e with
    | .play q .. => q == p
    | .planPlay q .. => q == p
    | _ => false))
  s.playerState (s.player p) s.sctr != 0 || starts s.zk.change || starts s.zk.aside

/-- The message that a pending change will start on a player. -/
def State.playWaits (s : State) (p : Nat) : Option Nat :=
  let find := fun (c : Option Change) => c.bind (fun c => c.edits.findSome? (fun e =>
    match e with
    | .play q m .. => if q = p then some m else none
    | .planPlay q _ m .. => if q = p then some m else none
    | _ => none))
  (find s.zk.change).or (find s.zk.aside)

/-- The players a PLAY takes: those named, or the lowest free one. -/
def State.pickPlayers (s : State) (c : Cmd) (w : Word) : Option (List Nat) :=
  if w = 0xFFFFFFFF then
    ((List.range 512).find? (fun p => !s.playerBusy p && !s.lockedUnit (s.ledger 6 p))).map (fun p => [p])
  else some ((s.expandUnit 6 (unitOf c w)).map lgIdx)

/-- A LIVE bead of a rod in another domain reads the player's slot. -/
def State.playerMisread (s : State) (p dom : Nat) : Bool :=
  s.liveRods.any (fun r => (s.liveRod r).dom != dom && (s.effBeads r).any (fun b => b.src == 6144 + p))

/-- A message plays from the flash of the node whose player plays it, so both units are this node's. -/
def msgPlayEdits (c : Cmd) (_slot : Nat) (s : State) : Edits :=
  let a := c.req.args
  let t := timingOf a
  let pw := a.getD 3 0
  let u := unitOf c pw
  let m := unitOf c (a.getD 4 0)
  (s.unitsCheck ((if pw = 0xFFFFFFFF then [] else [(3, u)]) ++ [(4, m)])).bind (fun _ =>
    if pw ≠ 0xFFFFFFFF ∧ ((lgCls u ≠ 6 ∧ lgCls u ≠ 5) ∨ (s.expandUnit 6 u).any (fun p => lgNode p != s.node)) then .fail 2 0 3
    else if lgCls m ≠ 0x13 ∨ lgNode m ≠ s.node then .fail 2 0 4
    else if 65535 < (a.getD 5 0).toNat then .fail 3 0 5
    else if 65535 < (a.getD 6 0).toNat then .fail 3 0 6
    else if ¬ t.asap ∧ ¬ t.stage ∧ t.c < s.stagedAt (lgIdx m) then .fail 3 0x20 1
    else match s.pickPlayers c pw with
      | none => .fail 4 0 3
      | some ps =>
        if ps.any (fun p => s.playerMisread p (s.message (lgIdx m)).dom) then .fail 3 0 3
        else if ps.any (fun p => s.lockedUnit (s.ledger 6 p)) then .fail 0x0C 0 3
        else if ps.any s.playerBusy then .fail 4 0 3
        else .ok (ps.map (fun p => .play p (lgIdx m) (a.getD 5 0).toNat (a.getD 6 0).toNat (a.getD 7 0) t.cfg),
          ps.map (fun p => Word.ofNat (s.ledger 6 p))))

def msgStopEdits (c : Cmd) (_slot : Nat) (s : State) : Edits :=
  let u := unitOf c (c.req.args.getD 3 0)
  (s.unitsCheck [(3, u)]).bind (fun _ =>
    if lgCls u ≠ 6 ∧ lgCls u ≠ 5 then .fail 2 0 3
    else
      let ps := (s.expandUnit 6 u).filter (fun p => lgNode p == s.node)
      (s.lockCheck [(3, ps)]).bind (fun _ => .ok (ps.map (fun p => .stop (lgIdx p) (timingOf c.req.args).cfg), [])))

/-! ## SUP SET, CAS TRANSIT_SET and RETURN_SET (R408, R409, R476) -/

def supSetEdits (c : Cmd) (_slot : Nat) (s : State) : Edits :=
  let u := unitOf c (c.req.args.getD 3 0)
  let prm := (c.req.args.getD 4 0).toNat
  let v := c.req.args.getD 5 0
  (s.unitsCheck [(3, u)]).bind (fun _ =>
    if lgCls u ≠ 9 ∧ lgCls u ≠ 5 then .fail 2 0 3
    else if prm = 0 ∨ 3 < prm then .fail 3 0 4
    else if prm = 3 ∧ 1 < v.toNat then .fail 3 0 5
    else
      let chs := (s.expandUnit 9 u).filter (fun m => lgNode m == s.node)
      let part := (timingOf c.req.args).partHeld
      (if part then .ok () else s.lockCheck [(3, chs)]).bind (fun _ =>
        .ok ((chs.filter (fun m => !s.lockedUnit m)).map (fun m => .sup (lgIdx m) prm v),
          if part then [Word.ofNat (chs.filter s.lockedUnit).length] else [])))

/-- Images for TR0, TR1, … in order. -/
def casTransitEdits (c : Cmd) (_slot : Nat) (_s : State) : Edits :=
  .ok (((pairsFrom 0 (c.req.args.drop 3)).zipIdx).flatMap (fun p =>
    let k := 0x100E1000 + 8 * p.2
    [.par k p.1.2.1 (Word.ofNat (regMask k)), .par (k + 4) p.1.2.2 (Word.ofNat (regMask (k + 4)))]), [])

def casReturnEdits (c : Cmd) (_slot : Nat) (s : State) : Edits :=
  let u := unitOf c (c.req.args.getD 3 0)
  (s.unitsCheck [(3, u)]).bind (fun _ =>
    if lgCls u ≠ 0x10 ∧ lgCls u ≠ 5 then .fail 2 0 3
    else
      let ps := (s.expandUnit 0x10 u).filter (fun p => lgNode p == s.node)
      .ok (ps.map (fun p =>
        let k := 0x100E0120 + 0x40 * lgIdx p
        .par k (c.req.args.getD 4 0) (Word.ofNat (regMask k))), []))

/-! ## Every command with a timing block -/

/-- The edits of a command that may be staged. -/
def plainEdits (c : Cmd) (slot : Nat) (s : State) : Edits :=
  match c.op with
  | 0x0302 => objSetEdits c slot s
  | 0x0306 => rollAddEdits c slot s
  | 0x0307 => rollRemoveEdits c slot s
  | 0x0308 => rollDeleteEdits c slot s
  | 0x0401 => routeSetEdits c slot s
  | 0x0402 => routeClearEdits c slot s
  | 0x0601 => msgPlayEdits c slot s
  | 0x0602 => msgStopEdits c slot s
  | 0x0802 => supSetEdits c slot s
  | 0x0C02 => casTransitEdits c slot s
  | 0x0C03 => casReturnEdits c slot s
  | _ => .ok ([], [])

/-- A staged change under the timing block of the APPLY that lands it; PARTIAL and FANOUT are its own (R468). -/
def underApply (c d : Cmd) : Cmd :=
  let own := (d.req.args.getD 0 0) &&& 0x00000110
  let timing := [((c.req.args.getD 0 0) &&& 0xFFFFFEEF) ||| own, c.req.args.getD 1 0, c.req.args.getD 2 0]
  { d with req := { d.req with args := timing ++ d.req.args.drop 3 } }

/-- OBJ APPLY: the staged changes of this node together, each on what those before it make of the node (R468). -/
def objApplyEdits (c : Cmd) (slot : Nat) (s : State) : Edits :=
  (Chk.thread (fun (d : Cmd) v => (plainEdits (underApply c d) slot v).bind (fun e => .ok e.1)) withEdits s.zk.staged
      (withEdits (slotEdits slot (timingOf c.req.args).cfg) s)).bind (fun es =>
    .ok (es ++ [.applied s.zk.staged.length], []))

def cmdEdits (c : Cmd) (slot : Nat) (s : State) : Edits :=
  if c.op = 0x0303 then objApplyEdits c slot s else plainEdits c slot s

/-- The command passes through a ramp, so it takes a slot (R466). -/
def cmdRamps (c : Cmd) (s : State) : Bool :=
  match c.op with
  | 0x0302 => objSetRamps c s
  | 0x0303 => s.zk.staged.any (fun d => d.op != 0x0302 || objSetRamps d s)
  | 0x0306 => true
  | 0x0307 => true
  | 0x0308 => true
  | 0x0401 => true
  | 0x0402 => true
  | _ => false

/-- The nodes a command acts on (R31, R465). -/
def cmdNodes (c : Cmd) (s : State) : List Nat :=
  let below := fun (u : Nat) => lgNode u :: (if lgCls u = 5 then (underRoll s.zk.rolls u).map lgNode else [])
  let members := fun (cls : Nat) => (s.expandUnit cls (unitOf c (c.req.args.getD 3 0))).map lgNode
  match c.op with
  | 0x0302 => (triples 3 (c.req.args.drop 3)).flatMap (fun x => below (unitOf c x.2.1))
  | 0x0306 => (c.req.args.drop 3).flatMap (fun w => below (unitOf c w))
  | 0x0307 => (c.req.args.drop 3).flatMap (fun w => below (unitOf c w))
  | 0x0308 => below (unitOf c (c.req.args.getD 3 0))
  | 0x0401 => (triples 3 (c.req.args.drop 3)).flatMap (fun x => (s.expandUnit 3 (unitOf c x.2.1)).map lgNode)
  | 0x0402 => (pairsFrom 3 (c.req.args.drop 3)).flatMap (fun x => (s.expandUnit 3 (unitOf c x.2.1)).map lgNode)
  | 0x0602 => members 6
  | 0x0802 => members 9
  | 0x0C03 => members 0x10
  | _ => [s.node]

end Sys2Proof.Machine
end

