-- ==== Sys2Proof/Machine/Land.lean ====
section
/-!
DEFINITION. Requests that become changes (R465 to R470): a change at this node, the operations over several nodes that the
manager runs (R128, R413, R482, R483), what gives way to the alarm service (R134, R470, R484), and compaction (R133).
-/

namespace Sys2Proof.Machine

open Sys2Proof

/-! ## Giving way to the alarm service -/

/-- A tree commit for which an alarm action waits (R132, R504): one that is pending, but not a scene's before COMMIT is sent,
which is released (R484; log entry 94). -/
def State.treeHolds (s : State) : Bool :=
  let t := s.csc.tree
  let scene := s.zk.change.any (fun c => c.scene.isSome)
  s.treePending && (t.phase != 1 || !scene || (t.mine && t.ans == 1 && s.cscRole != 1))

/-- The manager aborts its tree commit for the alarm service (R483). -/
def treeGiveWay (s : State) : State :=
  let t := s.csc.tree
  if s.cscRole = 1 ∧ t.phase = 1 then
    let u := s.withZk { s.zk with tree := s.zk.tree.map (fun op => { op with aborted := true, reason := 0x24 }) }
    treeDecide false (minOpt u.treeBad u.treeSilent) u
  else s

/-- A change that the alarm service puts aside waits as though taken afresh, with the C it was armed with (R470). -/
def Change.putAside (c : Change) : Change :=
  { c with phase := 0, undo := none, page := false, c := if c.armedC = 0 then c.c else some c.armedC,
           armedC := max 1 c.armedC, shared := false }

/-- The alarm service needs the commit unit: a compaction is aborted and due again, a scene or a part whose PREPARE is out is
released, another change is put aside (R134, R470). -/
def yieldHost (s : State) : State :=
  match s.zk.change with
  | none => s
  | some c =>
    if c.src = .alarm ∨ s.treeHolds then s
    else if c.src = .compaction then
      let t := (releaseChange c s).setChange none
      t.withZk { t.zk with compact := true }
    else if c.src = .scene ∨ (c.tag.isSome ∧ c.tag = s.csc.tree.tag ∧ s.csc.tree.phase ≠ 0) then failChange c { status := 8, reason := 0x24 } (treeGiveWay s)
    else
      let t := (releaseChange c s).setChange none
      t.withZk { t.zk with aside := some c.putAside }

/-- After the alarm action, the change that was put aside is pending again. -/
def backFromAside (s : State) : State :=
  if s.zk.change.isNone ∧ s.zk.aside.isSome then s.withZk { s.zk with change := s.zk.aside, aside := none } else s

/-! ## Compaction (R133) -/

/-- Half-units of cancelled beads and of beads that have ended at TO = 0. -/
def State.deadUnits (s : State) : Nat :=
  let t : Int := (s.sctr : Int) - 1
  (s.liveRods.map (fun r =>
    let eff := s.effBeads r
    let gone := (s.mainBeads r).length + (s.amdBeads r).length - eff.length
    let ended := (eff.filter (fun b => b.tgt == 0 && (b.ramp == 0 || rampStage s.engine.ramps b.ramp t == 2))).length
    (gone + ended) * beadUnits s.hRatio (s.liveRod r).dom)).sum

/-- A compaction is due. -/
def State.compactDue (s : State) : Bool :=
  s.zk.compact || decide (49152 < s.amendCount []) || decide (104858 < s.deadUnits) || decide (s.freeSlots < 256)

/-- Start a compaction that is due; a change that waits for it is put aside meanwhile. -/
def compactStep (s : State) : State :=
  let start := fun (t : State) =>
    let u := t.withZk { t.zk with compact := false }
    startChange (u.setChange (some { src := .compaction }))
  if !s.compactDue then s
  else match s.zk.change with
    | none => if s.zk.aside.isNone then start s else s
    | some c =>
      if c.phase = 0 ∧ c.src = .host ∧ s.zk.compact ∧ s.zk.aside.isNone then
        start (s.withZk { s.zk with change := none, aside := some c })
      else s

/-- COMPACTION (R133). -/
def execCompaction (s : State) : Res := .next (onlyIf (s.cus.own == 2) s (compactStep s))

/-! ## A change at this node -/

/-- The reply of a failed check, where its status is one of these. -/
def Chk.failedWith {α : Type} (x : Chk α) (sts : List Nat) : Option Reply :=
  match x with
  | .ok _ => none
  | .bad r => if sts.contains r.status then some r else none

/-- The first reply of a list. -/
def firstReply : List (Option Reply) → Option Reply
  | [] => none
  | some r :: _ => some r
  | none :: t => firstReply t

/-- The change a request may share a commit with (R470). -/
def State.joinable (s : State) (t : Timing) : Option Change :=
  match s.zk.change with
  | some c =>
    if c.src = .host ∧ c.phase = 0 ∧ c.shared ∧ t.asap ∧ c.tag.isNone ∧ c.scan = s.zk.scans ∧ c.armedC = 0 then some c else none
  | none => none

/-- The C of the pending change, where it has one. -/
def State.pendingC (s : State) : Option Nat :=
  let of := fun (c : Change) => if 1 < c.armedC then some c.armedC else c.c
  match s.zk.aside, s.zk.change with
  | some c, _ => of c
  | none, some c => of c
  | none, none => none

/-- Checks 4 to 8 of R471 for a change: the first that fails, or the slot, the edits and further results. A part of a
several-node change has no timing of its own to check. -/
def State.admits (s : State) (part : Bool) (c : Cmd) : Chk (Nat × List Edit × List Word) :=
  let t := timingOf c.req.args
  let v := match s.joinable t with | some d => applyEdits d.edits s | none => s
  let ramps := cmdRamps c v
  let slot := if ramps then s.freeSlot.getD 0 else 0
  let e := cmdEdits c slot v
  let tooMuch := match e with | .ok x => overGrows false v (applyEdits (slotEdits slot t.cfg ++ x.1) v) | .bad _ => false
  let others := s.zk.change.isSome || s.zk.aside.isSome
  let busy := [(!t.stage && s.zk.prepared.isSome && (c.op == 0x0302 || c.op == 0x0401 || c.op == 0x0402), 0),
    (ramps && slot == 0 && !t.stage, 0x30),
    (!part && !t.asap && !t.stage && others && (match s.pendingC with | some x => decide (t.c < x) | none => false), 0)]
  match firstReply ([e.failedWith [2, 0x0A], if part then none else timingParam t s.soonest, e.failedWith [3],
      e.failedWith [0x0C]] ++
      busy.map (fun b => if b.1 then some { status := 4, reason := b.2 } else none) ++ [e.failedWith [4], e.failedWith [5],
      if tooMuch then some { status := 5, arg := 0x3FF } else none]) with
  | some r => .bad r
  | none => e.bind (fun x => .ok (slot, x.1, x.2))

/-- The earliest C of messages that a request starts. -/
def State.stagedFor (s : State) (c : Cmd) : Nat :=
  let one := fun (d : Cmd) => if d.op = 0x0601 then s.stagedAt (lgIdx (unitOf d (d.req.args.getD 4 0))) else 0
  if c.op = 0x0303 then s.zk.staged.foldl (fun m d => max m (one d)) 0 else one c

/-- Keep a staged change (R468). -/
def stageChange (c : Cmd) (s : State) : State := s.withZk { s.zk with staged := s.zk.staged ++ [c] }

/-- A request with a timing block for this node (R466 to R470). -/
def runChange (jseq : Nat) (c : Cmd) (s : State) : Ans × State :=
  let t := timingOf c.req.args
  match s.admits false c with
  | .bad r => (.done r, s)
  | .ok (slot, es, extra) =>
    if t.stage then
      (if c.op = 0x0303 then (badParam 0, s)
       else if 4096 ≤ s.zk.staged.length then (refuse 5 0 0x3FF, s)
       else (okRes (stdResults 0 0xFFFFFFFF jseq 0 ++ extra), stageChange c s))
    else if c.op = 0x0602 ∧ (s.expandUnit 6 (unitOf c (c.req.args.getD 3 0))).all (fun p => !s.playerBusy (lgIdx p)) then
      (okRes (stdResults 0 0xFFFFFFFF jseq 0), s)
    else
      let p : Pend := ⟨c, jseq, slot, extra, t.nowait⟩
      let es := slotEdits slot t.cfg ++ es
      match s.joinable t with
      | some d =>
        (.later, s.setChange (some { d with reqs := d.reqs ++ [p], edits := d.edits ++ es, least := max d.least (s.stagedFor c) }))
      | none =>
        if s.zk.change.isSome ∨ s.zk.aside.isSome then (.wait, s)
        else (.later, s.setChange (some
          { src := .host, reqs := [p], edits := es, c := if t.asap then none else some t.c,
            least := if t.asap then s.stagedFor c else 0, scan := s.zk.scans, shared := t.asap }))

/-! ## Parts of an operation over several nodes (R465, R482) -/

/-- GROUP 5 commands. -/
def isScene (op : Nat) : Bool := op / 256 == 5

/-- The scene a SCENE request names. -/
def sceneArg (c : Cmd) : Nat := lgIdx (c.req.args.getD (if c.op = 0x0501 ∨ c.op = 0x0503 then 0 else 3) 0).toNat

/-- HARD of PREPARE and RECALL. -/
def sceneHard (c : Cmd) : Bool :=
  if c.op = 0x0501 then (c.req.args.getD 1 0).bit 0 else c.op == 0x0504 && (c.req.args.getD 4 0).bit 0

/-- RMP_CFG of a scene's slot: PREPARE gives none yet. -/
def sceneCfg (c : Cmd) : Word := if c.op = 0x0501 then 0 else (timingOf c.req.args).cfg

/-- Release a change and forget the scene it prepared; a COMMIT that waits for it is answered ABORTED (R484). -/
def dropChange (c : Change) (s : State) : State :=
  let t := refuseReqs (c.phase == 2) { status := 8 } c.reqs ((releaseChange c s).setChange none)
  t.withZk { t.zk with prepared := none }

/-- The units of this node that a scene writes: every rod of its image or of the LIVE page, and the strips of its parameters. -/
def State.sceneUnits (s : State) (x : Scene) : List Nat :=
  (x.rods.map (fun q => q.1) ++ s.liveRods).map (s.ledger 3) ++ x.params.flatMap (fun p => (Edit.par p.1 0 0).unitsOf s)

/-- The alarm service holds a unit that a scene writes (R500). -/
def State.sceneHeld (s : State) (k : Nat) : Bool :=
  match Tbl.find s.zk.scenes k with
  | some x => (s.sceneUnits x).any s.lockedUnit
  | none => false

/-- The index of the scene argument. -/
def sceneAt (c : Cmd) : Nat := if c.op = 0x0501 ∨ c.op = 0x0503 then 0 else 3

/-- This node begins to prepare a scene. -/
def prepareScene (tag : Nat) (c : Cmd) (s : State) : State :=
  let k := sceneArg c
  match Tbl.find s.zk.scenes k with
    | none => tellPart tag { status := 2, arg := sceneAt c } s
    | some x =>
      if !x.crcOk then tellPart tag { status := 0x0A, arg := sceneAt c } s
      else if c.op ≠ 0x0501 ∧ (timingOf c.req.args).len = 0 ∧ !sceneHard c then tellPart tag { status := 3, arg := 0 } s
      else if s.sceneHeld k then tellPart tag { status := 0x0C, arg := sceneAt c } s
      else match s.freeSlot with
        | none => tellPart tag { status := 4, reason := 0x30 } s
        | some n =>
          let t := s.setChange (some { src := .scene, edits := slotEdits n (sceneCfg c), scene := some (k, sceneHard c),
                                       tag := some tag })
          t.withZk { t.zk with prepared := some k }

/-- A SCENE part where this node has a prepared scene. -/
def scenePart (tag : Nat) (c : Cmd) (ch : Change) (k : Nat) (hard : Bool) (s : State) : State :=
  if sceneArg c ≠ k then tellPart tag { status := 4 } s
  else if c.op = 0x0502 then
    (if (timingOf c.req.args).len = 0 ∧ !hard then tellPart tag { status := 3, arg := 0 } s
     else if s.sceneHeld k then tellPart tag { status := 0x0C, arg := sceneAt c } s
     else
       let t := applyEdits (slotEdits ((editSlots ch.edits).headD 0) (sceneCfg c)) s
       let t := t.setChange (some { ch with tag := some tag, edits := slotEdits ((editSlots ch.edits).headD 0) (sceneCfg c) })
       if ch.phase = 3 then tellReady tag 0 t else t)
  else prepareScene tag c (dropChange ch s)

/-- Write register images one after another from a list of addresses; the last address first, so that a unit's control
register, the lowest, is written when the others stand. -/
def writeImages (ps : List (Nat × Word)) (s : State) : State :=
  ps.reverse.foldl (fun t p => regWrite tellerInit p.1 p.2 t) s

/-- The registers of a stream (R387). -/
def streamReg (n : Nat) : Nat :=
  if n < 128 then 0x100C2000 + 0x4000 * (n / 32) + 0x40 * (n % 32)
  else 0x100C3000 + 0x4000 * ((n - 128) / 32) + 0x40 * (n % 32)

/-- The class of the units that a command without a timing block writes; none: it names no unit so. -/
def unitClass (op : Nat) : Option Nat :=
  match op with
  | 0x0801 => some 9
  | 0x0A02 => some 0x0C
  | 0x0B01 => some 0x0E
  | 0x0B02 => some 0x0F
  | 0x0B03 => some 0x0F
  | 0x0C01 => some 0x10
  | _ => none

/-- What such a command does to one unit of this node: SUP LEARN (R296), CLK SLOT_SET, NET MAC_SET, STREAM_SET and STREAM_EN, CAS
PORT_SET (R476). -/
def unitWrite (c : Cmd) (n : Nat) (s : State) : State :=
  let v := c.req.args.getD 1 0
  match c.op with
  | 0x0801 =>
    let m := s.monC n
    let m := if v.bit 0 then { m with learnP := 10, sumP := 0 } else m
    s.setMonC n (if v.bit 1 then { m with learnT := 10, sumT := 0, sumG := 0 } else m)
  | 0x0A02 => regWrite tellerInit (0x100A0100 + 0x20 * n) v s
  | 0x0B01 => regWrite tellerInit (0x100C0000 + 0x4000 * n) v s
  | 0x0B02 => writeImages (((c.req.args.drop 1).zipIdx).map (fun p => (streamReg n + 4 * p.2, p.1))) s
  | 0x0B03 => regWrite tellerInit (streamReg n) ((s.reg (streamReg n)).setBit 0 (v.bit 0)) s
  | 0x0C01 => regWrite tellerInit (cpReg n 0) (((s.reg (cpReg n 0)).setBit 0 (v.bit 0)).setFld 1 14 (c.req.args.getD 2 0).toNat) s
  | _ => s

/-- Such a command on the units of this node that its argument names (R462). -/
def unitsHere (c : Cmd) (s : State) : State :=
  match unitClass c.op with
  | none => s
  | some cls =>
    ((s.expandUnit cls (unitOf c (c.req.args.getD 0 0))).filter (fun m => lgNode m == s.node)).foldl
      (fun (t : State) u => unitWrite c (lgIdx u) t) s

/-- A host change is pending here: later requests that change this node's state wait for it (R470). -/
def State.hostPending (s : State) : Bool := s.zk.aside.isSome || s.zk.change.any (fun c => c.src == .host)

/-- Parts of a scene say in a last word whether it covers the node. -/
def sceneCovers (c : Cmd) : Bool := (c.req.args.getLastD 0).bit 0

/-- One waiting part; none: it waits on. Opcode 0 releases what a TAG or a scene has built here. -/
def takePart (p : Nat × Cmd) (s : State) : Option State :=
  let tag := p.1
  let c := p.2
  if c.op = 0 then
    match s.zk.change with
    | some ch =>
      if ch.tag = some tag ∨ (ch.scene.isSome ∧ c.req.args.head? = ch.scene.map (fun x => Word.ofNat x.1)) then
        some (dropChange ch s)
      else if s.zk.aside.any (fun d => d.tag == some tag) then some (s.withZk { s.zk with aside := none })
      else some s
    | none => some s
  else if (unitClass c.op).isSome then (if s.hostPending then none else some (unitsHere c s))
  else if isScene c.op ∧ !sceneCovers c then
    some (tellReady tag 0 (s.withZk { s.zk with idleTag := some tag }))
  else if isScene c.op then
    match s.zk.change with
    | some ch =>
      (match ch.scene with
       | some (k, hard) => some (scenePart tag c ch k hard s)
       | none => none)
    | none => if s.zk.aside.isSome then none else some (prepareScene tag c s)
  else match s.admits true c with
    | .bad r => some (tellPart tag r s)
    | .ok (slot, es, extra) =>
      let n := (extra.headD 0).toNat
      let t := timingOf c.req.args
      if t.stage then
        (if 4096 ≤ s.zk.staged.length then some (tellPart tag { status := 5 } s)
         else some (tellReady tag n (stageChange c s)))
      else if s.zk.change.isSome ∨ s.zk.aside.isSome then none
      else some (s.setChange (some { src := .host, edits := slotEdits slot t.cfg ++ es, tag := some tag, count := n,
                                     c := if t.asap then none else some t.c }))

/-- Every waiting part in order. -/
def takeParts (s : State) : State :=
  s.zk.parts.foldl (fun (t : State) p =>
    match takePart p t with
    | some u => u
    | none => t.withZk { t.zk with parts := t.zk.parts ++ [p] }) (s.withZk { s.zk with parts := [] })

/-! ## The manager's operation -/

/-- Send a part to a node. -/
def sendPart (tag : Nat) (c : Cmd) (n : Nat) (s : State) : State :=
  if n = s.node then s.withZk { s.zk with parts := s.zk.parts ++ [(tag, c)] } else cscSend (.part n tag c) s

/-- Tell nodes to release what a TAG, or a scene, has built there. -/
def sendRelease (tag : Nat) (scene : Option Nat) (ns : List Nat) (s : State) : State :=
  let c : Cmd := ⟨0, { win := 0, seq := 0, args := scene.elim [] (fun k => [Word.ofNat k]) }⟩
  ns.foldl (fun t n => sendPart tag c n t) s

/-- The nodes that a scene covers, and of them the ones that are absent. -/
def State.sceneNodes (s : State) (k : Nat) : List Nat × List Nat :=
  let ns := (Tbl.find s.zk.scenes k).elim [] (fun x => x.nodes)
  (ns.filter s.treeNodes.contains, ns.filter (fun n => !s.treeNodes.contains n))

/-- Start an operation: `ns` are the nodes that take a part; a scene's parts say whether it covers the node. -/
def startTree (pend : Option Pend) (c : Cmd) (ns : List Nat) (s : State) : State :=
  let scene := if isScene c.op then some (sceneArg c) else none
  let cov := scene.elim ([], []) s.sceneNodes
  let tag := s.zk.tagNext
  let t := timingOf c.req.args
  let op : TreeOp :=
    { pend := pend, tag := tag, kind := if c.op = 0x0501 then 0 else 1, scene := scene, left := ns,
      bad := cov.2.foldl (fun m n => minOpt m (some n)) none, status := if cov.2.isEmpty then 0 else 6,
      atC := if c.op = 0x0501 ∨ t.asap then none else some t.c }
  let s := s.withZk { s.zk with tree := some op, tagNext := tag % 255 + 1 }
  ns.foldl (fun u n =>
    sendPart tag (if scene.isSome then { c with req := { c.req with args := c.req.args ++ [Word.ofNat (bitOf (cov.1.contains n))] } }
      else c) n u) s

/-- What SCENE STATUS shows of a node as news of its part arrives: a prepared scene with its TAG, until the node releases it. -/
def sceneNews (node tag : Nat) (r : Reply) (s : State) : State :=
  let at' := fun (x : Tbl (Nat × Nat × Nat × Nat)) => s.withZk { s.zk with sceneAt := x }
  let old := Tbl.find s.zk.sceneAt node
  match s.zk.tree.bind (fun op => if op.tag = tag then op.scene.map (fun k => (k, op.kind)) else none) with
  | some (k, kind) =>
    if r.status = 0 then at' (Tbl.put s.zk.sceneAt node (k, 0, 0, tag))
    else if old.any (fun e => e.2.2.2 == tag) then at' (Tbl.del s.zk.sceneAt node)
    else if kind = 0 ∧ old.isNone then at' (Tbl.put s.zk.sceneAt node (k, r.status, r.reason, tag))
    else s
  | none => if r.status ≠ 0 ∧ old.any (fun e => e.2.2.2 == tag) then at' (Tbl.del s.zk.sceneAt node) else s

/-- A refusal at a node comes before the one that stands: of a scene the lowest node's, else the one R471 puts first, by the
order of arguments, then of nodes (R465). -/
def TreeOp.comesFirst (op : TreeOp) (node : Nat) (r : Reply) : Bool :=
  match op.bad with
  | none => true
  | some b =>
    if op.scene.isSome then decide (node < b)
    else
      let x := (checkOrder r.status, r.arg, node)
      let y := (checkOrder op.status, op.arg, b)
      decide (x.1 < y.1 ∨ (x.1 = y.1 ∧ (x.2.1 < y.2.1 ∨ (x.2.1 = y.2.1 ∧ x.2.2 < y.2.2))))

/-- A node's news about its part. -/
def partDone (node tag : Nat) (r : Reply) (s : State) : State :=
  let t := sceneNews node tag r s
  match s.zk.tree with
  | none => t
  | some op =>
    if op.tag ≠ tag then t
    else
      let op := { op with left := op.left.filter (· != node) }
      t.withZk { t.zk with tree := some (
        if r.status = 0 then { op with ready := op.ready + 1, count := op.count + r.reason }
        else if op.comesFirst node r then { op with bad := some node, status := r.status, reason := r.reason, arg := r.arg }
        else op) }

def setTree (op : Option TreeOp) (s : State) : State := s.withZk { s.zk with tree := op }

/-- No node has the scene of this operation prepared any more. -/
def forgetScene (op : TreeOp) (s : State) : State :=
  match op.scene with
  | some k => s.withZk { s.zk with sceneAt := s.zk.sceneAt.filter (fun e => e.2.1 != k) }
  | none => s

/-- A node with its valid bit in [6] (R483). -/
def nodeWord (n : Option Nat) : Word := Word.ofNat (n.elim 0 (fun k => 64 + k))

/-- The results of an operation that is answered OK. -/
def State.treeResults (s : State) (op : TreeOp) : List Word :=
  stdResults op.c 0xFFFFFFFF (op.pend.elim 0 (fun p => p.jseq)) op.slot ++
    (if op.scene.isSome then [nodeWord s.treeBad, nodeWord s.treeMiss]
     else match op.pend with
      | some p =>
        if p.cmd.op = 0x0401 ∨ p.cmd.op = 0x0402 ∨ (timingOf p.cmd.req.args).partHeld then [Word.ofNat op.count] else []
      | none => [])

/-- Answer an operation's request. A COMMIT or RECALL carries its results with every outcome of a commit (R483). -/
def answerTree (op : TreeOp) (r : Reply) (s : State) : State :=
  match op.pend with
  | some p =>
    let r := if op.scene.isSome ∧ op.kind = 1 ∧ 6 ≤ r.status ∧ r.status ≤ 8 then
        { r with res := s.treeResults { op with slot := 0 } } else r
    answerEntry p.jseq p.cmd r s
  | none => s

/-- The operation ends before PREPARE: every node releases its part. A scene whose COMMIT a check refused stays prepared. -/
def treeEnd (op : TreeOp) (r : Reply) (s : State) : State :=
  if r.status = 3 ∧ op.pend.any (fun p => p.cmd.op == 0x0502) then answerTree op r (setTree none s)
  else answerTree op r (setTree none (forgetScene op (sendRelease op.tag none s.treeNodes s)))

/-- All parts have answered. -/
def treeBuilt (op : TreeOp) (s : State) : State :=
  if op.kind = 0 ∧ op.aborted then treeEnd op { status := 8 } s
  else if op.kind = 0 then
    answerTree op { status := 0, res := [Word.ofNat op.ready, nodeWord op.bad, Word.ofNat op.reason] } (setTree none s)
  else match op.bad with
    | some n =>
      let st := if op.scene.isSome ∧ (op.status = 5 ∨ op.status = 2) then 6 else op.status
      treeEnd op { status := st, reason := op.reason, arg := op.arg, node := some n } s
    | none =>
      if op.aborted then treeEnd op { status := 8, reason := op.reason } s
      else if op.pend.any (fun p => (timingOf p.cmd.req.args).stage) then
        answerTree op { status := 0, res := s.treeResults { op with c := 0 } } (setTree none s)
      else
        let c := op.atC.getD s.soonestTree
        if c < s.leastTree then treeEnd op { status := 3, reason := 0x20, arg := 1 } s
        else
          let slot := s.zk.change.elim 0 (fun ch => (editSlots ch.edits).headD 0)
          if s.cscRole = 1 then
            setTree (some { op with step := 1, c := c, slot := slot }) (treeManager (treePrepare op.tag c (op.scene.getD 0) s))
          else match s.zk.change with
            | none => treeEnd op { status := 6 } s
            | some ch =>
              let u := zkArm c true s
              if u.engine.cmt.armed.isNone then treeEnd op { status := 3, reason := 0x20 } u
              else
                let ps := op.pend.toList.map (fun p => { p with slot := slot, extra := [0, 0] })
                let u := (setTree none (forgetScene op u)).setChange (some { ch with tag := none, phase := 2, armedC := c, reqs := ps })
                ps.foldl (fun v p => if p.nowait then
                  answerEntry p.jseq p.cmd { status := 0, res := stdResults c 0xFFFFFFFF p.jseq p.slot ++ p.extra } v else v) u

/-- A node has missed the COMMIT: the scene is prepared again for it alone, on an unchanged tree (R413). -/
def prepareAgain (k n : Nat) (s : State) : State :=
  let c : Cmd := ⟨0x0502, { win := 0, seq := 0, args := [0x00001000, 0, 0, Word.ofNat k] }⟩
  let t := startTree none c [] s
  match t.zk.tree with
  | none => t
  | some op =>
    let t := setTree (some { op with left := t.treeNodes, bad := none, status := 0 }) t
    t.treeNodes.foldl (fun u m =>
      sendPart op.tag { c with req := { c.req with args := c.req.args ++ [Word.ofNat (bitOf (m == n))] } } m u) t

/-- The lowest node below an expected port that has gone down without a result. -/
def State.treeGone (s : State) : Option Nat :=
  (s.expectedPorts.filter (fun x => x.st != 3 && x.res == 0)).foldl (fun m x => minOpt m (nodesOf x.map).head?) none

/-- PREPARE is out: the decision, and after B the results (R483). -/
def treeRuns (op : TreeOp) (s : State) : State :=
  let t := s.csc.tree
  let tellNow := fun (r : Reply) (u : State) => answerTree op r (setTree none (forgetScene op u))
  if t.phase = 3 then
    let op := if op.status ≠ 0 then op
      else if op.aborted then { op with status := 8 }
      else match s.treeBad with
        | some n => { op with status := 6, bad := some n }
        | none => { op with status := 7, bad := s.treeSilent }
    if !t.mine ∨ t.res ≠ 0 then
      tellNow { status := op.status, reason := op.reason, node := op.bad } s
    else setTree (some op) s
  else if t.phase ≠ 2 then s
  else if s.treeRes = 1 then tellNow { status := 0, res := s.treeResults op } s
  else if s.treeRes = 3 then
    let u := tellNow { status := 7, node := s.treeMiss } s
    match op.scene, s.treeMiss with
    | some k, some n => prepareAgain k n u
    | _, _ => u
  else if s.treeRes = 2 then tellNow { status := 6, node := s.treeBad } s
  else if t.res ≠ 0 ∧ s.treeGone.isSome then
    let u := tellNow { status := 7, node := s.treeGone } s
    u.withZk { u.zk with missed := op.scene.map (fun k => (op.tag, k)) }
  else if op.pend.any (fun p => p.nowait) then
    setTree (some { op with pend := none }) (answerTree op { status := 0, res := s.treeResults op } s)
  else s

/-- A node that was out of reach as the operation ended has come back with MISSED (R413). -/
def treeReturned (s : State) : State :=
  match s.zk.missed, s.treeMiss with
  | some (tag, k), some n =>
    if s.csc.tree.tag = some tag ∧ s.treeRes = 3 then prepareAgain k n (s.withZk { s.zk with missed := none }) else s
  | _, _ => s

/-- The manager goes on with its operation. -/
def treeStep (s : State) : State :=
  match s.zk.tree with
  | none => treeReturned s
  | some op =>
    if op.step = 0 then
      (if op.left.isEmpty ∧ !s.zk.aside.any (fun d => d.tag == some op.tag) then treeBuilt op s else s)
    else if s.csc.tree.tag = some op.tag then treeRuns op s
    else s

end Sys2Proof.Machine
end

