-- ==== Sys2Proof/Machine/Alarm.lean ====
section
/-!
DEFINITION. The voice-alarm service (R492 to R513): triggers, winners, the actions a zone takes, silence and reset, the
fault list and its relay, and rerouting.
-/

namespace Sys2Proof.Machine

open Sys2Proof

/-! ## Plans and their zones -/

def Plan.tkind (p : Plan) : Nat := (p.w 0).fld 8 2
def Plan.tsrc (p : Plan) : Nat := (p.w 0).fld 10 5
def Plan.tdeb (p : Plan) : Nat := max 1 ((p.w 0).fld 17 8)
def Plan.latched (p : Plan) : Bool := (p.w 0).bit 25
def Plan.msg (p : Plan) : Nat := (p.w 1).fld 0 16
def Plan.msg2 (p : Plan) : Option Nat := if (p.w 2).fld 0 16 = 0xFFFF then none else some ((p.w 2).fld 0 16)
def Plan.target (p : Plan) : Word := p.w 3

/-- Every plan this node knows, by node × 1024 + plan. -/
def State.plans (s : State) : List (Nat × Plan) := s.zk.alarm.plan

/-- A plan whose TARGET names zones beyond the node that holds it. -/
def State.planShared (s : State) (k : Nat) : Bool :=
  (s.planZones (s.plan k)).any (fun u => lgNode u != k / 1024 && s.nodeState (lgNode u) != 2)

/-- This node decides about a plan: its holder, or the manager where it is shared (R497). A worker without its link decides
itself. -/
def State.planMine (s : State) (k : Nat) : Bool :=
  let home := k / 1024 == s.node
  if s.planShared k then s.cscRole == 1 || (home && !(s.cscRole == 2 && s.cpIsUp 0)) else home

/-- What the service journals: an event code and its plan word or payload, and further words (R511). -/
def alarmLog (code payload : Nat) (more : List Word) (s : State) : State :=
  journalAlarm (Word.ofNat code :: Word.ofNat payload :: more) s

/-- An event of the service, raised and journaled. -/
def alarmEvent (code payload : Nat) (s : State) : State := alarmLog code payload [] (s.raise code payload)

def markDirty (s : State) : State := s.withAlarm { s.zk.alarm with dirty := true }

/-- The tree must learn a plan's new state. -/
def sharePlan (k : Nat) (s : State) : State :=
  if s.planShared k ∧ s.cscRole = 1 then
    s.withAlarm { s.zk.alarm with share := insertNat k s.zk.alarm.share, dirty := true }
  else markDirty s

/-! ## Silence, reset and activation (R504 to R506) -/

/-- A scope takes a plan in: 0 the whole tree, 1 a plan, 2 a zone or a roll of zones. -/
def State.inScope (s : State) (kind word k : Nat) : Bool :=
  if kind = 0 then true
  else if kind = 1 then word == planWord k
  else
    let zs := s.expandUnit 4 (s.unit (Word.ofNat word))
    (s.planZones (s.plan k)).any zs.contains

/-- The tree learns that a plan of this node alone has become active or has ended, for plans silenced elsewhere (R505). -/
def tellActive (k : Nat) (s : State) : State :=
  if s.cscRole = 0 ∨ s.planShared k then s else cscSend (.active k (s.plan k).defn (s.plan k).active) s

/-- SILENCE of one plan. -/
def silencePlan (kind word k : Nat) (s : State) : State :=
  let p := s.plan k
  if p.active ∧ !p.silenced ∧ !p.live then
    sharePlan k (alarmEvent 0x0A03 (planWord k) (s.setPlan k
      { p with silenced := true, sounding := false, scope := some (kind, word)
               wereOn := (s.plans.filter (fun e => e.2.active)).map (fun e => e.1) }))
  else s

/-- A plan ends: its holds fall, and its players and line follow with the next commit. -/
def endPlan (k : Nat) (s : State) : State :=
  let p := s.plan k
  tellActive k (sharePlan k (alarmEvent 0x0A04 (planWord k) (s.setPlan k
    { p with active := false, silenced := false, done := false, moment := false, scope := none, wereOn := [] })))

/-- RESET of one plan: one whose trigger is still active stays. -/
def resetPlan (k : Nat) (s : State) : State :=
  let p := s.plan k
  if !p.active then s
  else if p.trig then alarmEvent 0x0A05 (planWord k) s
  else endPlan k s

/-- SILENCE or RESET over a scope, for the plans this node decides about. -/
def takeScope (kind word : Nat) (reset : Bool) (s : State) : State :=
  (s.plans.map (fun e => e.1)).foldl (fun (t : State) k =>
    if t.planMine k ∧ t.inScope kind word k then (if reset then resetPlan k t else silencePlan kind word k t) else t) s

/-- A silenced plan sounds again from its first message. -/
def renewPlan (k : Nat) (s : State) : State :=
  let p := s.plan k
  if p.active ∧ p.silenced then
    sharePlan k (alarmLog 0x0A02 (planWord k) [] (s.setPlan k
      { p with silenced := false, sounding := false, done := false, scope := none, wereOn := [] }))
  else s

/-- Plans this node decides about that were silenced over a scope that takes in `k`, while `k` was not active (R505). -/
def State.silencedOver (s : State) (k : Nat) : List Nat :=
  (s.plans.filter (fun e => s.planMine e.1 && e.2.silenced && !e.2.wereOn.contains k &&
    (match e.2.scope with | some c => s.inScope c.1 c.2 k | none => false))).map (fun e => e.1)

/-- Plans that a SILENCE took and that plan `k`, which has become active, lets sound again. -/
def renewOver (k : Nat) (s : State) : State := (s.silencedOver k).foldl (fun u j => renewPlan j u) s

/-- An accepted plan (R497): it becomes active, and silenced plans of its scope sound again. -/
def activate (k : Nat) (s : State) : State :=
  let p := s.plan k
  let t := s.setPlan k { p with accept := false }
  if !p.en then t
  else if p.active then renewPlan k (if p.silenced then t.setPlan k { t.plan k with due := true } else t)
  else
    let t := s.setPlan k { p with accept := false, active := true, silenced := false, done := false, since := s.blk, due := true }
    let t := alarmLog 0x0A01 (planWord k) [p.origin] (t.raise 0x0A01 (planWord k))
    tellActive k (renewOver k (sharePlan k t))

/-! ## Triggers (R497, R503) -/

/-- The first SCTR at or after a TB0 instant in seconds (R356); none before the map has a rate. -/
def State.sctrOfTb (s : State) (sec : Nat) : Option Nat :=
  let per := s.tbs.epochPer.toNat
  if per = 0 then none
  else
    let d : Int := (sec : Int) * 1000000000 * 65536 - ((s.tbs.epochTb / 2 ^ 24 : Nat) : Int)
    some (((s.tbs.epochSctr : Int) + (d + per - 1) / per).toNat)

/-- The instant of a time trigger that is due next. -/
def Plan.instant (p : Plan) : Option Nat :=
  if p.tkind ≠ 3 ∨ p.spent then none
  else some (p.nextAt.getD ((p.w 5).toNat + (p.w 6).fld 0 16 * 2 ^ 32))

/-- Blocks before its instant at which a time plan's commit is prepared: the comparator fires 4 blocks ahead, a tree needs
8 + 2D + 1 (R503), and a worker's message its way to the manager. -/
def State.timeLead (s : State) (k : Nat) : Nat :=
  if s.planShared k then 24 * (8 + 2 * s.subDepth + 1) + (if s.planMine k then 0 else 384) else 96 + 24

/-- A worker tells the manager that a shared plan's trigger began or ended. -/
def tellTrigger (k : Nat) (on moment : Bool) (c : Option Nat) (s : State) : State :=
  cscSend (.trigger k (s.plan k).defn on moment c (s.plan k).acceptedAt) s

/-- A time plan whose lead has come is accepted with C at its instant, and its next occurrence follows. -/
def timeTrigger (k : Nat) (s : State) : State :=
  let p := s.plan k
  match p.instant with
  | none => s
  | some sec =>
    match s.sctrOfTb sec with
    | none => s
    | some t =>
      if s.sctr + s.timeLead k < t then s
      else
        let period := (p.w 6).fld 16 16
        let p := { p with nextAt := if period = 0 then p.nextAt else some (sec + 60 * period), spent := decide (period = 0),
                          moment := true, acceptedAt := t }
        let u := s.setPlan k p
        if t < s.sctr then u
        else if !s.planMine k then tellTrigger k true true (some t) u
        else activate k (u.withAlarm { u.zk.alarm with whenC := some (max t (u.zk.alarm.whenC.getD 0)) })

/-- The trigger of a plan this node holds, as the boundary finds it. A contact input counts from its first accepted state on; the
trigger of a control input is accepted at the first of TDEB samples. -/
def trigUpdate (k : Nat) (s : State) : State :=
  let p := s.plan k
  let change := fun (q : Plan) (on : Bool) (acc : Nat) (t : State) =>
    let u := t.setPlan k { q with trig := on, run := 0, moment := if on then false else q.moment,
                                  acceptedAt := if on then acc else q.acceptedAt }
    if t.planMine k then (if on then u.setPlan k { u.plan k with accept := true } else u)
    else tellTrigger k on false none u
  if p.tkind = 1 then
    let on := decide ((s.sinAt p.tsrc).state = (p.w 0).fld 15 2)
    match (s.sinAt p.tsrc).seen with
    | some at' => if on = p.trig then s else change p on (max at' (s.sctr - 24)) s
    | none => s
  else if p.tkind = 2 then
    let on := s.mon.ctl.inLvl.getLsbD p.tsrc == (p.w 0).bit 15
    if on = p.trig then (if p.run = 0 then s else s.setPlan k { p with run := 0 })
    else if p.run + 1 < p.tdeb then s.setPlan k { p with run := p.run + 1 }
    else change p on (s.sctr - 24 * (p.tdeb - 1)) s
  else if p.tkind = 3 then timeTrigger k s
  else s

/-- A plan with LATCH = 0 ends with its trigger; one that a command or an instant began ends with its REPEAT. -/
def State.planOver (s : State) (k : Nat) : Bool :=
  let p := s.plan k
  p.active && !p.latched && !p.accept && (if p.moment then p.done else !p.trig)

/-! ## Deciding who sounds (R498 to R500) -/

/-- One plan comes before another in a zone. -/
def State.before (s : State) (a b : Nat) : Bool :=
  let p := s.plan a
  let q := s.plan b
  decide (q.pri < p.pri ∨ (p.pri = q.pri ∧ (p.since < q.since ∨ (p.since = q.since ∧ a ≤ b))))

def State.winnerOf (s : State) (z : Nat) : Option Nat :=
  let ps := (s.plans.filter (fun e => e.2.active && (s.ownZones e.2).contains z)).map (fun e => e.1)
  ps.find? (fun a => ps.all (s.before a))

/-- Every zone's winner. -/
def decideZones (s : State) : State :=
  s.zk.alarm.zone.foldl (fun (t : State) e =>
    let w := if e.2.en then t.winnerOf e.1 else none
    if w = e.2.winner then t else t.setZone e.1 { e.2 with winner := w, fresh := true }) s

/-- Zones of this node that a plan wins. -/
def State.wins (s : State) (k : Nat) : List (Nat × Zone) := s.zk.alarm.zone.filter (fun e => e.2.winner == some k)

/-- A plan that has a player here; a silenced one keeps the player it has. -/
def State.needsPlayer (s : State) (k : Nat) : Bool :=
  let p := s.plan k
  p.active && !p.done && !p.live && !(s.wins k).isEmpty

/-- Players of the service that no plan has and that have fallen idle. -/
def State.idlePlayer (s : State) : Option Nat :=
  ((List.range 64).map (· + 448)).find? (fun n =>
    s.playerState (s.player n) s.sctr == 0 && !s.plans.any (fun e => e.2.player == some n))

/-- Give a plan a player; without a free one the lowest-PRI playing plan gives up its own (R499). -/
def givePlayer (k : Nat) (s : State) : State :=
  let p := s.plan k
  match s.idlePlayer with
  | some n => s.setPlan k { p with player := some n, sounding := false }
  | none =>
    let have' := (s.plans.filter (fun e => e.2.player.isSome)).map (fun e => e.1)
    match have'.find? (fun a => have'.all (fun b => s.before b a)) with
    | none => s
    | some v =>
      if s.before v k then s
      else
        let n := (s.plan v).player
        let t := s.setPlan v { s.plan v with player := none, sounding := false }
        (t.setPlan k { t.plan k with player := n, sounding := false }).raise 0x0A0E (planWord v)

/-- The domain of a plan's first message, and the announcement path it has. -/
def State.planDom (s : State) (k : Nat) : Nat := (s.message (s.plan k).msg).dom
def State.planPath (s : State) (k : Nat) : Option (Nat × Nat) :=
  match s.zk.alarm.pathUse.find? (fun e => e.2 == k) with
  | some e => s.zk.alarm.paths[e.1]?
  | none => none

/-- Players and announcement paths follow the plans that sound. -/
def decidePlayers (s : State) : State :=
  let ks := s.plans.map (fun e => e.1)
  let s := ks.foldl (fun (t : State) k =>
    if !t.needsPlayer k ∧ (t.plan k).player.isSome then t.setPlan k { t.plan k with player := none, sounding := false } else t) s
  let s := ks.foldl (fun (t : State) k => if t.needsPlayer k ∧ !(t.plan k).silenced ∧ (t.plan k).player.isNone then givePlayer k t else t) s
  let v := fun (t : State) (k : Nat) => (t.plan k).player.isSome && t.planDom k == 2
  let s := s.withAlarm { s.zk.alarm with pathUse := s.zk.alarm.pathUse.filter (fun e => v s e.2) }
  ks.foldl (fun (t : State) k =>
    if v t k ∧ (t.planPath k).isNone then
      match (List.range t.zk.alarm.paths.length).find? (fun i => (Tbl.find t.zk.alarm.pathUse i).isNone) with
      | some i => t.withAlarm { t.zk.alarm with pathUse := Tbl.put t.zk.alarm.pathUse i k }
      | none => t
    else t) s

/-- The source slot a plan has in its zone rods: a live source, its player, or its announcement path. -/
def State.planSrc (s : State) (k : Nat) : Option Nat :=
  let p := s.plan k
  if p.live then some ((p.w 1).fld 0 13)
  else match p.player with
    | none => none
    | some n => if s.planDom k = 2 then (s.planPath k).map (fun e => e.2) else some (6144 + n)

/-- What a zone remembers of the beads it ducks, and its own sources. -/
def decideBeads (s : State) : State :=
  s.zk.alarm.zone.foldl (fun (t : State) e =>
    let z := t.zone e.1
    match z.winner with
    | none => t
    | some k =>
      let want := (t.planSrc k).toList
      let add := if z.fresh then (t.effBeads z.rod).filter (fun b => b.tgt != 0 && !z.mine.contains b.src) else []
      t.setZone e.1 { z with
        mine := want.foldl (fun l n => insertNat n l) z.mine
        saved := add.foldl (fun l b => (l.filter (fun p => p.1 != b.src)) ++ [(b.src, Word.ofInt b.tgt)]) z.saved }) s

/-- The decision: holds stand from here on (R500). -/
def alarmDecide (s : State) : State := decideBeads (decidePlayers (decideZones s))

/-! ## The edits of an action -/

/-- The first `n` free ramp slots. -/
def State.someSlots (s : State) (n : Nat) : List Nat :=
  let used := s.takenSlots
  (((List.range 4095).map (· + 1)).filter (fun k => !used.contains k)).take n

/-- Current TO of a pair in the LIVE page; 0 where it has no bead. -/
def State.tgtNow (s : State) (r src : Nat) : Int := match s.effBead r src with | some e => e.2.tgt | none => 0

/-- A zone's bead edits; `ds` gives the slot of a ramp length. -/
def State.zoneEdits (s : State) (ds : Nat → Nat) (z : Zone) : List Edit :=
  let eff := s.effBeads z.rod
  let slot := ds z.duckLen
  match z.winner with
  | some k =>
    let want := (s.planSrc k).toList
    (want.filterMap (fun n => if s.tgtNow z.rod n = sval z.alevel then none else some (.bead z.rod n z.alevel (ds 0)))) ++
      (eff.filter (fun b => !want.contains b.src && b.tgt != 0 && (z.fresh || z.mine.contains b.src))).map
        (fun b => .bead z.rod b.src 0 slot)
  | none =>
    ((z.mine.filter (fun n => !z.saved.any (fun p => p.1 == n) && s.tgtNow z.rod n != 0)).map (fun n => .bead z.rod n 0 slot)) ++
      (z.saved.filter (fun p => s.tgtNow z.rod p.1 == 0 || z.mine.contains p.1)).map (fun p => .bead z.rod p.1 p.2 slot)

/-- The V rods of announcement paths: a unity bead for the plan's player, no other player of the service (R499). -/
def State.pathEdits (s : State) (hard slot : Nat) : List Edit :=
  (s.zk.alarm.paths.zipIdx).flatMap (fun p =>
    let r := p.1.1
    let want := match Tbl.find s.zk.alarm.pathUse p.2 with
      | some k => ((s.plan k).player.map (fun n => 6144 + n)).toList
      | none => []
    (want.filterMap (fun n => if s.tgtNow r n = 2 ^ 27 then none else some (Edit.bead r n 0x08000000 hard))) ++
      ((s.effBeads r).filter (fun b => decide (6592 ≤ b.src ∧ b.src < 6656) && b.tgt != 0 && !want.contains b.src)).map
        (fun b => .bead r b.src 0 slot))

/-- DUCK_LEN of a plan's zones here, the longest. -/
def State.planDuck (s : State) (k : Nat) : Nat := (s.ownZones (s.plan k)).foldl (fun m z => max m (s.zone z).duckLen) 0

/-- Players start for plans that do not sound yet, and players whose plan is silenced, or that no plan has any more, fade over
DUCK_LEN. -/
def State.playerEdits (s : State) : List Edit :=
  s.plans.filterMap (fun e =>
    match e.2.player, e.2.sounding || e.2.silenced with
    | some n, false => some (.planPlay n e.1 e.2.msg e.2.msg2 ((e.2.w 1).fld 16 15) ((e.2.w 2).fld 16 16))
    | _, _ => none) ++
  s.zk.players.filterMap (fun e =>
    match e.2.plan with
    | some k =>
      if 448 ≤ e.1 ∧ e.2.stopAt.isNone ∧ s.playerState e.2 s.sctr ≠ 0 ∧
          !s.plans.any (fun p => p.2.player == some e.1 && !p.2.silenced) then some (.stop e.1 (packW [(8, s.planDuck k)]))
      else none
    | none => none)

/-- Control lines of plans that win a zone, and of plans that have ended (R499, R506). -/
def State.lineEdits (s : State) : List Edit :=
  s.plans.filterMap (fun e =>
    let w := e.2.w 4
    if !w.bit 7 then none
    else if !e.2.lineOn ∧ e.2.active ∧ !(s.wins e.1).isEmpty then some (.line (w.fld 0 6) (w.bit 6) e.1 true)
    else if e.2.lineOn ∧ !e.2.active then some (.line (w.fld 0 6) (!w.bit 6) e.1 false)
    else none)

/-- The edits that bring this node to what its plans ask for; ramps take one slot for each length, the beads of alarm sources one of
length 0 (R89, R113, R499). -/
def State.alarmEdits (s : State) : List Edit :=
  let zs := s.zk.alarm.zone
  let moved := zs.filter (fun e => e.2.fresh || !e.2.mine.isEmpty)
  let duck := moved.foldl (fun m e => max m e.2.duckLen) 0
  let lens := 240 :: 0 :: (moved.map (fun e => e.2.duckLen)).eraseDups.filter (fun n => n != 240 && n != 0)
  let slots := lens.zip (s.someSlots lens.length)
  let ds := fun (n : Nat) => (slots.find? (fun p => p.1 == n)).elim 0 (fun p => p.2)
  let factors := decide ((refreshAll (ds 240) s).next ≠ s.next)
  let work := moved.flatMap (fun e => s.zoneEdits ds e.2) ++ s.pathEdits (ds 0) (ds duck) ++ s.playerEdits ++ s.lineEdits ++
    (if factors then [.factors (ds 240)] else [])
  let fresh := (zs.filter (fun e => e.2.fresh)).map (fun e => Edit.settled e.1 e.2.winner)
  if work.isEmpty then fresh
  else slots.flatMap (fun p => slotEdits p.2 (packW [(8, p.1)])) ++ work ++ fresh

/-- Only marks that a zone has settled: no commit is needed. -/
def onlySettled (es : List Edit) : Bool := es.all (fun e => match e with | .settled .. => true | _ => false)

/-! ## Acting (R497, R499, R504) -/

/-- The manager sends the plans whose state changed and the PREPARE of the action. -/
def shareAct (s : State) : State :=
  let a := s.zk.alarm
  let tag := s.zk.tagNext
  let c := max s.soonestTree (a.whenC.getD 0)
  let t := s.withZk { s.zk with tagNext := tag % 255 + 1, alarm := { a with share := [], tag := some tag, whenC := some c } }
  let t := a.share.foldl (fun (u : State) k =>
    let p := u.plan k
    cscSend (.plan k p.defn p.active p.silenced p.since p.acceptedAt tag c) u) t
  treeManager (treePrepare tag c 0 t)

/-- A tree commit of this node is open. -/
def State.treeOpen (s : State) : Bool := s.csc.tree.mine && s.csc.tree.res == 0 && s.csc.tree.tag.isSome

/-- Build and commit the action here. -/
def alarmCommit (s : State) : State :=
  let a := s.zk.alarm
  let clear := fun (t : State) =>
    t.withAlarm { t.zk.alarm with dirty := false, tag := none, whenC := none }
  let es := s.alarmEdits
  if onlySettled es ∧ a.tag.isNone then clear (es.foldl (fun t e => landEdit t.sctr e t) s)
  else
    let t := yieldHost s
    if t.zk.change.isSome then t
    else startChange ((clear t).setChange (some { src := .alarm, edits := t.alarmEdits, c := a.whenC, tag := a.tag }))

/-- The service acts where something has changed: one commit for this node; an action in progress is finished first. -/
def alarmAct (s : State) : State :=
  if !s.zk.alarm.dirty then s
  else
    let s := alarmDecide s
    match s.zk.change with
    | some c =>
      if c.src = .alarm then
        (if c.phase = 0 then alarmCommit ((s.setChange none).withAlarm
            { s.zk.alarm with tag := if s.zk.alarm.tag.isSome then s.zk.alarm.tag else c.tag,
                              whenC := if s.zk.alarm.whenC.isSome then s.zk.alarm.whenC else c.c })
         else s)
      else if s.treeHolds then s
      else if !s.zk.alarm.share.isEmpty then
        let t := yieldHost s
        if t.zk.change.isSome ∨ t.treeOpen then t else alarmCommit (shareAct t)
      else alarmCommit s
    | none =>
      if s.treeHolds then s
      else if !s.zk.alarm.share.isEmpty then (if s.treeOpen then s else alarmCommit (shareAct s))
      else alarmCommit s

/-- A tree action whose PREPARE never reached this node, or was aborted, ends here. -/
def alarmTimeout (s : State) : State :=
  match s.zk.change with
  | none => s
  | some c =>
    let t := s.csc.tree
    let dead := (t.tag == c.tag && (t.phase == 3 || t.ans == 2) && !t.mine) ||
      (t.tag != c.tag && decide (c.armedC + 768 < s.sctr))
    if c.src = .alarm ∧ c.tag.isSome ∧ c.phase = 3 ∧ dead then failChange { c with tag := none } { status := 8 } s else s

/-- A plan arrives from the manager (R497). -/
def planArrives (k : Nat) (defn : List Word) (active silenced : Bool) (since acc tag c : Nat) (s : State) : State :=
  let p := s.plan k
  let fresh := active && !p.active
  let renewed := p.silenced && !silenced
  let t := s.setPlan k { p with defn := defn, active := active, silenced := silenced, since := since, acceptedAt := acc,
                                done := !(fresh || renewed) && p.done,
                                sounding := !(silenced || renewed) && p.sounding,
                                due := fresh || (renewed && acc != p.acceptedAt) || p.due }
  let t := if fresh then renewOver k t else t
  alarmAct (t.withAlarm { t.zk.alarm with dirty := true, tag := some tag, whenC := some c })

/-- Another node's own plan has become active or has ended (R505). -/
def activeArrives (k : Nat) (defn : List Word) (on : Bool) (s : State) : State :=
  let t := s.setPlan k { s.plan k with defn := defn, active := on }
  if on then renewOver k t else t

/-- A worker's trigger arrives at the manager. -/
def triggerArrives (k : Nat) (defn : List Word) (on moment : Bool) (c : Option Nat) (acc : Nat) (s : State) : State :=
  let p := { s.plan k with defn := defn, acceptedAt := if on then acc else (s.plan k).acceptedAt }
  if moment then
    let t := s.setPlan k { p with moment := true, accept := true }
    t.withAlarm { t.zk.alarm with whenC := match c with | some x => some (max x (t.zk.alarm.whenC.getD 0)) | none => t.zk.alarm.whenC }
  else s.setPlan k { p with trig := on, accept := p.accept || on, moment := if on then false else p.moment }

/-! ## Faults (R508, R509) -/

/-- Open faults of a bridge channel that fail its circuit, and those of its output stage. -/
def State.chFails (s : State) (stage : Bool) (ch : Nat) : Bool :=
  s.zk.alarm.faults.any (fun f => f.payload == s.ledger 9 ch &&
    (if stage then f.code == 0x0103 else f.code == 0x0101 || f.code == 0x0103 || f.code == 0x0201 || f.code == 0x0203))

/-- The feeds a source slot takes: a raw tap's, or those of an input strip. -/
def State.slotFeeds (s : State) (n : Nat) : List Nat :=
  if 6912 ≤ n then [(s.liv (tapKey (n - 6912))).fld 0 15]
  else if n < 2048 then [s.livF (keyIS n 4) 0 15, s.livF (keyIS n 4) 16 15]
  else []

/-- RX streams that feed an enabled live plan and have run dry. -/
def State.dryStreams (s : State) : List Nat :=
  let fs := (s.plans.filter (fun e => e.2.en && e.2.live)).flatMap (fun e => s.slotFeeds ((e.2.w 1).fld 0 13))
  if fs.isEmpty then []
  else (List.range 128).filter (fun n =>
    let c := s.srxCfg n
    c.en && (s.srx n).underTold && fs.any (fun f => decide (4096 + c.first ≤ f ∧ f < 4096 + c.first + c.nch)))

/-- Entries whose condition has ended without an event (R508). -/
def State.faultGone (s : State) (f : FaultEntry) : Bool :=
  let i := f.payload % 2 ^ 20
  match f.code with
  | 0x0105 => !(s.monC i).unmeasured
  | 0x0201 => (s.br i).st == .run
  | 0x0203 => (s.br i).st == .run
  | 0x0305 => s.zk.rsv.st != 2
  | 0x0306 => !s.sar.batLow
  | 0x0B10 => !s.ports.stuck.getLsbD i
  | 0x0521 => !s.dryStreams.contains i
  | 0x0708 => !s.cus.escFail && !s.esc.bad
  | _ => false

/-- The fault list as the boundary finds it. -/
def faultsUpdate (s : State) : State :=
  let fs := s.zk.alarm.faults.filter (fun f => !s.faultGone f)
  let dry := (s.dryStreams.filter (fun n => !fs.any (fun f => f.code == 0x0521 && f.payload == s.ledger 0x0F n))).map
    (fun n => (⟨0x0521, s.ledger 0x0F n, false⟩ : FaultEntry))
  if dry.isEmpty ∧ fs.length = s.zk.alarm.faults.length then s else s.withAlarm { s.zk.alarm with faults := fs ++ dry }

/-- Open faults that keep this node's relay down: at the manager those of the whole tree. -/
def State.relayFaults (s : State) : Nat :=
  s.zk.alarm.faults.length + (if s.cscRole = 1 then (s.zk.alarm.others.map (fun e => e.2.length)).sum else 0)

/-- Drive FAULT_OUT: its active level is the line's ACT bit. -/
def driveRelay (on : Bool) (s : State) : State :=
  let k := s.zk.alarm.faultOut % 64
  let t := ctlLineWrite k (s.ctlBit 0x10160010 k == on) s
  t.withAlarm { t.zk.alarm with relay := on }

/-- The relay drops as a list opens, and the manager learns this node's list. -/
def relayUpdate (s : State) : State :=
  let n := s.zk.alarm.faults.map (fun f => (f.code, f.payload))
  let t := if s.cscRole = 2 ∧ n ≠ s.zk.alarm.told then
      cscSend (.faults s.node n) (s.withAlarm { s.zk.alarm with told := n }) else s
  if t.zk.alarm.relay ∧ t.relayFaults ≠ 0 then (driveRelay false t).raise 0x0A09 t.relayFaults else t

/-- FAULT_RELAY_RISE (R509): the lists have been empty for 10 s. -/
def execFaultRelayRise (s : State) : Res :=
  .next (onlyIf (s.cus.own == 2 && !s.zk.alarm.relay && s.relayFaults == 0) s ((driveRelay true s).raise 0x0A0A 0))

/-! ## Rerouting (R510) -/

/-- Circuits of a zone that now have a failed channel: A, B, and with an output-stage fault. -/
def State.circuitsNow (s : State) (z : Zone) : Bool × Bool × Bool × Bool :=
  let a := s.stripBridges z.stripsA
  let b := s.stripBridges z.stripsB
  (a.any (s.chFails false), b.any (s.chFails false), a.any (s.chFails true), b.any (s.chFails true))

/-- All circuits of a zone have failed. -/
def Zone.allFailed (z : Zone) (a b : Bool) : Bool :=
  if z.stripsA.isEmpty && z.stripsB.isEmpty then false
  else (a || z.stripsA.isEmpty) && (b || z.stripsB.isEmpty || (z.mode == 0 && !z.stripsA.isEmpty))

/-- A zone is in rerouted use: DUAL with one circuit failed, STANDBY with A failed. -/
def Zone.reroutes (z : Zone) (a b : Bool) : Bool := (z.mode == 1 && a != b) || (z.mode == 2 && a)

def rerouteZone (zi : Nat) (s : State) : State :=
  let z := s.zone zi
  let now := s.circuitsNow z
  let a := z.failA || now.1
  let b := z.failB || now.2.1
  let x := { z with failA := a, failB := b, stageA := z.stageA || now.2.2.1, stageB := z.stageB || now.2.2.2,
                    rerouted := z.reroutes a b || z.rerouted, lost := z.allFailed a b }
  if x = z then s
  else
    let u := s.ledger 4 zi
    let t := markDirty (s.setZone zi x)
    let t := if x.rerouted && !z.rerouted then alarmEvent 0x0A06 u t else t
    if x.lost && !z.lost then alarmEvent 0x0A08 u t else t

/-- REROUTE_RETURN (R510): a circuit has been clear for 60 s. -/
def rerouteReturn (zi : Nat) (s : State) : State :=
  let z := s.zone zi
  let now := s.circuitsNow z
  let x := { z with failA := now.1, failB := now.2.1, stageA := now.2.2.1, stageB := now.2.2.2,
                    rerouted := z.reroutes now.1 now.2.1, lost := z.allFailed now.1 now.2.1 }
  if x = z then s
  else
    let t := markDirty (s.setZone zi x)
    if (z.rerouted && !x.rerouted) || (z.lost && !x.lost) then alarmEvent 0x0A07 (s.ledger 4 zi) t else t

/-- REROUTE_RETURN (R510). -/
def execRerouteReturn (zone : Nat) (s : State) : Res :=
  .next (onlyIf (s.cus.own == 2) s (if (Tbl.find s.zk.alarm.zone zone).isSome then rerouteReturn zone s else s))

/-! ## Players that end, and staging (R487, R501, R506) -/

/-- A player whose plays are over falls idle, its record once the block in process needs it no more; a plan's then counts
as complete. -/
def playerEnd (n : Nat) (s : State) : State :=
  let x := s.player n
  if x.st = 0 ∨ s.playerState x s.sctr ≠ 0 then s
  else
    let t := if s.playerState x s.procBase = 0 then s.setPlayer n {} else s
    match x.plan with
    | some k =>
      if (t.plan k).player = some n ∧ (t.plan k).sounding ∧ !(t.plan k).silenced ∧ ¬ (t.plan k).done then
        markDirty (t.setPlan k { t.plan k with done := true })
      else t
    | none => t

/-- MESSAGE_END (R487). -/
def execMessageEnd (player : Fin 512) (s : State) : Res := .next (onlyIf (s.cus.own == 2) s (playerEnd player s))

/-- MESSAGE_STAGING (R501): the first 2 s of MSG, or of MSG2, of plan `k` are staged at this node, or could not be. -/
def messageStaging (k : Nat) (second ok : Bool) (s : State) : State :=
  let p := s.plan k
  let t := s.setPlan k (if second then { p with staged2 := ok } else { p with staged := ok })
  if ok then t.withAlarm { t.zk.alarm with faults := t.zk.alarm.faults.filter (fun f => !(f.code == 0x0A0D && f.payload == planWord k)) }
  else t.raise 0x0A0D (planWord k)

/-- The service stages here: an enabled message plan of this node, or of another whose TARGET has a zone here; MSG2 while MSG
plays. -/
def State.stagesPlan (s : State) (k : Nat) (second : Bool) : Bool :=
  let p := s.plan k
  p.en && !p.live && (k / 1024 == s.node || !(s.ownZones p).isEmpty) && (!second || (p.sounding && p.msg2.isSome))

/-- `plan`: its node and index. -/
def execMessageStaging (plan : Fin 65536) (g : Staging) (s : State) : Res :=
  .next (onlyIf (s.cus.own == 2 && s.stagesPlan plan g.second) s (messageStaging plan g.second g.ok s))

/-! ## The alarm task (R497, R504) -/

/-- SILENCE and RESET first, then triggers, then plans that end by themselves, faults and reroutes, and the action. -/
def alarmTask (s : State) : State :=
  if s.cus.own ≠ 2 then s
  else
    let before := s.esc.nextSeq
    let asks := s.zk.alarm.asks
    let s := s.withAlarm { s.zk.alarm with asks := [] }
    let s := asks.foldl (fun (t : State) a => takeScope a.1 a.2.1 a.2.2 t) s
    let own := ((s.plans.filter (fun e => e.1 / 1024 == s.node && e.2.en)).map (fun e => e.1))
    let s := own.foldl (fun t k => trigUpdate k t) s
    let s := (s.plans.map (fun e => e.1)).foldl (fun (t : State) k =>
      if (t.plan k).accept ∧ t.planMine k then activate k t else t) s
    let s := (s.zk.players.map (fun e => e.1)).foldl (fun t n => playerEnd n t) s
    let s := (s.plans.map (fun e => e.1)).foldl (fun (t : State) k =>
      if t.planMine k ∧ t.planOver k then endPlan k t else t) s
    let s := faultsUpdate s
    let s := (s.zk.alarm.zone.map (fun e => e.1)).foldl (fun t z => rerouteZone z t) s
    let s := relayUpdate s
    let s := alarmAct (alarmTimeout s)
    if s.esc.nextSeq = before then s else escSync s

end Sys2Proof.Machine
end

