-- ==== Sys2Proof/Machine/Reserve.lean ====
section
/-!
DEFINITION. The Reserve service (R314 to R323): charge, heat, mains, the margin, the reductions and thermal derating. Real
functions are floored to 48 fraction bits.
-/

namespace Sys2Proof.Machine

open Sys2Proof

/-! ## Real functions -/

/-- e^(−y), for y at or above 0. -/
def expNeg (y : Rat) : Rat := ((2 ^ 304 / expFix y : Nat) : Rat) / 2 ^ 48

/-- The series of artanh: z, its square, the current power and the odd divisor, with 128 fraction bits. -/
def artanhTail (z2 : Nat) : Nat → Nat → Nat → Nat
  | 0, _, _ => 0
  | fuel + 1, n, p => p / n + artanhTail z2 fuel (n + 2) (p * z2 / 2 ^ 128)

/-- The natural logarithm of a positive rational. -/
def qln (q : Rat) : Rat :=
  let a := (q * 2 ^ 128).floor.toNat
  let n := Nat.log2 a
  let m := a * 2 ^ 128 / 2 ^ n
  let z := (m - 2 ^ 128) * 2 ^ 128 / (m + 2 ^ 128)
  let v : Int := 2 * artanhTail (z * z / 2 ^ 128) 60 1 z + ((n : Int) - 128) * (ln2Fix / 2 ^ 128 : Nat)
  ((v / 2 ^ 80 : Int) : Rat) / 2 ^ 48

/-! ## Parts of the service -/

def State.rsv (s : State) : Reserve := s.zk.rsv
def State.withRsv (s : State) (r : Reserve) : State := s.withZk { s.zk with rsv := r }
def State.rsvLedger (s : State) : Nat := s.ledger 0x15 0

/-- Some plan of this node, or one shared with it, is active. -/
def State.alarmOn (s : State) : Bool := s.plans.any (fun e => e.2.active && (e.1 / 1024 == s.node || s.planShared e.1))

/-- ALARM_W: the sum of POWER over enabled plans, unless it has been set (R323, R495). -/
def State.alarmW (s : State) : Rat :=
  if (Tbl.find s.rsv.par 10).isSome then s.rsvPar 10
  else (((s.plans.filter (fun e => e.2.en && e.1 / 1024 == s.node)).map (fun e => (e.2.w 7).fld 0 16)).sum : Rat)

/-- Current of the last conversion in A, positive while charging, and battery voltage (R308, R310). -/
def State.batI (s : State) : Rat := (((s.sarCode 9 : Nat) : Rat) - ((s.fldN 0x10090004 0 12 : Nat) : Rat)) * s.rsvPar 5 / 1000
def State.batV (s : State) : Rat := ((s.sarCode 8 : Nat) : Rat) / 4096 * (9 / 5) * s.rsvPar 4

/-! ## Mains (R317) -/

/-- RSV_STATE as Zekor writes it (R324): on a node without the battery, what the node with it has sent. -/
def rsvStateWrite (s : State) : State :=
  let r := s.rsv
  let st := if s.hasBattery then r.st else (r.remote.map (fun x => x.1)).getD 0
  let lost := r.lost || (!s.hasBattery && (r.remote.map (fun x => x.2.1)).getD false)
  s.setReg 0x10090208 (packW [(0, st), (2, bitOf lost), (3, 2 ^ s.stepsInForce - 1)])

/-- The node with the battery tells the others (R323). -/
def rsvTell (s : State) : State :=
  rsvStateWrite (if s.hasBattery then cscSend (.reserve s.rsv.st s.rsv.lost s.rsv.steps) s else s)

/-- A sample at which mains looks absent: the line of MAINS_IN inactive, or a discharge above CAP / 200; none where this node
has neither. -/
def State.mainsAway (s : State) : Option Bool :=
  let k := s.rsvPar 14
  if 0 ≤ k ∧ k < 32 then some (!s.mon.ctl.inLvl.getLsbD k.floor.toNat)
  else if s.hasBattery then some (decide (s.rsvPar 1 / 200 < -s.batI))
  else none

def mainsSample (s : State) : State :=
  match s.mainsAway with
  | none => s
  | some away =>
    let r := s.rsv
    if away = r.lost then (if r.mainsRun = 0 then s else s.withRsv { r with mainsRun := 0 })
    else if r.mainsRun + 1 < (if r.lost then 100 else 10) then s.withRsv { r with mainsRun := r.mainsRun + 1 }
    else if r.lost then rsvTell ((s.withRsv { r with lost := false, mainsRun := 0 }).raise 0x0302 s.rsvLedger)
    else rsvTell ((s.withRsv { r with lost := true, mainsRun := 0, lostFor := 0, alarmFor := 0,
                                      alarmSeen := s.alarmOn }).raise 0x0301 s.rsvLedger)

/-- MAINS_SAMPLE (R317): a 100 ms sample. -/
def execMainsSample (s : State) : Res := .next (onlyIf (s.cus.own == 2) s (mainsSample s))

/-! ## Charge (R314) -/

/-- The charge in Ah of a rest voltage by the table. -/
def tableCharge : List (Word × Word) → Rat → Rat
  | a :: b :: t, v =>
    let x : Rat := (a.1.toNat : Rat)
    let y : Rat := (b.1.toNat : Rat)
    if x ≤ v ∧ v ≤ y then
      (if x = y then (a.2.toNat : Rat) / 100
       else ((a.2.toNat : Rat) + ((b.2.toNat : Rat) - (a.2.toNat : Rat)) * (v - x) / (y - x)) / 100)
    else tableCharge (b :: t) v
  | _, v => Config.tableBeyond v / 100

/-- One second of charge: ΔQACC modulo 2^48, and the correction after each 30 min at rest. -/
def chargeSecond (s : State) : State :=
  let r := s.rsv
  let cap := s.rsvPar 1
  let s := (qaccRead s).2
  let d := wrapS 48 (s.sar.qacc - r.qacc)
  let amps := s.rsvPar 5 / 1000
  let q := max 0 (min cap (r.q + (d : Rat) * amps / 1000 / 3600))
  let rest := if absQ ((d : Rat) * amps / 1000) < cap / 100 then r.rest + 1 else 0
  let q := if rest ≠ 0 ∧ rest % 1800 = 0 ∧ r.table ≠ [] then
      max 0 (min cap (q + (tableCharge r.table (s.batV * 1000) - q) / 4)) else q
  s.withRsv { r with q := q, qacc := s.sar.qacc, rest := rest }

/-! ## Margin (R318) -/

/-- The mean of the last 60 powers. -/
def meanOf (xs : List Rat) : Option Rat := if xs = [] then none else some (xs.sum / (xs.length : Rat))

/-- P_s: as measured, else STBY_W. -/
def State.standbyW (s : State) : Rat := s.rsv.ps.getD (s.rsvPar 9)

/-- M with P_s raised by an amount; none is infinite. -/
def State.marginWith (s : State) (more : Rat) : Option Rat :=
  let r := s.rsv
  let avail := max 0 (r.q - s.rsvPar 2 * s.rsvPar 1)
  let h : Rat := if !r.lost then s.rsvPar 7 else if r.alarmSeen then 0 else max 0 (s.rsvPar 7 - (r.lostFor : Rat) / 3600)
  let t : Rat := if r.lost ∧ r.alarmSeen then max 0 (s.rsvPar 8 / 60 - (r.alarmFor : Rat) / 3600) else s.rsvPar 8 / 60
  let req := ((s.standbyW + more) * h + s.alarmW * t) / s.rsvPar 3
  if req = 0 then none else some (avail / req)

/-- A margin is below a figure, or at or above it. -/
def below (m : Option Rat) (x : Rat) : Bool := match m with | none => false | some v => decide (v < x)
def atLeast (m : Option Rat) (x : Rat) : Bool := !below m x

/-- Times since the loss, the standby power, M and M′. -/
def marginSecond (s : State) : State :=
  let r := s.rsv
  let on := s.alarmOn
  let powers := if r.lost ∧ !on then ((s.batV * max 0 (-s.batI)) :: r.powers).take 60 else []
  let t := s.withRsv { r with
    lostFor := if r.lost then r.lostFor + 1 else 0
    alarmFor := if r.lost ∧ on then r.alarmFor + 1 else if r.lost then r.alarmFor else 0
    alarmSeen := r.lost && (r.alarmSeen || on)
    powers := powers
    ps := if r.lost ∧ !on then meanOf powers else r.ps }
  t.withRsv { t.rsv with margin := t.marginWith 0, margin2 := t.marginWith ((t.rsv.savings.take t.rsv.steps).sum) }

/-! ## States (R319) and steps (R320) -/

def rsvEnter (st : Nat) (s : State) : State :=
  rsvTell ((s.withRsv { s.rsv with st := st, lowRun := 0, backRun := 0,
                                   critRun := if s.rsv.st = 0 ∧ st = 1 then s.rsv.critRun else 0 }).raise
    (if st = 0 then 0x0303 else if st = 1 then 0x0304 else 0x0305) s.rsvLedger)

def stateSecond (s : State) : State :=
  let r := s.rsv
  let run := fun (b : Bool) (n : Nat) => if b then n + 1 else 0
  let low := run (below r.margin (s.rsvPar 11)) r.lowRun
  let crit := run (below r.margin 1) r.critRun
  let back := run (if r.st = 1 then atLeast r.margin2 (s.rsvPar 11 + 1 / 20) else r.st == 2 && atLeast r.margin2 (21 / 20) && !s.sar.batLow)
    r.backRun
  let t := s.withRsv { r with lowRun := low, critRun := crit, backRun := back }
  if r.st < 2 ∧ (10 ≤ crit ∨ s.sar.batLow) then rsvEnter 2 t
  else if r.st = 0 ∧ 10 ≤ low then rsvEnter 1 t
  else if r.st = 1 ∧ 60 ≤ back then rsvEnter 0 t
  else if r.st = 2 ∧ 60 ≤ back then rsvEnter 1 t
  else t

/-- Change the number of steps in force; the saving of each is measured 60 s later. Steps that begin together have one saving, which
the last of them holds. -/
def setSteps (n : Nat) (s : State) : State :=
  let r := s.rsv
  let more := n - r.steps
  rsvTell (s.withRsv { r with
    steps := n, stepFor := 0, stepM := r.margin, stepRose := false, due := true
    stepAges := r.stepAges.take (min n r.steps) ++ List.replicate (more - 1) 61 ++ List.replicate (min 1 more) 0
    stepPs := r.stepPs.take (min n r.steps) ++ List.replicate more s.standbyW
    savings := r.savings.take (min n r.steps) ++ List.replicate more 0 })

/-- M has risen by 0.02 since the last change of steps. -/
def Reserve.risen (r : Reserve) : Bool :=
  match r.margin, r.stepM with
  | some m, some m0 => decide (m0 + 1 / 50 ≤ m)
  | none, _ => true
  | some _, none => false

/-- A second of the steps in force: each records its saving at its age of 60 s. -/
def Reserve.stepsAge (r : Reserve) (ps : Rat) : Reserve :=
  let ages := r.stepAges.map (fun a => min 61 (a + 1))
  { r with
    stepFor := r.stepFor + 1, stepRose := r.stepRose || r.risen, stepAges := ages
    savings := r.savings.zipIdx.map (fun v => if ages.getD v.2 0 = 60 then max 0 (r.stepPs.getD v.2 0 - ps) else v.1) }

def stepsSecond (s : State) : State :=
  let r := s.rsv.stepsAge s.standbyW
  let t := s.withRsv r
  if !r.lost then (if r.steps = 0 then t else setSteps 0 t)
  else if r.st = 2 then (if r.steps < 3 then setSteps 3 t else t)
  else if r.st = 1 then
    (if r.steps = 0 then setSteps 1 t
     else if r.steps = 1 ∧ r.stepFor = 30 ∧ !r.stepRose then setSteps 2 t
     else if r.steps = 3 ∧ 10 ≤ r.stepFor then setSteps 2 t
     else t)
  else if 0 < r.steps ∧ 10 ≤ r.stepFor then setSteps (r.steps - 1) t
  else t

/-! ## Heat (R315, R316) and derating (R322) -/

/-- The output power of a channel. -/
def State.chPower (s : State) (n : Nat) : Rat :=
  let v := 9 / 5 * Config.railAtten (n / 8)
  let z := match (s.monC n).zrefP with
    | some z => z * Config.supOhms n
    | none => s.rsvPar 16
  ((s.br n).dmsLatched : Rat) / 2 ^ 24 * v * v / z

/-- The dissipation of a bank. -/
def State.bankPower (s : State) (b : Nat) : Rat :=
  ((List.range 8).map (fun j => s.chPower (8 * b + j))).sum * (1 / s.rsvPar 15 - 1)

/-- The β equation for a thermistor code (R310, R316), in °C. -/
def State.thermistor (s : State) (b : Nat) : Rat :=
  let code : Rat := (s.sarCode (10 + b) : Rat)
  let r := 10000 * code / (4096 - code)
  1 / (1 / (5963 / 20) + qln (r / s.rsvPar 18) / s.rsvPar 17) - 5463 / 20

def State.hs (s : State) (b : Nat) : Rat := (Tbl.find s.rsv.hs b).getD (s.rsvPar 23)
def State.stg (s : State) (b : Nat) : Rat := (Tbl.find s.rsv.stg b).getD (s.rsvPar 23)

/-- Both poles advance by a second; 60 s ahead. -/
def heatSecond (b : Nat) (s : State) : State :=
  let p := s.bankPower b
  let goal := s.rsvPar 23 + p * s.rsvPar 21
  let hs := if s.sar.thmFlt.bit b then s.hs b + (goal - s.hs b) * (1 - expNeg (1 / s.rsvPar 22)) else s.thermistor b
  let st := s.stg b + (hs + p * s.rsvPar 19 - s.stg b) * (1 - expNeg (1 / s.rsvPar 20))
  s.withRsv { s.rsv with hs := Tbl.put s.rsv.hs b hs, stg := Tbl.put s.rsv.stg b st }

def State.hs60 (s : State) (b : Nat) : Rat :=
  s.hs b + (s.rsvPar 23 + s.bankPower b * s.rsvPar 21 - s.hs b) * (1 - expNeg (60 / s.rsvPar 22))

/-- A channel that carries programme at priority PROTECT or above. -/
def State.protected (s : State) (n : Nat) : Bool :=
  s.zk.alarm.zone.any (fun e => e.2.en && decide (s.rsvPar 12 ≤ (s.zonePri e.2 : Rat)) && (s.stripBridges e.2.strips).contains n)

def State.derateOf (s : State) (n : Nat) : Nat := Tbl.getD s.rsv.derate n 0

def deratesSet (f : Nat → Nat) (b : Nat) (s : State) : State :=
  s.withRsv { s.rsv with
    derate := (List.range 8).foldl (fun t j => Tbl.set t (8 * b + j) (f (8 * b + j)) 0) s.rsv.derate, due := true }

/-- One second of derating of a bank. -/
def derateSecond (b : Nat) (s : State) : State :=
  let chs := (List.range 8).map (fun j => 8 * b + j)
  let floor := fun (n : Nat) => if s.protected n then 6 else 12
  let h := s.hs60 b
  let st := s.stg b
  let any := chs.any (fun n => decide (0 < s.derateOf n))
  if s.rsvPar 24 < h ∨ s.rsvPar 25 < st then
    let t := s.withRsv { s.rsv with cool := Tbl.set s.rsv.cool b 0 0 }
    if chs.all (fun n => decide (floor n ≤ s.derateOf n)) then
      (if s.rsv.limitTold.contains b then t
       else (t.withRsv { t.rsv with limitTold := insertNat b t.rsv.limitTold }).raise 0x0308 b)
    else (deratesSet (fun n => max (s.derateOf n) (min (floor n) (s.derateOf n + 1))) b t).raiseIf (!any) 0x0307 b
  else if any ∧ h + 5 ≤ s.rsvPar 24 ∧ st + 5 ≤ s.rsvPar 25 then
    let n := Tbl.getD s.rsv.cool b 0 + 1
    if n < 10 then s.withRsv { s.rsv with cool := Tbl.set s.rsv.cool b n 0 }
    else
      let t := deratesSet (fun n => s.derateOf n - 1) b s
      t.withRsv { t.rsv with cool := Tbl.set t.rsv.cool b 0 0, limitTold := t.rsv.limitTold.filter (· != b) }
  else s.withRsv { s.rsv with cool := Tbl.set s.rsv.cool b 0 0 }

/-! ## Commits of the service -/

/-- Channels of zones with A/B circuits are essential (R321, R494). -/
def State.isEssential (s : State) (n : Nat) : Bool :=
  s.zk.alarm.zone.any (fun e => decide (1 ≤ e.2.mode) && (s.stripBridges e.2.strips).contains n)

/-- Channels that PARK parks, and parked channels that have become essential. -/
def State.parkable (s : State) : List Nat :=
  (List.range 64).filter (fun n => s.bitN (0x10070000 + 0x40 * n) 0 && !s.isEssential n)
def State.freed (s : State) : List Nat := s.rsv.parked.filter (fun n => s.isEssential n)

/-- What PARK asks for: channels to park, and channels that run again: an essential one is never parked (R321). -/
def State.parkEdits (s : State) : List Edit :=
  let en := fun (v : Nat) (n : Nat) => Edit.reg (0x10070000 + 0x40 * n) v 1
  if 3 ≤ s.stepsInForce then s.parkable.map (en 0) ++ s.freed.map (en 1) else s.rsv.parked.map (en 1)

/-- A step or a ceiling is committed once nothing else is pending (R132, R320): DIM ramps over 1 s. A commit of the service that
still waits is formed again. -/
def reserveAct (s : State) : State :=
  let waits := s.zk.change.any (fun c => c.src == .reserve && c.phase == 0)
  if !s.rsv.due ∨ (s.zk.change.isSome ∧ !waits) ∨ s.zk.aside.isSome then s
  else
    let s := if waits then s.setChange none else s
    let slot := s.freeSlot.getD 0
    let es := slotEdits slot (packW [(8, 48000)]) ++ [.factors slot] ++ s.parkEdits
    startChange ((s.withRsv { s.rsv with due := false }).setChange (some { src := .reserve, edits := es }))

/-- A parked channel that has become essential, by a zone definition or by the DEST of its output strip, runs again, by a commit of
its own (R321). -/
def parkCheck (s : State) : State :=
  reserveAct (if s.freed.isEmpty ∨ s.zk.change.any (fun c => c.src == .reserve) then s else s.withRsv { s.rsv with due := true })

/-- RESERVE_SECOND (R314 to R322). -/
def reserveSecond (s : State) : State :=
  let t := if s.hasBattery then stepsSecond (stateSecond (marginSecond (chargeSecond s))) else s
  let t := (List.range 8).foldl (fun u b => derateSecond b (heatSecond b u)) t
  reserveAct t

def execReserveSecond (s : State) : Res := .next (onlyIf (s.cus.own == 2) s (reserveSecond s))

/-- The state of the node with the battery arrives (R323). -/
def reserveArrives (state : Nat) (lost : Bool) (steps : Nat) (s : State) : State :=
  if s.hasBattery then s
  else
    reserveAct (rsvStateWrite (s.withRsv { s.rsv with
      remote := some (state, lost, steps), due := s.rsv.due || decide (s.stepsInForce ≠ steps) }))

end Sys2Proof.Machine
end

