-- ==== Sys2Proof/Machine/CmdObj.lean ====
section
/-!
DEFINITION. The OBJ, ROUTE and MSG commands (R460 to R465, R468, R476, R478 to R480, R486, R487).
-/

namespace Sys2Proof.Machine

open Sys2Proof

/-- The argument of a request. -/
def argW (c : Cmd) (i : Nat) : Word := c.req.args.getD i 0
def argNat (c : Cmd) (i : Nat) : Nat := (argW c i).toNat

/-- A register as the Teller reads it. -/
def State.regVal (s : State) (a : Nat) : Word := (regRead tellerInit a s).1

/-- Refuse a unit argument that may not be used, or whose class is not one of these. -/
def State.unitArg (s : State) (c : Cmd) (i : Nat) (cls : List Nat) : Option Ans :=
  let u := unitOf c (argW c i)
  if s.unitBad u ≠ 0 then some (refuse (s.unitBad u) 0 i)
  else if cls.contains (lgCls u) then none else some (badUnit i)

/-- Answer a read: a refusal of its unit, or its results. -/
def answerRead (bad : Option Ans) (f : Ans) (s : State) : Ans × State := (bad.getD f, s)

/-! ## OBJ -/

/-- The host's value of a factored field. -/
def State.hostField (s : State) (live : Bool) (key cls woff : Nat) : Word :=
  let hv := if live then s.zk.hostLive else s.zk.hostVal
  let w := if live then s.liv key else s.nxt key
  let mute := (cls == 1 && woff == 5) || (cls == 2 && woff == 5)
  match Tbl.find hv key with
  | some v => v
  | none => if mute then Word.ofNat (bitOf (w.bit (muteBit cls))) else w

/-- The value OBJ GET returns for a PARAM of a unit of this node; none: the PARAM does not exist. -/
def State.getParam (s : State) (u prm : Nat) (live eff : Bool) : Option Word :=
  let cls := lgCls u
  let idx := lgIdx u
  let val := fun (k : Nat) => if live then s.liv k else s.nxt k
  if cls = 5 then
    (let r := if live then Tbl.getD s.zk.rollLive u {} else s.roll u
     if prm = 0x7001 then some r.gain
     else if prm = 0x7002 then some (Word.ofNat (bitOf r.mute)) else none)
  else if eqParam cls prm then some (if live then Tbl.getD s.zk.eqLive (eqKey cls idx prm) 0 else s.eqVal cls idx prm)
  else if (cls = 1 ∨ cls = 2) ∧ 0x6000 ≤ prm ∧ prm < 0x603C then
    (s.paramWord cls idx (prm - 0x6000)).map (fun k =>
      if !eff then Tbl.getD (if live then s.zk.hostLive else s.zk.hostVal) k (val k) else val k)
  else match unitField cls idx prm with
    | none => none
    | some f =>
      let key := (unitFields cls idx).2 + 4 * f.1
      if cls = 1 ∨ cls = 2 then
        (if factored cls f.1 f.2.1 ∧ !eff then some (s.hostField live key cls f.1)
         else
          let w := if f.1 ≠ 15 then val key
            else if cls = 1 then s.isStat idx
            else packW [(0, bitOf (s.osDomErr s.live s.engine.abx.amdLive idx)), (1, bitOf (pbit s.live (keyOS idx 0) 0 && destConf s.live idx))]
          some (Word.ofNat (w.fld f.2.1 f.2.2.1)))
      else some (Word.ofNat ((s.regVal key).fld f.2.1 f.2.2.1))

/-- OBJ GET. -/
def cmdObjGet (c : Cmd) (s : State) : Ans × State :=
  let u := unitOf c (argW c 0)
  answerRead (s.unitArg c 0 [1, 2, 5, 8, 9, 10])
    (match s.getParam u (argNat c 1) ((argW c 2).bit 0) ((argW c 2).bit 1) with
     | some v => okRes [v]
     | none => badParam 1) s

/-- OBJ DISCARD (R468). -/
def cmdObjDiscard (s : State) : Ans × State :=
  (okRes [Word.ofNat s.zk.staged.length], s.withZk { s.zk with staged := [] })

/-- Roll `k` becomes `v`, here and at every other node. -/
def setRoll (k : Nat) (v : Roll) (s : State) : State :=
  cscSend (.roll k (some (v.members, v.gain, v.mute))) (s.withZk { s.zk with rolls := Tbl.put s.zk.rolls k v })

/-- OBJ ROLL_CREATE (R463, R476). -/
def cmdRollCreate (c : Cmd) (s : State) : Ans × State :=
  let w := argW c 0
  let pick := if w = 0xFFFFFFFF then
      ((List.range 65536).find? (fun n => (Tbl.find s.zk.rolls (s.ledger 5 n)).isNone)).map (s.ledger 5)
    else some (unitOf c w)
  if w ≠ 0xFFFFFFFF ∧ (lgCls w.toNat ≠ 5 ∨ 65536 ≤ lgIdx w.toNat) then (badUnit 0, s)
  else match pick with
    | none => (refuse 5 0 0x3FF, s)
    | some k =>
      if (Tbl.find s.zk.rolls k).isSome then (badParam 0, s)
      else if 65536 ≤ s.objectMemory then (refuse 5 0 0x3FF, s)
      else (okRes [Word.ofNat k], setRoll k {} s)

/-- OBJ MEMBERS: up to 1,000 from the start index. -/
def cmdObjMembers (c : Cmd) (s : State) : Ans × State :=
  let ms := (s.roll (unitOf c (argW c 0))).members
  answerRead (s.unitArg c 0 [5]) (okRes (((ms.drop (argNat c 1)).take 1000).map Word.ofNat)) s

/-- Indices of a class that exist on this node. -/
def State.existing (s : State) (cls : Nat) : List Nat :=
  if cls = 5 then ((s.zk.rolls.map (fun e => e.1)).filter (fun k => lgNode k == s.node)).map lgIdx
  else if cls = 0x12 then s.zk.scenes.map (fun e => e.1)
  else if cls = 0x13 then s.zk.messages.map (fun e => e.1)
  else List.range (clsSize cls)

/-- OBJ LIST: existing indices from the start index, up to the frame limit. -/
def cmdObjList (c : Cmd) (s : State) : Ans × State :=
  let cls := argNat c 1
  if cls = 0 ∨ 0x16 < cls then (badParam 1, s)
  else (okRes ((((s.existing cls).filter (fun n => decide (argNat c 2 ≤ n))).take 1021).map Word.ofNat), s)

/-! ## ROUTE -/

/-- ROUTE GET (R480). -/
def cmdRouteGet (c : Cmd) (s : State) : Ans × State :=
  let bad := match s.unitArg c 0 [3] with
    | some a => some a
    | none => match Chk.at 1 (s.srcSlots c (argW c 1)) with
      | .bad r => some (.done r)
      | .ok ns => if ns.length = 1 then none else some (badUnit 1)
  let r := lgIdx (unitOf c (argW c 0))
  let n := match s.srcSlots c (argW c 1) with | .ok ns => ns.headD 0 | .bad _ => 0
  let gone := if (s.amdBeads r).any (fun b => b.supersede && b.src == n) then
      ((s.mainBeads r).filter (fun b => b.src == n)).length else 0
  answerRead bad (okRes (match s.effBead r n with
    | none => [0, 0, 0, 0, 0, Word.ofNat gone]
    | some e =>
      [Word.ofInt e.2.frm, Word.ofInt e.2.tgt, Word.ofNat e.2.ramp,
       (match s.engine.shownAt with | some t => Word.ofInt (e.2.gainAt s.engine.rampsShown t) | none => 0),
       Word.ofNat e.1, Word.ofNat gone])) s

/-- ROUTE LIST: up to 500 pairs from the start index. -/
def cmdRouteList (c : Cmd) (s : State) : Ans × State :=
  let r := lgIdx (unitOf c (argW c 0))
  answerRead (s.unitArg c 0 [3])
    (okRes ((((s.effBeads r).drop (argNat c 1)).take 500).flatMap (fun b => [Word.ofNat b.src, Word.ofInt b.tgt]))) s

/-- ROUTE COST. -/
def cmdRouteCost (s : State) : Ans × State :=
  (okRes [s.regVal 0x10010020, s.regVal 0x10010024, s.regVal 0x10010028, s.regVal 0x10030040], s)

/-! ## MSG -/

/-- What MSG STATUS says of a player: state, message, repetitions done, position. -/
def State.playerStatus (s : State) (p : Nat) : List Word :=
  let x := s.player p
  let st := s.playerState x s.sctr
  let v := s.playAt x (s.playIndex (s.message x.msg).dom x.start s.sctr)
  let e := v.2.2.getD (x.msg, 0)
  let name := fun (m : Nat) => Word.ofNat (s.ledger 0x13 m)
  let done := v.2.1 + bitOf (v.1 == 3 && s.lastGap x (s.playIndex (s.message x.msg).dom x.start s.sctr))
  if st = 0 then
    (match s.playWaits p with
     | some m => [1, name m, 0, 0]
     | none => [0, 0, 0, 0])
  else [Word.ofNat st, name e.1, Word.ofNat done, Word.ofNat e.2]

/-- What a read says of the units of this node that its argument names, one after another (R462). -/
def State.eachUnit (s : State) (c : Cmd) (cls : Nat) (f : Nat → List Word) : List Word :=
  (((s.expandUnit cls (unitOf c (argW c 0))).filter (fun m => lgNode m == s.node)).flatMap (fun m => f (lgIdx m))).take 1021

/-- MSG STATUS (R487). -/
def cmdMsgStatus (c : Cmd) (s : State) : Ans × State :=
  answerRead (s.unitArg c 0 [6, 5]) (okRes (s.eachUnit c 6 s.playerStatus)) s

/-- MSG LIST: stored messages with domain and length, as many as a frame holds. -/
def cmdMsgList (s : State) : Ans × State :=
  (okRes ((s.zk.messages.take 340).flatMap (fun e =>
    [Word.ofNat (s.ledger 0x13 e.1), Word.ofNat e.2.dom, Word.ofNat e.2.len])), s)

end Sys2Proof.Machine
end

