-- ==== Sys2Proof/Machine/CmdSvc.lean ====
section
/-!
DEFINITION. The SYS, OWN, SCENE, ALARM, SUP, RSV, CLK, NET, CAS, CUS, REG, LOG and EVT commands (R443 to R448, R452, R476,
R477, R482 to R485, R488 to R495).
-/

namespace Sys2Proof.Machine

open Sys2Proof

/-- The first of several refusals. -/
def orRefuse (bs : List (Option Ans)) (good : Ans × State) (s : State) : Ans × State :=
  match bs.findSome? (fun b => b) with
  | some a => (a, s)
  | none => good

/-- A refusal where a condition holds. -/
def badIf (b : Bool) (a : Ans) : Option Ans := if b then some a else none

/-! ## SYS -/

/-- The IDCODE that the device's IEEE 1149.1 port answers, and SYS IDENT (R2). -/
def jtagIdcode : Word := 0x4810A0C5

/-- SYS IDENT. -/
def cmdIdent (s : State) : Ans × State :=
  (okRes [jtagIdcode, Config.dieRevs, 0x00040100, packW [(0, s.node), (6, s.fldN 0x100E0000 0 2)]], s)

/-- Plans and faults as STATUS reports them. -/
def State.planList (s : State) : List (Nat × Bool × Bool) := s.plans.map (fun e => (planWord e.1, e.2.active, e.2.silenced))
def State.faultList (s : State) : List (Nat × Nat × Bool) := s.zk.alarm.faults.map (fun f => (f.code, f.payload, f.acked))

/-- SYS STATUS. -/
def cmdSysStatus (s : State) : Ans × State :=
  (okRes [Word.ofNat s.cus.own, s.regVal 0x100A0018, s.regVal 0x10090208, Config.alarmSummary s.planList,
    Word.ofNat s.zk.alarm.faults.length], s)

/-- SYS RESTART and CUS GIVEUP: the device gives up once it has answered. -/
def cmdQuit (fwcode : Nat) (s : State) : Ans × State := (okRes [], s.withZk { s.zk with quit := some fwcode })

def cmdGiveup (c : Cmd) (s : State) : Ans × State :=
  if argNat c 0 < 2 ∨ 15 < argNat c 0 then (badParam 0, s) else cmdQuit (argNat c 0) s

/-- SYS FW_WRITE into the slot that does not hold the running image. -/
def cmdFwWrite (c : Cmd) (s : State) : Ans × State :=
  let off := argNat c 0
  let ws := c.req.args.drop 1
  if off % 4 ≠ 0 ∨ 0x01000000 < off + 4 * ws.length then (badParam 0, s)
  else (okRes [], s.putWords (slotBase (!s.pwr.slotB) + off) ws)

/-- SYS FW_CHECK. -/
def cmdFwCheck (c : Cmd) (s : State) : Ans × State :=
  if 1 < argNat c 0 then (badParam 0, s) else (okRes [Word.ofNat (s.fwFail ((argW c 0).bit 0))], s)

/-- SYS ROLLBACK_HOLD (R434). -/
def cmdRollbackHold (c : Cmd) (s : State) : Ans × State :=
  if 1 < argNat c 0 then (badParam 0, s) else (okRes [], s.withZk { s.zk with rollHold := (argW c 0).bit 0 })

/-! ## OWN (R443 to R447, R477) -/

/-- Every OWN answer carries the owner word. -/
def ownAns (status arg : Nat) (s : State) : Ans := .done { status := status, arg := arg, res := [ownerWord s.zk.owner] }

/-- An ownership event of a window (R454). -/
def ownEvent (code node win : Nat) (s : State) : State := s.raise code (node * 256 + win)

/-- The window of a request, as owner. -/
def ownerOf (q : Req) : Owner :=
  { owned := true, win := q.win, node := q.node, ip := if q.win = 3 then q.ip else 0, port := if q.win = 3 then q.port else 0 }

/-- Accepted: the owner word after it. -/
def ownOk (s : State) : Ans × State := (ownAns 0 0x3FF s, s)
def ownNo (s : State) : Ans × State := (ownAns 1 0x3FF s, s)

/-- Leave the maintenance state. -/
def leaveMaint (o : Owner) (s : State) : State := s.raiseIf o.maint 0x0908 (o.node * 256 + o.win)

/-- CLAIM: of the claims of one scan only the first finds VACANT ownership (R444, R445). -/
def ownClaim (q : Req) (s : State) : Ans × State :=
  let t := s.withZk { s.zk with claimScan := some s.zk.scans }
  if s.zk.owner.owned then (if s.fromOwner q then ownOk t else ownNo t)
  else if s.zk.claimScan = some s.zk.scans then ownNo t
  else ownOk (ownEvent 0x0901 q.node q.win (setOwner (ownerOf q) t))

def ownCede (c : Cmd) (s : State) : Ans × State :=
  let w := argW c 0
  let n := if w.fld 26 6 = 63 then c.req.node else w.fld 26 6
  if !s.fromOwner c.req then ownNo s
  else if s.nodeState n ≠ 0 then (ownAns (s.nodeState n) 0 s, s)
  else if 3 < w.fld 0 4 ∨ (w.fld 0 4 = s.zk.owner.win ∧ n = s.zk.owner.node) then (ownAns 3 0 s, s)
  else ownOk (ownEvent 0x0903 n (w.fld 0 4) (setOwner { s.zk.owner with offer := some (w.fld 0 4, n) } s))

def ownAccept (q : Req) (s : State) : Ans × State :=
  if s.zk.owner.owned ∧ s.zk.owner.offer = some (q.win.val, q.node) then
    ownOk (leaveMaint s.zk.owner (ownEvent 0x0904 q.node q.win (setOwner (ownerOf q) s)))
  else ownNo s

def ownRelease (q : Req) (s : State) : Ans × State :=
  if s.fromOwner q then ownOk (leaveMaint s.zk.owner (ownEvent 0x0902 q.node q.win (setOwner {} s))) else ownNo s

/-- FORCE comes from W2 of a node whose MAINT_n has read low; another node has checked its own pin as it forwarded. -/
def ownForce (q : Req) (s : State) : Ans × State :=
  if q.win = 2 ∧ (s.zk.maintPin ∨ q.node ≠ s.node) then
    ownOk (leaveMaint s.zk.owner (ownEvent 0x0906 q.node 2 (setOwner (ownerOf q) s)))
  else ownNo s

def ownMaint (c : Cmd) (s : State) : Ans × State :=
  let o := s.zk.owner
  let on := (argW c 0).bit 0
  if !s.fromOwner c.req then ownNo s
  else if 1 < argNat c 0 then (ownAns 3 0 s, s)
  else if on = o.maint then ownOk s
  else ownOk (ownEvent (if on then 0x0907 else 0x0908) o.node o.win (setOwner { o with maint := on } s))

/-- OWN commands (R444). -/
def cmdOwn (c : Cmd) (s : State) : Ans × State :=
  match c.op with
  | 0x0201 => ownClaim c.req s
  | 0x0202 => ownCede c s
  | 0x0203 => ownAccept c.req s
  | 0x0204 => ownRelease c.req s
  | 0x0205 => ownForce c.req s
  | 0x0206 => ownMaint c s
  | _ => (ownAns 0 0x3FF s, s)

/-- CEDE_LAPSE (R444): the offer lapses, at the node that holds the owner record. -/
def cedeLapse (s : State) : State :=
  let o := s.zk.owner
  match o.offer with
  | none => s
  | some (w, n) =>
    let t := ownEvent 0x0905 n w (setOwner { o with offer := none } s)
    escSync (journalDevice 3 0 [ownerWord t.zk.owner] t)

def execCedeLapse (s : State) : Res := .next (onlyIf (s.cus.own == 2 && s.cscRole != 2) s (cedeLapse s))

/-! ## SCENE (R481 to R485) -/

/-- The scene argument of a request, its index, and the refusal it earns. -/
def State.sceneBad (s : State) (c : Cmd) : Option Ans :=
  let i := sceneAt c
  let u := unitOf c (argW c i)
  if s.nodeState (lgNode u) ≠ 0 then some (refuse (s.nodeState (lgNode u)) 0 i)
  else if lgCls u ≠ 0x12 ∨ (Tbl.find s.zk.scenes (lgIdx u)).isNone then some (badUnit i)
  else none

/-- The timing block of COMMIT and RECALL. -/
def State.sceneTime (s : State) (c : Cmd) : Option Ans :=
  if c.op = 0x0501 then none
  else
    let t := timingOf c.req.args
    match timingParam t s.leastTree with
    | some r => some (.done r)
    | none =>
      if t.stage then some (badParam 0)
      else badIf (decide (c.op = 0x0504) && decide (t.len = 0) && !sceneHard c) (badParam 0)

/-- PREPARE, COMMIT and RECALL start the manager's operation. -/
def cmdScene (jseq : Nat) (c : Cmd) (s : State) : Ans × State :=
  match s.sceneBad c, s.sceneTime c with
  | some a, _ => (a, s)
  | none, some a => (a, s)
  | none, none =>
    if s.zk.tree.isSome then (.wait, s)
    else
      let ns := if c.op = 0x0501 then (s.sceneNodes (sceneArg c)).1 else s.treeNodes
      (.later, startTree (some ⟨c, jseq, 0, [], (timingOf c.req.args).nowait && decide (c.op ≠ 0x0501)⟩) c ns s)

/-- SCENE ABORT (R484). -/
def cmdSceneAbort (c : Cmd) (s : State) : Ans × State :=
  match s.sceneBad c with
  | some a => (a, s)
  | none =>
    let k := sceneArg c
    match s.zk.tree with
    | some op =>
      if op.scene ≠ some k then (okRes [], sendRelease 0 (some k) s.treeNodes s)
      else if op.step = 0 then (okRes [], s.withZk { s.zk with tree := some { op with aborted := true } })
      else if s.csc.tree.phase = 2 then (badParam 0, s)
      else (okRes [], treeDecide false none (s.withZk { s.zk with tree := some { op with aborted := true } }))
    | none =>
      let t := s.withZk { s.zk with sceneAt := s.zk.sceneAt.filter (fun e => e.2.1 != k) }
      (okRes [], sendRelease 0 (some k) s.treeNodes t)

/-- SCENE STATUS: for each node with a prepared scene its ledger number there, the check's status and reason, and the TAG. -/
def cmdSceneStatus (s : State) : Ans × State :=
  (okRes ((s.zk.sceneAt.take 340).flatMap (fun e =>
    [Word.ofNat (e.1 * 2 ^ 26 + 0x12 * 2 ^ 20 + e.2.1), packW [(0, e.2.2.1), (8, e.2.2.2.1)], Word.ofNat e.2.2.2.2])), s)

/-- SCENE LIST. -/
def cmdSceneList (s : State) : Ans × State :=
  (okRes ((s.zk.scenes.take 510).flatMap (fun e => [Word.ofNat e.1, e.2.crc])), s)

/-! ## ALARM (R488, R492 to R495) -/

/-- A plan's key from its word. -/
def planKey (c : Cmd) (w : Word) : Nat := lgNode (unitOf c w) * 1024 + w.fld 0 10

/-- ALARM TRIGGER: the plan is accepted with its ORIGIN at the next boundary. -/
def cmdTrigger (c : Cmd) (s : State) : Ans × State :=
  let k := planKey c (argW c 0)
  let p := s.plan k
  if !p.en then (badParam 0, s)
  else
    let t := audioDone (s.setPlan k { p with accept := true, origin := argW c 1, moment := !p.trig, acceptedAt := s.audioSctr })
    (okRes [], if t.planMine k then t else tellTrigger k true true none (t.setPlan k { t.plan k with accept := false }))

/-- ALARM SILENCE and RESET: their scope is taken at the next boundary, at every node. -/
def cmdScope (c : Cmd) (s : State) : Ans × State :=
  let kind := argNat c 0
  let u := unitOf c (argW c 1)
  let bad := if kind = 1 then badIf (s.nodeState (lgNode u) != 0) (refuse (s.nodeState (lgNode u)) 0 1)
    else if kind = 2 then s.unitArg c 1 [4, 5] else none
  orRefuse [badIf (decide (2 < kind)) (badParam 0), bad]
    (let word := if kind = 0 then 0 else u
     let reset := c.op == 0x0703
     let t := s.withAlarm { s.zk.alarm with asks := s.zk.alarm.asks ++ [(kind, word, reset)] }
     (okRes [], if s.cscRole = 0 then t else cscSend (.scope kind word reset) t)) s

/-- This node's list has the open fault of an event code and payload. -/
def State.faultOpen (s : State) (code payload : Nat) : Bool :=
  s.zk.alarm.faults.any (fun f => f.code == code && f.payload == payload)

/-- A fault indication of this node is acknowledged (R507). -/
def ackHere (code payload : Nat) (s : State) : State :=
  if s.faultOpen code payload then
    alarmEvent 0x0A0C code (s.withAlarm { s.zk.alarm with
      faults := s.zk.alarm.faults.map (fun f => if f.code == code && f.payload == payload then { f with acked := true } else f) })
  else s

/-- ALARM ACK (R507): an open fault of this node, or at the manager one of another node. -/
def cmdAck (c : Cmd) (s : State) : Ans × State :=
  let hit := (argNat c 0, argNat c 1)
  if s.faultOpen hit.1 hit.2 then (okRes [], ackHere hit.1 hit.2 s)
  else match s.zk.alarm.others.find? (fun e => e.2.contains hit) with
    | some e => (okRes [], cscSend (.ack e.1 hit.1 hit.2) s)
    | none => (badParam 0, s)

/-- ALARM STATUS. -/
def cmdAlarmStatus (s : State) : Ans × State := (okRes (Config.alarmStatus s.planList s.faultList), s)

/-- ALARM PLAN_SET (R495). TARGET names node 63 no more (R460). -/
def cmdPlanSet (c : Cmd) (s : State) : Ans × State :=
  let k := planKey c (argW c 0)
  let ws := (c.req.args.drop 1).set 3 (Word.ofNat (unitOf c (argW c 4)))
  let p : Plan := { defn := ws }
  orRefuse [s.unitArg c 4 [4, 5], badIf (p.tkind == 1 && decide (15 < p.tsrc)) (badParam 1),
      badIf (s.plan k).active (refuse 4 0 0)]
    (okRes [], markDirty (s.setPlan k p)) s

/-- A definition: the unit's word and the eight words that follow it (R493, R495). -/
def defnWords (u : Nat) (ws : List Word) : List Word := Word.ofNat u :: (List.range 8).map (fun i => ws.getD i 0)

def cmdPlanGet (c : Cmd) (s : State) : Ans × State :=
  let k := planKey c (argW c 0)
  (okRes (defnWords (planWord k) (s.plan k).defn), s)

/-- What R494 refuses of a zone definition: the index of the argument. -/
def State.zoneWrong (s : State) (zi : Nat) (z : Zone) : Option Nat :=
  let src := fun (k : Nat) => s.livB (keyOS k 0) 3 || s.livF (keyOS k 0) 16 12 != z.rod
  let others := (s.zk.alarm.zone.filter (fun e => e.1 != zi)).flatMap (fun e => e.2.strips)
  if z.strips.any (fun k => src k || others.contains k) || !decide z.strips.Nodup then some 2
  else if z.mode = 3 ∨ ((z.mode = 1 ∨ z.mode = 2) ∧ z.stripsB.isEmpty) then some 1
  else if !(s.liveRod z.rod).en ∨ (s.liveRod z.rod).dom ≠ 0 then some 1
  else none

/-- ALARM ZONE_SET (R493, R494). -/
def cmdZoneSet (c : Cmd) (s : State) : Ans × State :=
  let zi := lgIdx (unitOf c (argW c 0))
  let z := s.zone zi
  let ws := c.req.args.drop 1
  orRefuse [s.unitArg c 0 [4], (s.zoneWrong zi { z with defn := ws }).map badParam,
      badIf z.winner.isSome (refuse 4 0 0)]
    (okRes [], parkCheck (markDirty (s.setZone zi { z with defn := ws }))) s

def cmdZoneGet (c : Cmd) (s : State) : Ans × State :=
  answerRead (s.unitArg c 0 [4]) (okRes (defnWords (unitOf c (argW c 0)) (s.zone (lgIdx (unitOf c (argW c 0)))).defn)) s

/-! ## SUP (R296, R476) -/

/-- A command on units that its first argument names (R462): here, and on the other nodes of a roll's members. -/
def cmdUnitWrite (c : Cmd) (bad : List (Option Ans)) (s : State) : Ans × State :=
  let cls := (unitClass c.op).getD 0
  let us := s.expandUnit cls (unitOf c (argW c 0))
  let far := (us.map lgNode).eraseDups.filter (fun n => n != s.node)
  orRefuse ((s.unitArg c 0 [cls, 5]) :: bad ++ [badIf (us.any s.lockedUnit) (refuse 0x0C 0 0)])
    (okRes [], far.foldl (fun t n => sendPart 0 c n t) (unitsHere c s)) s

/-- SUP LEARN. -/
def cmdLearn (c : Cmd) (s : State) : Ans × State := cmdUnitWrite c [] s

/-- What SUP STATUS says of a channel: Z, ε, the run state, and the classes of reference learned. -/
def State.supStatus (s : State) (n : Nat) : List Word :=
  let m := s.monC n
  [Config.supZ n m.zLast, Config.supEps m.eLast, Config.supRun m.runAt.isSome m.lineFault m.outFault,
    packW [(0, bitOf m.zrefP.isSome), (1, bitOf m.zrefT.isSome)]]

/-- SUP STATUS. -/
def cmdSupStatus (c : Cmd) (s : State) : Ans × State :=
  answerRead (s.unitArg c 0 [9, 5]) (okRes (s.eachUnit c 9 s.supStatus)) s

/-! ## RSV (R314, R323, R476) -/

/-- RSV SET: a parameter by its number in R323's order; the zero code is also the register's. -/
def cmdRsvSet (c : Cmd) (s : State) : Ans × State :=
  let n := argNat c 0
  if n = 0 ∨ 25 < n then (badParam 0, s)
  else
    let t := s.withRsv { s.rsv with par := Tbl.put s.rsv.par n (argW c 1) }
    (okRes [], if n = 6 then regWrite tellerInit 0x10090004 (argW c 1) t else t)

def cmdRsvGet (c : Cmd) (s : State) : Ans × State :=
  let n := argNat c 0
  if n = 0 ∨ 25 < n then (badParam 0, s) else (okRes [Tbl.getD s.rsv.par n (Config.rsvWord n)], s)

/-- RSV TABLE: 16 pairs of rest voltage and charge. -/
def cmdRsvTable (c : Cmd) (s : State) : Ans × State :=
  (okRes [], s.withRsv { s.rsv with table := (pairsFrom 0 c.req.args).map (fun p => (p.2.1, p.2.2)) })

/-- RSV STATUS: Q, M, M′, state, steps. -/
def cmdRsvStatus (s : State) : Ans × State :=
  (okRes [Config.rsvReport 0 (some s.rsv.q), Config.rsvReport 1 s.rsv.margin, Config.rsvReport 2 s.rsv.margin2,
    Word.ofNat ((s.regVal 0x10090208).fld 0 2), Word.ofNat ((s.regVal 0x10090208).fld 3 3)], s)

/-! ## CLK (R331, R476) -/

def cmdPrioSet (c : Cmd) (s : State) : Ans × State :=
  if 7 < argNat c 0 then (badParam 0, s) else (okRes [], regWrite tellerInit (0x100A0040 + 4 * argNat c 0) (argW c 1) s)

def cmdSlotSet (c : Cmd) (s : State) : Ans × State := cmdUnitWrite c [] s

def cmdMapSet (c : Cmd) (s : State) : Ans × State := (okRes [], s.withZk { s.zk with gradeMap := some c.req.args })

def cmdLoopSet (c : Cmd) (s : State) : Ans × State :=
  (okRes [], writeImages ((c.req.args.zipIdx).map (fun p => (0x100A0004 + 4 * p.2, p.1))) s)

def cmdClkStatus (s : State) : Ans × State := (okRes [s.regVal 0x100A0018], s)

/-! ## NET (R476) -/

def cmdMacSet (c : Cmd) (s : State) : Ans × State := cmdUnitWrite c [] s

/-- STREAM_SET: up to 7 images of an RX stream, or 8 of a TX stream. -/
def cmdStreamSet (c : Cmd) (s : State) : Ans × State :=
  let rx := (s.expandUnit 0x0F (unitOf c (argW c 0))).any (fun u => decide (lgIdx u < 128))
  cmdUnitWrite c [badIf (rx && decide (8 < c.req.args.length)) (badFormat 8)] s

def cmdStreamEn (c : Cmd) (s : State) : Ans × State := cmdUnitWrite c [badIf (decide (1 < argNat c 1)) (badParam 1)] s

/-- The counters of a MAC, and of a stream. -/
def State.macCounters (s : State) (n : Nat) : List Word := ((List.range 12).map (fun i => 0x100C0100 + 0x4000 * n + 4 * i)).map s.regVal
def State.streamCounters (s : State) (n : Nat) : List Word :=
  (if n < 128 then [streamReg n + 0x1C, streamReg n + 0x20, streamReg n + 0x24] else [streamReg n + 0x20]).map s.regVal

/-- NET STATUS: of a roll the MACs first. -/
def cmdNetStatus (c : Cmd) (s : State) : Ans × State :=
  let u := unitOf c (argW c 0)
  let res := if lgCls u = 5 then s.eachUnit c 0x0E s.macCounters ++ s.eachUnit c 0x0F s.streamCounters
    else if lgCls u = 0x0E then s.macCounters (lgIdx u) else s.streamCounters (lgIdx u)
  answerRead (s.unitArg c 0 [0x0E, 0x0F, 5]) (okRes (res.take 1021)) s

/-! ## CAS (R476) -/

def cmdPortSet (c : Cmd) (s : State) : Ans × State :=
  cmdUnitWrite c [badIf (decide (1 < argNat c 1)) (badParam 1), badIf (decide (8192 < argNat c 2)) (badParam 2)] s

/-- CAS TOPO: this node's map, those of its ports, DMAX, and the ports' states. -/
def cmdTopo (s : State) : Ans × State :=
  (okRes ([s.regVal 0x100E0010, s.regVal 0x100E0014] ++
    (List.range 3).flatMap (fun p => [s.regVal (cpReg p 0x18), s.regVal (cpReg p 0x1C)]) ++
    [Word.ofNat ((s.regVal 0x100E0004).fld 3 3)] ++ (List.range 3).map (fun p => s.regVal (cpReg p 4))), s)

/-! ## CUS (R476) -/

def cmdCusStatus (s : State) : Ans × State :=
  (okRes [s.regVal 0x100F0004, s.regVal 0x100F0008, s.regVal 0x100F0018], s)

def cmdHoldSet (c : Cmd) (s : State) : Ans × State :=
  (okRes [], regWrite tellerInit 0x100F0010 (argW c 1) (regWrite tellerInit 0x100F000C (argW c 0) s))

def cmdStbySet (c : Cmd) (s : State) : Ans × State :=
  if 255 < argNat c 0 then (badParam 0, s)
  else (okRes [], regWrite tellerInit 0x100F0000 ((s.reg 0x100F0000).setFld 8 8 (argNat c 0)) s)

/-! ## REG (R489 to R491) -/

/-- Addresses that REG READ may read, and REG WRITE write. -/
def regReadable (a : Nat) : Bool :=
  decide (a < 0x03800000) || isRegAddr a || decide (0x40000000 ≤ a ∧ a < 0xD0000000)
def regWritable (a : Nat) : Bool := decide (a < 0x03800000) || isRegAddr a

/-- A range of words lies where a test holds. -/
def rangeIn (f : Nat → Bool) (a n : Nat) : Bool := (List.range n).all (fun i => f (a + 4 * i))

/-- REG READ: the words in rising order. -/
def cmdRegRead (c : Cmd) (s : State) : Ans × State :=
  let a := argNat c 1
  let n := argNat c 2
  if n = 0 ∨ 256 < n then (badParam 2, s)
  else if !rangeIn regReadable a n then (badParam 1, s)
  else
    let r := busReads tellerInit a n s
    (okRes r.1, r.2)

/-- The entries of a table that differ: key, value before, value after. -/
def tblDiff {α : Type} [DecidableEq α] (default : Nat → α) (old new : Tbl α) : List (Nat × α × α) :=
  (((old ++ new).map (fun e => e.1)).foldl (fun l k => insertNat k l) []).filterMap (fun k =>
    let a := Tbl.getD old k (default k)
    let b := Tbl.getD new k (default k)
    if a = b then none else some (k, a, b))

/-- Earlier changes keep their first value; a new one follows them. -/
def addDiff {α : Type} [DecidableEq α] (old new : List (Nat × α × α)) : List (Nat × α × α) :=
  (old.map (fun e => match new.find? (fun f => f.1 == e.1) with
    | some f => if f.2.1 = e.2.2 then (e.1, e.2.1, f.2.2) else f
    | none => e)) ++ new.filter (fun f => !old.any (fun e => e.1 == f.1))

/-- The units that a register write reaches, of those the alarm service can hold (R500): the strip of a NEXT window, a bridge
channel, the control lines whose bits change. -/
def State.unitAt (s : State) (a : Nat) (v : Word) : List Nat :=
  match s.paramKey tellerInit a with
  | some (k, _) => (Edit.par k 0 0).unitsOf s
  | none =>
    if 0x10160000 ≤ a ∧ a < 0x10160018 then
      ((List.range 32).filter (fun b => (s.reg a).bit b != v.bit b)).map (fun b => s.ledger 0x14 (32 * (a / 4 % 2) + b))
    else (Edit.reg a 0 0).unitsOf s

/-- The part of the state that REG WRITE may have changed and a switch-over does not bring back (R491). -/
def maintNote (s t : State) : State :=
  t.withZk { t.zk with
    maintRegs := addDiff t.zk.maintRegs (tblDiff regReset s.regs t.regs)
    maintNext := addDiff t.zk.maintNext (tblDiff paramReset s.next t.next)
    maintMem := addDiff t.zk.maintMem (tblDiff (fun _ => 0) (s.mem.filter (fun e => isPageAddr e.1)) (t.mem.filter (fun e => isPageAddr e.1)))
    maintTrg := addDiff t.zk.maintTrg (tblDiff (fun _ => {}) s.tbs.trg t.tbs.trg)
    maintCmt := if s.engine.cmt = t.engine.cmt then t.zk.maintCmt
      else match t.zk.maintCmt with
        | some (old, new) => some (if new = s.engine.cmt then old else s.engine.cmt, t.engine.cmt)
        | none => some (s.engine.cmt, t.engine.cmt) }

/-- REG WRITE: the values in rising order; a switch-over does not replay what they change. -/
def cmdRegWrite (c : Cmd) (s : State) : Ans × State :=
  let a := argNat c 1
  let ws := c.req.args.drop 2
  if !rangeIn regWritable a ws.length then (badParam 1, s)
  else if ws.zipIdx.any (fun p => (s.unitAt (a + 4 * p.2) p.1).any s.lockedUnit) then (refuse 0x0C 0 1, s)
  else (okRes [], maintNote s (busWrites tellerInit a ws s))

/-! ## LOG (R452) -/

/-- Whole entries that fit the words left in a frame. -/
def fitEntries : Nat → Nat → List Audit → List Word
  | 0, _, _ => []
  | _, _, [] => []
  | n + 1, room, a :: t =>
    let ws := auditWords a ++ a.args
    if ws.length ≤ room then ws ++ fitEntries n (room - ws.length) t else []

def cmdLogRead (c : Cmd) (s : State) : Ans × State :=
  (okRes (Word.ofNat s.oldest ::
    fitEntries (argNat c 1) 1020 (s.esc.journal.filter (fun a => decide (argNat c 0 ≤ a.seq)))), s)

def cmdLogCheckpoint (s : State) : Ans × State :=
  let t := sealCheckpoint s
  (okRes [Word.ofNat (t.esc.covered - 1)], t)

/-! ## EVT (R441, R474) -/

def setMask (w : Nat) (m : Word) (s : State) : State := { s with evMask := Tbl.set s.evMask w m 0x1FFE }

/-- The subscriber slot of a source, else a free one. -/
def State.subSlot (s : State) (ip : Word) (port : Nat) : Option Nat :=
  match s.subs.find? (fun e => e.2 == (ip, port)) with
  | some e => some e.1
  | none => (List.range 4).find? (fun k => (Tbl.find s.subs k).isNone)

def cmdSubscribe (c : Cmd) (s : State) : Ans × State :=
  match s.subSlot c.req.ip c.req.port with
  | none => (refuse 4 0 0x3FF, s)
  | some k => (okRes [], setMask 3 (argW c 0) { s with subs := Tbl.put s.subs k (c.req.ip, c.req.port) })

def cmdUnsubscribe (c : Cmd) (s : State) : Ans × State :=
  match s.subs.find? (fun e => e.2 == (c.req.ip, c.req.port)) with
  | none => (okRes [], s)
  | some e => (okRes [], { s with subs := Tbl.del s.subs e.1, evq := Tbl.set s.evq (3 + e.1) {} {} })

def cmdMask (c : Cmd) (s : State) : Ans × State := (okRes [], setMask c.req.win (argW c 0) s)

end Sys2Proof.Machine
end

