-- ==== Sys2Proof/Machine/Scan.lean ====
section
/-!
DEFINITION. How Zekor takes requests and executes them (R435, R436, R443, R455 to R459, R470, R471): the checks of a frame,
the node that acts, the journal, and the scan.
-/

namespace Sys2Proof.Machine

open Sys2Proof

/-! ## The frame (R457) -/

/-- Commands with a timing block. -/
def timedOps : List Nat :=
  [0x0302, 0x0303, 0x0306, 0x0307, 0x0308, 0x0401, 0x0402, 0x0502, 0x0504, 0x0601, 0x0602, 0x0802, 0x0C02, 0x0C03]

/-- Commands over units of several nodes. -/
def severalOps : List Nat := [0x0302, 0x0306, 0x0307, 0x0308, 0x0401, 0x0402, 0x0602, 0x0802, 0x0C03]

/-- The first of listed (argument, reserved bits) of which one is 1. -/
def reservedOf (c : Cmd) (xs : List (Nat × Word)) : Option Nat := (xs.find? (fun x => argW c x.1 &&& x.2 != 0)).map (fun x => x.1)

/-- The bits of a register image that the register map reserves: those it neither writes nor defines as read-only status
(CFGERR of MACm_CTL, the status bits of SRX_CTL and STX_CTL). -/
def reservedIn (a : Nat) : Word :=
  let status : Nat := match a with
    | 0x100C0000 => 0x80000000
    | 0x100C2000 => 0x38000000
    | 0x100C3000 => 0x04000000
    | _ => 0
  ~~~ (Word.ofNat (regMask a ||| status))

/-- Reserved bits of plan and zone definitions, of register images, of class-0 sources and of other arguments (R456, R457, R493,
R495). -/
def reservedBits (c : Cmd) : List (Nat × Word) :=
  let node := fun (i : Nat) => [(i, (0x03FFFFFF : Word))]
  let src := fun (i : Nat) => if lgCls (argNat c i) = 0 then [(i, (0xFFFFE000 : Word))] else []
  match c.op with
  | 0x0401 => (triples 3 (c.req.args.drop 3)).flatMap (fun x => src (x.1 + 1))
  | 0x0402 => (pairsFrom 3 (c.req.args.drop 3)).flatMap (fun x => src (x.1 + 1))
  | 0x0403 => src 1
  | 0x0A01 => [(1, reservedIn 0x100A0040)]
  | 0x0A02 => [(1, reservedIn 0x100A0100 ||| (if argNat c 0 % 65536 = 4 then 0 else 0xC0) |||
      (if argNat c 0 % 65536 = 6 then 0 else 0xF00))]
  | 0x0A04 => (List.range c.req.args.length).map (fun i => (i, reservedIn (0x100A0004 + 4 * i)))
  | 0x0B01 => [(1, reservedIn 0x100C0000)]
  | 0x0B02 => (List.range (c.req.args.length - 1)).map (fun i =>
      (i + 1, reservedIn ((if lgIdx (argNat c 0) < 128 then 0x100C2000 else 0x100C3000) + 4 * i)))
  | 0x0C02 => (List.range (c.req.args.length - 3)).map (fun i => (i + 3, reservedIn (0x100E1000 + 4 * i)))
  | 0x0C03 => [(4, reservedIn 0x100E0120)]
  | 0x0202 => [(0, 0x03FFFFF0)]
  | 0x0301 => [(2, 0xFFFFFFFC)]
  | 0x0303 => node 3
  | 0x0304 => node 0
  | 0x030A => node 0
  | 0x0405 => node 0
  | 0x0501 => [(1, 0xFFFFFFFE)]
  | 0x0504 => [(4, 0xFFFFFFFE)]
  | 0x0701 => [(0, 0x03FFFC00)]
  | 0x0702 => if argNat c 0 = 1 then [(1, 0x03FFFC00)] else []
  | 0x0703 => if argNat c 0 = 1 then [(1, 0x03FFFC00)] else []
  | 0x0706 => [(0, 0x03FFFC00), (1, if (argW c 1).fld 8 2 = 2 then 0x7C010000 else 0x7C000000), (5, 0xFFFFFF00), (8, 0xFFFF0000)]
  | 0x0707 => [(0, 0x03FFFC00)]
  | 0x0708 => [(1, 0x00004000), (2, 0x7C007C00), (3, 0x7C007C00), (4, 0x7C007C00), (5, 0x7C007C00), (7, 0xFFFF0000), (8, 0xFFFFFFFF)]
  | 0x0801 => [(1, 0xFFFFFFFC)]
  | 0x0E01 => node 0
  | 0x0E02 => node 0
  | _ => []

/-- The argument that makes a request FORMAT by what the catalogue says of the command: an ADDR that is not 4-aligned (R489), a
scene whose image fails its CRC (R481). -/
def State.contentBad (s : State) (c : Cmd) : Option Nat :=
  if (c.op = 0x0E01 ∨ c.op = 0x0E02) ∧ argNat c 1 % 4 ≠ 0 then some 1
  else if isScene c.op ∧ c.op < 0x0505 ∧ lgCls (argNat c (sceneAt c)) = 0x12 ∧
      (Tbl.find s.zk.scenes (lgIdx (argNat c (sceneAt c)))).any (fun x => !x.crcOk) then some (sceneAt c)
  else none

/-- Checks 1 and 2 of R471: SEQ 0, the arguments, an unknown command, one of another window. -/
def frameBad (c : Cmd) (s : State) : Option Reply :=
  if c.req.seq = 0 then some { status := 0x0A, reason := 4 }
  else match cmdSpec c.op with
    | none => some { status := 0x0B }
    | some x =>
      match x.countBad c.req.args.length with
      | some i => some { status := 0x0A, reason := 5, arg := i }
      | none =>
        if timedOps.contains c.op && timingFormat c.req.args then some { status := 0x0A, reason := 5, arg := 0 }
        else match reservedOf c (reservedBits c), s.contentBad c with
          | some i, _ => some { status := 0x0A, reason := 5, arg := i }
          | none, some i => some { status := 0x0A, arg := i }
          | none, none => if (c.op = 0x1001 ∨ c.op = 0x1002) ∧ c.req.win ≠ 3 then some { status := 0x0B } else none

/-! ## The node that acts (R31, R407, R465, R477, R483) -/

/-- The units a command over several nodes names. -/
def cmdUnits (c : Cmd) : List Nat :=
  let src := fun (w : Word) => if lgCls w.toNat = 0 then [] else [unitOf c w]
  match c.op with
  | 0x0302 => (triples 3 (c.req.args.drop 3)).map (fun x => unitOf c x.2.1)
  | 0x0306 => (c.req.args.drop 3).map (unitOf c)
  | 0x0307 => (c.req.args.drop 3).map (unitOf c)
  | 0x0401 => (triples 3 (c.req.args.drop 3)).flatMap (fun x => unitOf c x.2.1 :: src x.2.2.1)
  | 0x0402 => (pairsFrom 3 (c.req.args.drop 3)).flatMap (fun x => unitOf c x.2.1 :: src x.2.2)
  | _ => [unitOf c (argW c 3)]

/-- The nodes of the tree that such a command changes. -/
def State.changedNodes (s : State) (c : Cmd) : List Nat :=
  ((cmdNodes c s).filter (fun n => s.nodeState n == 0)).foldl (fun l n => insertNat n l) []

/-- A command that changes several nodes. -/
def State.isSeveral (s : State) (c : Cmd) : Bool :=
  severalOps.contains c.op && (cmdUnits c).all (fun u => s.nodeState (lgNode u) == 0) && decide (1 < (s.changedNodes c).length)

/-- The other node to which a request goes; none: this node. -/
def State.routeTo (s : State) (c : Cmd) : Option Nat :=
  let up := if s.cscRole = 2 then some 0 else none
  let only := fun (n : Nat) => if n = s.node ∨ s.nodeState n ≠ 0 then none else some n
  match cmdSpec c.op with
  | none => none
  | some x =>
    if x.kind = .local then none
    else if x.kind = .own then (if c.op = 0x0205 ∧ ¬ (c.req.win = 2 ∧ s.zk.maintPin) ∧ c.req.node = s.node then none else up)
    else if isScene c.op ∧ c.op ≠ 0x0506 then up
    else if c.op = 0x0704 then (if s.faultOpen (argNat c 0) (argNat c 1) then none else up)
    else if severalOps.contains c.op then
      (if s.isSeveral c then up
       else if (cmdUnits c).all (fun u => s.nodeState (lgNode u) == 0) then
         (match s.changedNodes c with | [n] => only n | _ => none)
       else none)
    else match x.unitArg with
      | some i => only (lgNode (unitOf c (argW c i)))
      | none => none

/-! ## Execution -/

/-- A read, or a command of its own window. -/
def runRead (c : Cmd) (s : State) : Ans × State :=
  match c.op with
  | 0x0101 => cmdIdent s
  | 0x0102 => cmdSysStatus s
  | 0x0105 => cmdFwCheck c s
  | 0x0207 => cmdOwn c s
  | 0x0301 => cmdObjGet c s
  | 0x0309 => cmdObjMembers c s
  | 0x030A => cmdObjList c s
  | 0x0403 => cmdRouteGet c s
  | 0x0404 => cmdRouteList c s
  | 0x0405 => cmdRouteCost s
  | 0x0505 => cmdSceneStatus s
  | 0x0506 => cmdSceneList s
  | 0x0603 => cmdMsgStatus c s
  | 0x0604 => cmdMsgList s
  | 0x0705 => cmdAlarmStatus s
  | 0x0707 => cmdPlanGet c s
  | 0x0709 => cmdZoneGet c s
  | 0x0803 => cmdSupStatus c s
  | 0x0902 => cmdRsvGet c s
  | 0x0904 => cmdRsvStatus s
  | 0x0A05 => cmdClkStatus s
  | 0x0B04 => cmdNetStatus c s
  | 0x0C04 => cmdTopo s
  | 0x0D01 => cmdCusStatus s
  | 0x0E01 => cmdRegRead c s
  | 0x0F01 => cmdLogRead c s
  | 0x1001 => cmdSubscribe c s
  | 0x1002 => cmdUnsubscribe c s
  | _ => cmdMask c s

/-- A write on several nodes: the manager's operation (R465). -/
def runSeveral (jseq : Nat) (c : Cmd) (s : State) : Ans × State :=
  let t := timingOf c.req.args
  match timingParam t s.leastTree with
  | some r => (.done r, s)
  | none =>
    if s.zk.tree.isSome then (.wait, s) else (.later, startTree (some ⟨c, jseq, 0, [], t.nowait⟩) c s.treeNodes s)

/-- Writes without a timing block that wait for a pending host change (R470): those of OBJ, SUP, RSV, CLK, NET and CAS. -/
def waitsForHost (op : Nat) : Bool :=
  [0x0304, 0x0305, 0x0801, 0x0901, 0x0903, 0x0A01, 0x0A02, 0x0A03, 0x0A04, 0x0B01, 0x0B02, 0x0B03, 0x0C01].contains op

/-- A write with its journal sequence. -/
def runWrite (jseq : Nat) (c : Cmd) (s : State) : Ans × State :=
  if waitsForHost c.op && s.hostPending then (.wait, s)
  else if s.isSeveral c then runSeveral jseq c s
  else if timedOps.contains c.op ∧ ¬ isScene c.op then runChange jseq c s
  else match c.op with
    | 0x0103 => cmdQuit 1 s
    | 0x0104 => cmdFwWrite c s
    | 0x0106 => cmdRollbackHold c s
    | 0x0304 => cmdObjDiscard s
    | 0x0305 => cmdRollCreate c s
    | 0x0503 => cmdSceneAbort c s
    | 0x0501 => cmdScene jseq c s
    | 0x0502 => cmdScene jseq c s
    | 0x0504 => cmdScene jseq c s
    | 0x0701 => cmdTrigger c s
    | 0x0702 => cmdScope c s
    | 0x0703 => cmdScope c s
    | 0x0704 => cmdAck c s
    | 0x0706 => cmdPlanSet c s
    | 0x0708 => cmdZoneSet c s
    | 0x0801 => cmdLearn c s
    | 0x0901 => cmdRsvSet c s
    | 0x0903 => cmdRsvTable c s
    | 0x0A01 => cmdPrioSet c s
    | 0x0A02 => cmdSlotSet c s
    | 0x0A03 => cmdMapSet c s
    | 0x0A04 => cmdLoopSet c s
    | 0x0B01 => cmdMacSet c s
    | 0x0B02 => cmdStreamSet c s
    | 0x0B03 => cmdStreamEn c s
    | 0x0C01 => cmdPortSet c s
    | 0x0D02 => cmdHoldSet c s
    | 0x0D03 => cmdStbySet c s
    | 0x0D04 => cmdGiveup c s
    | 0x0E02 => cmdRegWrite c s
    | 0x0F02 => cmdLogCheckpoint s
    | _ => cmdOwn c s

/-- Refuse a write: the entry of KIND 2 keeps the answer (R450, R458). -/
def refuseWrite (c : Cmd) (r : Reply) (s : State) : State :=
  let j := journalReq 2 r.status c s
  answerEntry j.1 c r j.2

/-- A CLAIM counts as its scan's first whatever its answer (R444). -/
def claimSeen (t s : State) : State := s.withZk { s.zk with claimScan := t.zk.claimScan }

/-- Run a write whose entry is `j.1`, in the state with that entry; none: it waits. -/
def finishWrite (j : Nat × State) (c : Cmd) (s : State) : Option State :=
  let r := runWrite j.1 c j.2
  match r.1 with
  | .wait => none
  | .later => if s.escTakes then some (escSync r.2) else some (refuseWrite c { status := 9 } s)
  | .done rep =>
    if rep.status ≠ 0 then some (refuseWrite c rep (claimSeen r.2 s))
    else if s.escTakes then some (escSync (answerEntry j.1 c rep r.2))
    else some (refuseWrite c { status := 9 } s)

/-- Execute a write at this node, journal entry first; none: it waits. -/
def doWrite (own : Bool) (c : Cmd) (s : State) : Option State := finishWrite (journalReq (if own then 3 else 1) 0 c s) c s

/-- Some change or operation still answers the entry. -/
def State.answers (s : State) (jseq : Nat) : Bool :=
  let has := fun (ps : List Pend) => ps.any (fun p => p.jseq == jseq)
  has (s.zk.change.elim [] (fun c => c.reqs)) || has (s.zk.aside.elim [] (fun c => c.reqs)) ||
    has (s.zk.tree.elim [] (fun op => op.pend.toList))

/-- A request at the node that acts: R458, then R471 from check 3 on. One whose entry has no answer, and that nothing here is
about to answer, was cut off by a give-up: it runs now, on its entry (R423; log entry 107). -/
def actOn (x : CmdSpec) (c : Cmd) (s : State) : Option State :=
  let far := match x.unitArg with
    | some i => if severalOps.contains c.op then 0 else s.nodeState (lgNode (unitOf c (argW c i)))
    | none => 0
  if x.kind = .read ∨ x.kind = .local then
    (if far ≠ 0 then some (answer c { status := far, arg := x.unitArg.getD 0x3FF } s)
     else
      let r := runRead c s
      match r.1 with
      | .done rep => some (answer c rep r.2)
      | _ => none)
  else match s.sameIdentity c with
    | some a =>
      if a.argCrc ≠ crc32 c.req.args then some (refuseWrite c { status := 0x0A, reason := 1 } s)
      else match a.answer with
        | some ws => some (deliver c.req none ws s)
        | none => if s.answers a.seq then some s else finishWrite (a.seq, s) c s
    | none =>
      if s.ownCheck x.kind c.req ≠ 0 then some (refuseWrite c { status := 1 } s)
      else if far ≠ 0 then some (refuseWrite c { status := far, arg := x.unitArg.getD 0x3FF } s)
      else doWrite (x.kind == .own) c s

/-- A request whose turn has come; none: it waits. -/
def takeTurn (c : Cmd) (s : State) : Option State :=
  match frameBad c s, cmdSpec c.op with
  | some r, some x => some (if x.kind = .read ∨ x.kind = .local then answer c r s else refuseWrite c r s)
  | some r, none => some (answer c r s)
  | none, none => some s
  | none, some x =>
    match s.routeTo c with
    | some n => some (cscSend (.request n c) s)
    | none => actOn x c s

/-! ## Taking requests (R435, R436, R455, R457, R459) -/

/-- ALARM requests execute in the scan that takes them. -/
def isAlarm (op : Nat) : Bool := op / 256 == 7

/-- A request of the owner names a plan that it triggers: what the plan will hold is held from here on (R500). -/
def holdSoon (c : Cmd) (s : State) : State :=
  if c.op = 0x0701 ∧ s.fromOwner c.req ∧ frameBad c s = none then
    s.withAlarm { s.zk.alarm with soon := insertNat (planKey c (argW c 0)) s.zk.alarm.soon }
  else s

/-- A request joins its window's new work, or that of the other nodes' windows. -/
def queueReq (c : Cmd) (s : State) : State :=
  let t := holdSoon c s
  if c.req.node = t.node then t.setWin c.req.win { t.win c.req.win with fresh := (t.win c.req.win).fresh ++ [c] }
  else t.withZk { t.zk with remoteFresh := t.zk.remoteFresh ++ [c] }

/-- The response queue, with the responses that are ready to enter it, has room for 1,024 words (R436). -/
def State.rspRoom (s : State) (w : Nat) : Bool :=
  let x := s.win w
  decide (x.rsp.length + (x.owed.map (fun o => (o.words.getD []).length)).sum ≤ 3072)

/-- A malformed frame is answered and goes no further. -/
def answerFormat (c : Cmd) (reason : Nat) (s : State) : State := answer c { status := 0x0A, reason := reason } (oweResponse c s)

/-- Requests of W0 and W1: LENGTH alone marks where the next frame begins. -/
def takeStream (w : Fin 4) : Nat → State → State
  | 0, s => s
  | n + 1, s =>
    let x := s.win w
    match x.stream with
    | [] => s
    | h :: _ =>
      let len := h.fld 0 16
      if !s.rspRoom w then s
      else if len < 2 ∨ 1024 < len then
        answerFormat ⟨h.fld 16 16, { win := w, node := s.node, seq := 0, args := [] }⟩ 3 (s.setWin w { x with stream := [] })
      else if x.stream.length < len then s
      else
        let f := x.stream.take len
        let c : Cmd := ⟨h.fld 16 16, { win := w, node := s.node, seq := f.getD 1 0, args := f.drop 2 }⟩
        takeStream w n (queueReq c (oweResponse c (s.setWin w { x with stream := x.stream.drop len })))

/-- Requests of W2 and W3: one frame each. -/
def takeFrames (w : Fin 4) : Nat → State → State
  | 0, s => s
  | n + 1, s =>
    let x := s.win w
    match x.frames with
    | [] => s
    | (ip, port, ws) :: rest =>
      if !s.rspRoom w then s
      else
        let h := ws.getD 0 0
        let c : Cmd := ⟨h.fld 16 16, { win := w, node := s.node, ip := ip, port := port, seq := ws.getD 1 0, args := ws.drop 2 }⟩
        let t := s.setWin w { x with frames := rest }
        takeFrames w n (if ws.length < 2 ∨ 1024 < ws.length ∨ h.fld 0 16 ≠ ws.length then answerFormat c 2 t
          else queueReq c (oweResponse c t))

def takeWindow (w : Fin 4) (s : State) : State :=
  if w.val < 2 then takeStream w ((s.win w).stream.length + 1) s else takeFrames w ((s.win w).frames.length + 1) s

/-- Requests in order; behind one that waits only ALARM requests go on (R459). -/
def runWork : Bool → List Cmd → State → List Cmd × State
  | _, [], s => ([], s)
  | held, c :: t, s =>
    if held && !isAlarm c.op then
      let r := runWork true t s
      (c :: r.1, r.2)
    else match takeTurn c s with
      | some u => runWork held t u
      | none =>
        let r := runWork true t s
        (c :: r.1, r.2)

/-- The order in which a window's requests run: ALARM requests of this scan ahead of work that earlier scans left (R459); without
such work as they were taken (R450). -/
def runOrder (old new : List Cmd) : List Cmd :=
  if old.isEmpty then new else new.filter (fun c => isAlarm c.op) ++ old ++ new.filter (fun c => !isAlarm c.op)

/-- The work of a window of this node. -/
def runOwn (w : Fin 4) (s : State) : State :=
  let x := s.win w
  let r := runWork false (runOrder x.work x.fresh) (s.setWin w { x with work := [], fresh := [] })
  r.2.setWin w { r.2.win w with work := r.1 ++ (r.2.win w).work }

/-- The work of one window of another node. -/
def runRemote (w : Fin 4) (n : Nat) (s : State) : State :=
  let hit := fun (c : Cmd) => c.req.win == w && c.req.node == n
  let out := fun (cs : List Cmd) => cs.filter (fun c => !hit c)
  let r := runWork false (runOrder (s.zk.remote.filter hit) (s.zk.remoteFresh.filter hit))
    (s.withZk { s.zk with remote := out s.zk.remote, remoteFresh := out s.zk.remoteFresh })
  r.2.withZk { r.2.zk with remote := r.1 ++ r.2.zk.remote }

/-- Every window's work, in window order and within a window in node order (R435, R445). -/
def runWindows (s : State) : State :=
  (List.finRange 4).foldl (fun (t : State) w =>
    let ns := insertNat t.node (((t.zk.remote ++ t.zk.remoteFresh).filter (fun c => c.req.win == w)).foldl (fun l c => insertNat c.req.node l) [])
    ns.foldl (fun u n => if n = u.node then runOwn w u else runRemote w n u) t) s

/-! ## Messages of other nodes -/

/-- The owner record a worker receives. -/
def ownerFrom (w src : Word) (port : Nat) : Owner :=
  { owned := w.bit 0, win := w.fld 1 3, node := w.fld 4 6, ip := src, port := port, maint := w.bit 10,
    offer := if w.bit 11 then some (w.fld 12 3, w.fld 15 6) else none }

/-- A message that has arrived for this node. -/
def takeMsg (m : CscMsg) (s : State) : State :=
  match m with
  | .event .. => s
  | .request _ c => queueReq c s
  | .response _ q op ws => s.setWin q.win (fillSlots q op ws (s.win q.win))
  | .owner w src port => if s.cscRole = 2 then s.withZk { s.zk with owner := ownerFrom w src port } else s
  | .trigger k d on moment c acc => triggerArrives k d on moment c acc s
  | .plan k d active silenced since acc tag c => planArrives k d active silenced since acc tag c s
  | .scope kind word reset => s.withAlarm { s.zk.alarm with asks := s.zk.alarm.asks ++ [(kind, word, reset)] }
  | .active k defn on => activeArrives k defn on s
  | .faults n fs => s.withAlarm { s.zk.alarm with others := Tbl.set s.zk.alarm.others n fs [] }
  | .ack _ code payload => ackHere code payload s
  | .reserve st lost steps => reserveArrives st lost steps s
  | .part _ tag c => s.withZk { s.zk with parts := s.zk.parts ++ [(tag, c)] }
  | .partDone n tag status reason arg => partDone n tag { status := status, reason := reason, arg := arg } s
  | .roll k v =>
    s.withZk { s.zk with rolls := match v with
      | some r => Tbl.put s.zk.rolls k { members := r.1, gain := r.2.1, mute := r.2.2 }
      | none => Tbl.del s.zk.rolls k }

/-- Every message that waits. -/
def takeInbox (s : State) : State :=
  s.csc.inbox.foldl (fun t m => takeMsg m t) (s.withCsc { s.csc with inbox := [] })

/-! ## The scan -/

/-- What is pending goes on. -/
def progress (s : State) : State :=
  startChange (parkCheck (compactStep (backFromAside (takeParts (treeStep (answerPrepare (checkStep (timerStep (takeInbox s)))))))))

/-- Responses whose words are known leave ahead of a give-up that a host asked for. -/
def flushWindow (w : Nat) : Nat → State → State
  | 0, s => s
  | n + 1, s =>
    if ((s.win w).owed.head?.any fun o => o.words.isSome) ∨ (2 ≤ w ∧ (s.win w).rsp ≠ []) then
      flushWindow w n (responseSend w s)
    else s

/-- RESTART and GIVEUP: the device gives up with CAUSE 9 once no answer is left that is ready. -/
def quitStep (s : State) : State :=
  match s.zk.quit with
  | none => s
  | some fw =>
    let t := (List.range 4).foldl (fun (u : State) w => flushWindow w ((u.win w).owed.length + (u.win w).rspTo.length) u) s
    if (List.range 4).any (fun w => (t.win w).owed.any (fun o => o.words.isSome)) then t
    else giveUp 9 fw (t.withZk { t.zk with quit := none })

/-- The end of a scan; a device that has given up to a partner at 01 lets go (R419). -/
def scanEnd (s : State) : State :=
  let t := progress (runWindows s)
  let t := responsesEnter 3 (responsesEnter 2 t)
  letGo (quitStep (t.withZk { t.zk with scans := t.zk.scans + 1, alarm := { t.zk.alarm with soon := [] } }))

/-- The Teller reads a word of its memory that holds an error: a single-bit one is corrected and written back, another makes the
device give up with CAUSE 2 (R516, R517). -/
def tellerRead (a : Nat) (s : State) : State :=
  let t := s.eccSeen a
  if s.eccBad a then giveUp 2 0 t
  else t.withMemc { t.memc with ecc := Tbl.del t.memc.ecc (a / 8), writeback := t.memc.writeback.filter (· != a / 8) }

/-- In a scan the Teller reads every word of its memory. -/
def tellerReads (s : State) : State :=
  (s.memc.ecc.filter (fun e => decide (tellerAt ≤ 8 * e.1))).foldl (fun t e => tellerRead (8 * e.1) t) s

/-- SCAN_INTERVAL (R435): Zekor takes what other nodes sent and new requests in window order, executes them, and goes on with
what is pending. -/
def scan (s : State) : State :=
  let t := tellerReads s
  if t.cus.own = 2 then scanEnd ((List.finRange 4).foldl (fun u w => takeWindow w u) (takeInbox t)) else letGo t

def execScanInterval (s : State) : Res := .next (onlyIf (s.cus.own == 2) s (scan s))

/-- A request by itself: a scan that takes this request and no other. One of this node is taken where the response queue has
room; one of another node's window comes over the cascade. -/
def rowTake (c : Cmd) (s : State) : State :=
  let t :=
    if 1022 < c.req.args.length then
      (if c.req.win.val < 2 then
        answerFormat { c with req := { c.req with seq := 0 } } 3 (s.setWin c.req.win { s.win c.req.win with stream := [] })
       else answerFormat c 2 s)
    else queueReq c (oweResponse c s)
  onlyIf (s.cus.own == 2 && (c.req.node != s.node || s.rspRoom c.req.win)) s (scanEnd t)

end Sys2Proof.Machine
end

