-- ==== Sys2Proof/Machine/Boundary.lean ====
section
/-!
DEFINITION. The block boundary (R11, R14 to R16) and the resolution of a commit (R126): what every unit does there, in order.
-/

namespace Sys2Proof.Machine

open Sys2Proof

/-! ## Ports at a boundary (R244, R252, R253) -/

/-- The 32-byte entry of a timestamp record. -/
def tsWords (p : Nat) (x : Port) (tb : Nat) : List Word :=
  let half := fun (v : Int) => (Word.ofInt v).fld 0 16
  [Word.ofNat p, Word.ofNat x.tsBlock, packW [(0, half x.tsRx), (16, half x.tsTx)], Word.ofNat (secOf tb),
    Word.ofNat (secOf tb / 2 ^ 32 % 65536), Word.ofNat (nsecOf tb), Word.ofNat (fracOf tb), 0]

/-- The blocks that ports have received become feeds; answers which ports recorded a timestamp. -/
def portsCollect (s : State) : List Nat × State :=
  (List.range 16).foldl (fun (acc : List Nat × State) p =>
    let base := s.domBase (s.ptDom p)
    let r := portStamp p base (s.sctr / 24) (portCollect p base acc.2)
    (if r.2 then acc.1 ++ [p] else acc.1, portDrop p base r.1)) ([], s)

/-- APT_TSQ: each record goes to its queue; one of 16-byte entries receives nothing, and ERR stands until a
reset (log entry 106). -/
def stampsPush (ps : List Nat) (s : State) : State :=
  let q := s.fldN 0x10060804 0 7
  if !s.bitN 0x10060804 31 || ps.isEmpty then s
  else if s.queEsize q = 16 then { s with ports := { s.ports with tsqErr := true } }
  else ps.foldl (fun t p => queuePush q (tsWords p (t.port p) t.tbs.epochTb) t) s

/-! ## The engine's stages advance (R11, R12, R58) -/

/-- Converter feeds whose chain gives none. -/
def State.chainsBad (s : State) : List Nat := ((List.range 48).filter (fun c => !s.feedOk c)).map chainFeed

/-- The block received goes to the processing stage. -/
def stagesAdvance (s : State) : State :=
  let e := s.engine
  let a := e.abx
  { s with
    engine := { e with
      feeds := e.rx, rx := [], okFeeds := e.okRx, okRx := [], badFeeds := s.chainsBad, slots := [], outs := []
      ins := e.ins.map (fun x => (x.1, { x.2 with phase := .waiting })),
      ous := e.ous.map (fun x => (x.1, { x.2 with phase := .waiting })),
      bridges := e.bridges.map (fun x => (x.1, { x.2 with done := false })),
      metered := false, pos := 0
      abx := { a with doneP := [], waiting := [], sums := [], added := [], badRods := [], tiers := [], domNow := none, released := false } }
    mod := { s.mod with ch := s.mod.ch.map (fun x => (x.1, { x.2 with per := none })) } }

/-- The block processed goes to the transmit stage once the collector has released it (R14); a device in a give-up hold sends
zeros (R420). -/
def stagesSend (s : State) : State :=
  let e := s.engine
  { s with
    sctr := s.sctr + 24
    engine := { e with tx := if s.cus.own = 3 ∨ e.abx.released = false then [] else e.outs,
                       txPrev := if s.cus.own = 3 then [] else e.tx } }

/-- TIME_MARK (R423): a seated device sends it while the AUDIO clock runs; else the line is low. -/
def timeMark (s : State) : State :=
  s.withCus { s.cus with tmSent := if s.cus.own = 2 ∨ (s.cus.own = 3 ∧ s.cus.cause ≠ 6) then some s.sctr else none }

/-- The watchdog of R16: the collector has not released the block in the processing stage. -/
def watchdog (s : State) : State := if s.engine.abx.released then s else giveUp 5 0 s

/-- Players and generators of entries whose task gives the fixed output in this block: zeros (R172). -/
def fixedUnits (s : State) : State :=
  (validEntries s.eng).foldl (fun t e =>
    if !(t.core e.1).fixedOut.contains (e.2.2.fld 13 4) then t
    else match (e.2.2.fld 0 2, e.2.2.fld 2 11) with
      | (3, p) => playerProcess p t
      | (2, g) => unitProcess 2 g (6656 + g) (1024 + g) 0 t
      | _ => t) s

/-- A release that finds cores not done (R176): their lists are abandoned and their instances' fixed outputs delivered. -/
def abandonLate (s : State) : State :=
  if (List.range 64).all (fun k => !lateCore (s.core k)) then s
  else
    let s := abandonAll s
    let s := s.engine.ins.foldl (fun t x => if x.2.phase == .delivered then inProcess x.1 t else t) s
    fixedUnits (s.engine.ous.foldl (fun t x => if x.2.phase == .delivered then outProcess x.1 t else t) s)

/-- BLOCK_BOUNDARY: `s.sctr` is the block that ends. -/
def blockBoundary (s : State) : State :=
  let base := s.sctr
  let s := cscBoundaryFeeds (fadesEnd (abandonLate (watchdog s)))
  let c := portsCollect s
  let s := stagesAdvance (streamsBlock base (stagesSend c.2))
  let s := match s.engine.cmt.swapped with
    | some b => swapReaches b s
    | none => s
  let s := deliverZeros (releaseAll (autoAll s))
  let s := mastersMark (stampsPush c.1 (epochRecord (loopUpdate s)))
  letGo (resumeShow (timeMark (sealDue (heartbeat (alarmTask (cscBoundaryAct s))))))

/-- BLOCK_BOUNDARY (R11), `dt` time-base ticks after the last. Before engine start only the clock loop updates (R327, R340), and
a device that has seated starts its engine; a device in reset or in Vault has no boundaries. -/
def execBlockBoundary (dt : Nat) (s : State) : Res :=
  .next (if s.started then blockBoundary (tbRun dt s)
    else onlyIf (s.pwr.phase == .awake) s (idleBoundary (tbRun dt s)))

/-! ## COMMIT_RESOLVE (R126) -/

/-- What an accepted swap does outside the commit unit: the host's values of LIVE, and transit's hold on channels (R408). -/
def swapLands (s : State) : State :=
  transitCheck (s.withZk { s.zk with hostLive := s.zk.hostVal, rollLive := s.zk.rolls, eqLive := s.zk.eqBands })

/-- A resolution reaches the tree, the change that was armed, the alarm service and the journal. -/
def commitResolve (s : State) : State :=
  match cmtResolve s with
  | (t, none) => t
  | (t, some (a, status, reason)) =>
    let t := if status = 0 then swapLands t else t
    let t := if a.cond then treeResolved status reason t else t
    let t := changeResolved a status reason t
    escSync (if t.cus.own = 2 then backFromAside (alarmAct t) else t)

def execCommitResolve (s : State) : Res := .next (commitResolve s)

end Sys2Proof.Machine
end

