-- ==== Sys2Proof/Machine/CmdRows.lean ====
section
/-!
DEFINITION. The commands of the catalogue (R476): each is a request that Zekor takes, by GROUP and OPCODE.
-/

namespace Sys2Proof.Machine

open Sys2Proof

/-! ## SYS, group 0x01 -/

/-- SYS IDENT. -/
def execSysIdent (q : Req) (s : State) : Res := .next (rowTake ⟨0x0101, q⟩ s)

/-- SYS STATUS. -/
def execSysStatus (q : Req) (s : State) : Res := .next (rowTake ⟨0x0102, q⟩ s)

/-- SYS RESTART. -/
def execSysRestart (q : Req) (s : State) : Res := .next (rowTake ⟨0x0103, q⟩ s)

/-- SYS FW_WRITE. -/
def execSysFwWrite (q : Req) (s : State) : Res := .next (rowTake ⟨0x0104, q⟩ s)

/-- SYS FW_CHECK. -/
def execSysFwCheck (q : Req) (s : State) : Res := .next (rowTake ⟨0x0105, q⟩ s)

/-- SYS ROLLBACK_HOLD. -/
def execSysRollbackHold (q : Req) (s : State) : Res := .next (rowTake ⟨0x0106, q⟩ s)

/-! ## OWN, group 0x02 (R477) -/

/-- OWN CLAIM. -/
def execOwnClaim (q : Req) (s : State) : Res := .next (rowTake ⟨0x0201, q⟩ s)

/-- OWN CEDE. -/
def execOwnCede (q : Req) (s : State) : Res := .next (rowTake ⟨0x0202, q⟩ s)

/-- OWN ACCEPT. -/
def execOwnAccept (q : Req) (s : State) : Res := .next (rowTake ⟨0x0203, q⟩ s)

/-- OWN RELEASE. -/
def execOwnRelease (q : Req) (s : State) : Res := .next (rowTake ⟨0x0204, q⟩ s)

/-- OWN FORCE. -/
def execOwnForce (q : Req) (s : State) : Res := .next (rowTake ⟨0x0205, q⟩ s)

/-- OWN MAINT. -/
def execOwnMaint (q : Req) (s : State) : Res := .next (rowTake ⟨0x0206, q⟩ s)

/-- OWN QUERY. -/
def execOwnQuery (q : Req) (s : State) : Res := .next (rowTake ⟨0x0207, q⟩ s)

/-! ## OBJ, group 0x03 (R460 to R468) -/

/-- OBJ GET. -/
def execObjGet (q : Req) (s : State) : Res := .next (rowTake ⟨0x0301, q⟩ s)

/-- OBJ SET. -/
def execObjSet (q : Req) (s : State) : Res := .next (rowTake ⟨0x0302, q⟩ s)

/-- OBJ APPLY. -/
def execObjApply (q : Req) (s : State) : Res := .next (rowTake ⟨0x0303, q⟩ s)

/-- OBJ DISCARD. -/
def execObjDiscard (q : Req) (s : State) : Res := .next (rowTake ⟨0x0304, q⟩ s)

/-- OBJ ROLL_CREATE. -/
def execObjRollCreate (q : Req) (s : State) : Res := .next (rowTake ⟨0x0305, q⟩ s)

/-- OBJ ROLL_ADD. -/
def execObjRollAdd (q : Req) (s : State) : Res := .next (rowTake ⟨0x0306, q⟩ s)

/-- OBJ ROLL_REMOVE. -/
def execObjRollRemove (q : Req) (s : State) : Res := .next (rowTake ⟨0x0307, q⟩ s)

/-- OBJ ROLL_DELETE. -/
def execObjRollDelete (q : Req) (s : State) : Res := .next (rowTake ⟨0x0308, q⟩ s)

/-- OBJ MEMBERS. -/
def execObjMembers (q : Req) (s : State) : Res := .next (rowTake ⟨0x0309, q⟩ s)

/-- OBJ LIST. -/
def execObjList (q : Req) (s : State) : Res := .next (rowTake ⟨0x030A, q⟩ s)

/-! ## ROUTE, group 0x04 (R478 to R480) -/

/-- ROUTE SET. -/
def execRouteSet (q : Req) (s : State) : Res := .next (rowTake ⟨0x0401, q⟩ s)

/-- ROUTE CLEAR. -/
def execRouteClear (q : Req) (s : State) : Res := .next (rowTake ⟨0x0402, q⟩ s)

/-- ROUTE GET. -/
def execRouteGet (q : Req) (s : State) : Res := .next (rowTake ⟨0x0403, q⟩ s)

/-- ROUTE LIST. -/
def execRouteList (q : Req) (s : State) : Res := .next (rowTake ⟨0x0404, q⟩ s)

/-- ROUTE COST. -/
def execRouteCost (q : Req) (s : State) : Res := .next (rowTake ⟨0x0405, q⟩ s)

/-! ## SCENE, group 0x05 (R481 to R485) -/

/-- SCENE PREPARE. -/
def execScenePrepare (q : Req) (s : State) : Res := .next (rowTake ⟨0x0501, q⟩ s)

/-- SCENE COMMIT. -/
def execSceneCommit (q : Req) (s : State) : Res := .next (rowTake ⟨0x0502, q⟩ s)

/-- SCENE ABORT. -/
def execSceneAbort (q : Req) (s : State) : Res := .next (rowTake ⟨0x0503, q⟩ s)

/-- SCENE RECALL. -/
def execSceneRecall (q : Req) (s : State) : Res := .next (rowTake ⟨0x0504, q⟩ s)

/-- SCENE STATUS. -/
def execSceneStatus (q : Req) (s : State) : Res := .next (rowTake ⟨0x0505, q⟩ s)

/-- SCENE LIST. -/
def execSceneList (q : Req) (s : State) : Res := .next (rowTake ⟨0x0506, q⟩ s)

/-! ## MSG, group 0x06 (R486, R487) -/

/-- MSG PLAY. -/
def execMsgPlay (q : Req) (s : State) : Res := .next (rowTake ⟨0x0601, q⟩ s)

/-- MSG STOP. -/
def execMsgStop (q : Req) (s : State) : Res := .next (rowTake ⟨0x0602, q⟩ s)

/-- MSG STATUS. -/
def execMsgStatus (q : Req) (s : State) : Res := .next (rowTake ⟨0x0603, q⟩ s)

/-- MSG LIST. -/
def execMsgList (q : Req) (s : State) : Res := .next (rowTake ⟨0x0604, q⟩ s)

/-! ## ALARM, group 0x07 (R488) -/

/-- ALARM TRIGGER. -/
def execAlarmTrigger (q : Req) (s : State) : Res := .next (rowTake ⟨0x0701, q⟩ s)

/-- ALARM SILENCE. -/
def execAlarmSilence (q : Req) (s : State) : Res := .next (rowTake ⟨0x0702, q⟩ s)

/-- ALARM RESET. -/
def execAlarmReset (q : Req) (s : State) : Res := .next (rowTake ⟨0x0703, q⟩ s)

/-- ALARM ACK. -/
def execAlarmAck (q : Req) (s : State) : Res := .next (rowTake ⟨0x0704, q⟩ s)

/-- ALARM STATUS. -/
def execAlarmStatus (q : Req) (s : State) : Res := .next (rowTake ⟨0x0705, q⟩ s)

/-- ALARM PLAN_SET. -/
def execAlarmPlanSet (q : Req) (s : State) : Res := .next (rowTake ⟨0x0706, q⟩ s)

/-- ALARM PLAN_GET. -/
def execAlarmPlanGet (q : Req) (s : State) : Res := .next (rowTake ⟨0x0707, q⟩ s)

/-- ALARM ZONE_SET. -/
def execAlarmZoneSet (q : Req) (s : State) : Res := .next (rowTake ⟨0x0708, q⟩ s)

/-- ALARM ZONE_GET. -/
def execAlarmZoneGet (q : Req) (s : State) : Res := .next (rowTake ⟨0x0709, q⟩ s)

/-! ## SUP, group 0x08 (R296, R476) -/

/-- SUP LEARN. -/
def execSupLearn (q : Req) (s : State) : Res := .next (rowTake ⟨0x0801, q⟩ s)

/-- SUP SET. -/
def execSupSet (q : Req) (s : State) : Res := .next (rowTake ⟨0x0802, q⟩ s)

/-- SUP STATUS. -/
def execSupStatus (q : Req) (s : State) : Res := .next (rowTake ⟨0x0803, q⟩ s)

/-! ## RSV, group 0x09 (R323) -/

/-- RSV SET. -/
def execRsvSet (q : Req) (s : State) : Res := .next (rowTake ⟨0x0901, q⟩ s)

/-- RSV GET. -/
def execRsvGet (q : Req) (s : State) : Res := .next (rowTake ⟨0x0902, q⟩ s)

/-- RSV TABLE. -/
def execRsvTable (q : Req) (s : State) : Res := .next (rowTake ⟨0x0903, q⟩ s)

/-- RSV STATUS. -/
def execRsvStatus (q : Req) (s : State) : Res := .next (rowTake ⟨0x0904, q⟩ s)

/-! ## CLK, group 0x0A -/

/-- CLK PRIO_SET. -/
def execClkPrioSet (q : Req) (s : State) : Res := .next (rowTake ⟨0x0A01, q⟩ s)

/-- CLK SLOT_SET. -/
def execClkSlotSet (q : Req) (s : State) : Res := .next (rowTake ⟨0x0A02, q⟩ s)

/-- CLK MAP_SET. -/
def execClkMapSet (q : Req) (s : State) : Res := .next (rowTake ⟨0x0A03, q⟩ s)

/-- CLK LOOP_SET. -/
def execClkLoopSet (q : Req) (s : State) : Res := .next (rowTake ⟨0x0A04, q⟩ s)

/-- CLK STATUS. -/
def execClkStatus (q : Req) (s : State) : Res := .next (rowTake ⟨0x0A05, q⟩ s)

/-! ## NET, group 0x0B -/

/-- NET MAC_SET. -/
def execNetMacSet (q : Req) (s : State) : Res := .next (rowTake ⟨0x0B01, q⟩ s)

/-- NET STREAM_SET. -/
def execNetStreamSet (q : Req) (s : State) : Res := .next (rowTake ⟨0x0B02, q⟩ s)

/-- NET STREAM_EN. -/
def execNetStreamEn (q : Req) (s : State) : Res := .next (rowTake ⟨0x0B03, q⟩ s)

/-- NET STATUS. -/
def execNetStatus (q : Req) (s : State) : Res := .next (rowTake ⟨0x0B04, q⟩ s)

/-! ## CAS, group 0x0C (R408, R409) -/

/-- CAS PORT_SET. -/
def execCasPortSet (q : Req) (s : State) : Res := .next (rowTake ⟨0x0C01, q⟩ s)

/-- CAS TRANSIT_SET. -/
def execCasTransitSet (q : Req) (s : State) : Res := .next (rowTake ⟨0x0C02, q⟩ s)

/-- CAS RETURN_SET. -/
def execCasReturnSet (q : Req) (s : State) : Res := .next (rowTake ⟨0x0C03, q⟩ s)

/-- CAS TOPO. -/
def execCasTopo (q : Req) (s : State) : Res := .next (rowTake ⟨0x0C04, q⟩ s)

/-! ## CUS, group 0x0D -/

/-- CUS STATUS. -/
def execCusStatus (q : Req) (s : State) : Res := .next (rowTake ⟨0x0D01, q⟩ s)

/-- CUS HOLD_SET. -/
def execCusHoldSet (q : Req) (s : State) : Res := .next (rowTake ⟨0x0D02, q⟩ s)

/-- CUS STBY_SET. -/
def execCusStbySet (q : Req) (s : State) : Res := .next (rowTake ⟨0x0D03, q⟩ s)

/-- CUS GIVEUP. -/
def execCusGiveup (q : Req) (s : State) : Res := .next (rowTake ⟨0x0D04, q⟩ s)

/-! ## REG, group 0x0E (R489 to R491) -/

/-- REG READ. -/
def execRegRead (q : Req) (s : State) : Res := .next (rowTake ⟨0x0E01, q⟩ s)

/-- REG WRITE. -/
def execRegWrite (q : Req) (s : State) : Res := .next (rowTake ⟨0x0E02, q⟩ s)

/-! ## LOG, group 0x0F (R452) -/

/-- LOG READ. -/
def execLogRead (q : Req) (s : State) : Res := .next (rowTake ⟨0x0F01, q⟩ s)

/-- LOG CHECKPOINT. -/
def execLogCheckpoint (q : Req) (s : State) : Res := .next (rowTake ⟨0x0F02, q⟩ s)

/-! ## EVT, group 0x10 -/

/-- EVT SUBSCRIBE. -/
def execEvtSubscribe (q : Req) (s : State) : Res := .next (rowTake ⟨0x1001, q⟩ s)

/-- EVT UNSUBSCRIBE. -/
def execEvtUnsubscribe (q : Req) (s : State) : Res := .next (rowTake ⟨0x1002, q⟩ s)

/-- EVT MASK. -/
def execEvtMask (q : Req) (s : State) : Res := .next (rowTake ⟨0x1003, q⟩ s)

end Sys2Proof.Machine
end

