-- ==== Sys2Proof/Machine/Resume.lean ====
section
/-!
DEFINITION. Resume (R424 to R426): the rebuild from escrow, journaled commits, SCTR and the engine start of a device that takes
over.
-/

namespace Sys2Proof.Machine

open Sys2Proof

/-! ## The rebuild (R424) -/

/-- What is journaled stands, and no event of the gap is raised again. -/
def quietly (f : State → State) (s : State) : State :=
  { f s with evq := s.evq, evtLost := s.evtLost, msgOut := s.msgOut }

/-- Zekor as the journal rebuilds it: no window holds words and sounding plans begin again (R511). A change whose image was being
built or checked is built afresh, and its requests, like those of an operation over several nodes, are answered as it ends (R423). -/
def resumeZk (z : Zekor) : Zekor :=
  { z with
    windows := [], remote := [], remoteFresh := [],
    players := z.players.map (fun p => (p.1, if p.2.plan.isSome then {} else p.2)),
    alarm := { z.alarm with
      dirty := true, relay := false,
      plan := z.alarm.plan.map (fun p => (p.1, { p.2 with player := none, sounding := false, run := 0 })),
      zone := z.alarm.zone.map (fun q => (q.1, { q.2 with winner := none })) } }

/-- The gain stages of the strips; what they process starts afresh. -/
def resumeIn (x : InStrip) : InStrip := { c := x.c, trim := x.trim, fader := x.fader, mute := x.mute }
def resumeOut (x : OutStrip) : OutStrip := { gain := x.gain, mute := x.mute }

/-- The rebuild of pages, parameter sets, registers and Zekor's tables. -/
def resumeRebuild (z : Snapshot) (s : State) : State :=
  { s with
    live := z.live, next := z.next, marks := z.marks,
    regs := s.regs ++ z.regs.filter (fun e => vaultRegs [e] = []) |>.foldl (fun t e => Tbl.put t e.1 e.2) [],
    mem := (z.pages.filter (fun e => isPageAddr e.1)).foldl (fun m e => Tbl.set m e.1 e.2 0) s.mem,
    tbs := { s.tbs with trg := z.trg },
    csc := { s.csc with tree := if z.tree.phase = 1 then { z.tree with ans := 0 } else z.tree },
    zk := resumeZk z.zk,
    engine := { s.engine with
      ramps := z.ramps, rampsEng := z.ramps, cmt := z.cmt,
      ins := z.ins.map (fun e => (e.1, resumeIn e.2)), ous := z.ous.map (fun e => (e.1, resumeOut e.2)),
      abx := { s.engine.abx with
        mainLive := z.mainLive, amdLive := z.amdLive, chkKind := z.chkKind,
        accepted := z.accepted, done := z.accepted,
        mainOther := if z.accepted && z.chkKind == 0 then .frozen else .building,
        amdOther := if z.accepted then .frozen else .building } } }

/-- A change whose image was not complete waits to be built again. -/
def changeAfresh (s : State) : State :=
  match s.zk.change with
  | some c =>
    if c.phase = 1 then
      (undoChange c.undo s).setChange (some { c with phase := 0, undo := none, page := false, armedC := 0 })
    else s
  | none => s

/-- What the LIVE page needs, as its check gave it (R108). -/
def liveSums (s : State) : State :=
  let q := s.imageSums s.engine.abx.amdLive
  s.setAbx { s.engine.abx with liveUnits := min 0xFFFFFF q.1, liveCycles := min 0xFFFFFF q.2.1, livePieces := q.2.2.1 }

/-! ## Journaled commits (R426) -/

/-- The PHASE of a pending tree commit as the newest frame from upstream repeats it. -/
def treePhase (g : TakeSignals) (t : TreeCommit) : Nat :=
  match upFrame g with
  | some f => if t.phase = 1 ∧ t.tag = some (f.w5 / 256 % 256) ∧ f.w5 % 4 ≠ 0 then f.w5 % 4 else t.phase
  | none => t.phase

/-- The commit that is armed lands at its own boundary, in the engine and in Zekor's tables. -/
def foldCommit (a : Armed) (s : State) : State :=
  let t := swapLands (cmtAccept a s)
  changeResolved a 0 0 (if a.cond then treeResolved 0 0 t else t)

/-- A journaled commit at resume boundary `br`: folded where its boundary lies below br + 48, armed again later; a conditional one
follows the PHASE word. -/
def resumeCommit (br : Nat) (g : TakeSignals) (s : State) : State :=
  match s.engine.cmt.armed with
  | none => s
  | some a =>
    let soon := decide (boundaryOf a.c < br + 48)
    let phase := treePhase g s.csc.tree
    let s := if a.cond then s.withCsc { s.csc with tree := { s.csc.tree with phase := phase } } else s
    let drop := fun (t : State) => t.setCmt { t.engine.cmt with armed := none, confirm := false, state := 0 }
    if !a.cond || phase == 2 then
      (if soon then quietly (foldCommit a) s else if a.cond then cmtConfirm s else s)
    else if phase = 3 then changeResolved a 8 0x24 (drop s)
    else if soon then changeResolved a 7 0x23 ((treeResolved 7 0x23 (drop s)).raise 0x0C22 s.node)
    else s

/-- A journaled change of a given C in the gap that had not been armed: it is built, checked and armed for its own C (R426). -/
def resumePending (br : Nat) (s : State) : State :=
  match s.zk.change with
  | none => s
  | some c =>
    match c.phase, c.c, c.tag with
    | 0, some x, none =>
      if boundaryOf x < br + 48 ∧ s.unitFree none then
        let pg := c.needsPage
        let t := quietly (fun t => let u := buildChange c x t; if pg then checkDone u else u) s
        if pg ∧ !t.engine.abx.accepted then
          failChange { c with undo := some (undoOf s t), page := pg, phase := 1 }
            { status := t.engine.abx.status, reason := t.engine.abx.reason } t
        else
          (t.setCmt { t.engine.cmt with armed := some ⟨x, pg, false⟩, confirm := false, cancelled := false, state := 1 }).setChange
            (some { c with undo := some (undoOf s t), page := pg, phase := 2, armedC := x })
      else s
    | _, _, _ => s

/-- The comparator with ACT_CMT whose target passed in the gap is handled as the commit it would have armed. -/
def resumeTrigger (s : State) : State :=
  let s := (List.range 16).foldl (fun t n =>
    if (t.trg n).armed then t.setTrg n { t.trg n with restored := true } else t) s
  match (List.range 16).find? (fun n => s.trgPassed n && s.bitN (trgReg n 0) 4) with
  | none => s
  | some n =>
    let s := s.setTrg n { s.trg n with folded := true }
    if s.engine.cmt.armed.isSome then s.setCmt { s.engine.cmt with armIgn := true }
    else s.setCmt { s.engine.cmt with
      armed := some ⟨s.cmtTarget, s.bitN 0x1002C008 0, s.bitN 0x1002C008 1⟩, confirm := false, cancelled := false, state := 1 }

/-! ## Bridges (R283, R425) -/

/-- A channel as the seal gives it: with source 1 a running one goes on, RUN, LVL_UP and LVL_DN through LVL_UP from w = 128 and a
ramp from its w; else it starts from w = 0, where EN = 1 brings CM_UP. The seal holds no RETRIES: a channel in TRIP starts with
none, one in LATCHED with three. -/
def State.sealedCh (s : State) (src n w : Nat) (st : BrState) (c : BrCh) : BrCh :=
  let k := s.cmN n
  let i := (w * k + 127) / 128
  match st with
  | .parked => c
  | .trip => { c with st := .trip }
  | .latched => { c with st := .latched, retries := 3 }
  | .retry => if src = 1 then { c.toRetry k with i := i, w := w } else c.toRetry k
  | .cmUp => if src = 1 then { c with st := .cmUp, i := i, n := k, w := w } else c
  | .cmDn => if src = 1 then { c with st := .cmDn, i := i, n := k, w := w } else c
  | _ => if src = 1 then ({ c with st := .lvlUp, i := k, n := k, w := 128, lam := 0 } : BrCh).lvlRamp 65536 (s.lvlM n) else c

/-- Every channel starts with the range and STAGGER of its restored registers, and in the state of the seal. Supervision counts
its enabled time from here (R304). -/
def resumeBridges (src : Nat) (z : Option Seal) (s : State) : State :=
  let s := (List.range 64).foldl (fun t n =>
    let t := t.setBr n { t.br n with fsq := t.fldN (brReg n 4) 0 12 * 2 ^ 16, stagger := some (t.fldN (brReg n 0) 2 4) }
    if t.bitN (brReg n 0) 0 then t.setMonC n { t.monC n with validAt := t.sctr, unmeasured := false } else t) s
  match z with
  | none => s
  | some z => z.bridges.foldl (fun t e => t.setBr e.1 (t.sealedCh src e.1 e.2.2 e.2.1 (t.br e.1))) s

/-! ## RESUME -/

/-- Escrow memory as the partner left it, with the words of its heartbeats. -/
def escRead (e : Escrow) (s : State) : State :=
  (e.heart.foldl (fun t h => t.putWords (0xD0001400 + 32 * h.1) (beatWords h.2)) s).withEsc e

/-- RESUME (R424): escrow is read and the state rebuilt, SCTR comes from the first source of R425, and the engine starts; 01 follows
at the next boundary. A device alone reads its own record (R427). -/
def resume (g : TakeSignals) (esc : Option Escrow) (s : State) : State :=
  let s := match esc with
    | some e => if s.cus.paired && !s.cus.selfRestarted then escRead e s else s
    | none => s
  let tb := s.bitN (tbReg 0 0) 0
  let image := s.esc.image
  let s := match image with
    | some z => changeAfresh (resumeRebuild z s)
    | none => s
  let s := (List.range 3).foldl (fun t p => cpUpdate p t) s
  let src := s.sctrSource tb g
  let br := s.startSctr true src g
  let s := if image.isSome then chainsRestart (liveSums (resumeCommit br g (resumePending br (resumeTrigger s)))) else s
  let s := resumeBridges src s.sealRead (engineStart br s)
  (s.withPwr { s.pwr with step := 7, taking := false }).withCus
    { s.cus with sctrSrc := src, tmSeen := (g.marks.getLast?.bind readMark).isSome, ready := true, sawLeave := false }

/-- `sig` is what the device has received, `esc` what its partner has left in escrow. -/
def execResume (sig : TakeSignals) (esc : Option Escrow) (s : State) : Res :=
  .next (onlyIf (s.pwr.phase == .awake && s.pwr.resume && s.pwr.step == 5 && !s.started) s (resume sig esc s))

end Sys2Proof.Machine
end

