-- ==== Sys2Proof/Machine/TallyAlu.lean ====
section
/-!
DEFINITION. The ALU, move and bit-count instructions of the Tally cores (R186, R188, R201 to R203).
-/

namespace Sys2Proof.Machine

open Sys2Proof

/-- NOP (R186). -/
def execNop (core : Fin 64) (s : State) : Res := .next (runCore core (fun b => { bank := b }) s)

/-- ADD (R188). -/
def execAdd (core : Fin 64) (rd rs rt : BitVec 5) (s : State) : Res :=
  .next (runCore core (fun b => aluCV b rd (addFull (b.reg rs) (b.reg rt))) s)

/-- SUB (R188). -/
def execSub (core : Fin 64) (rd rs rt : BitVec 5) (s : State) : Res :=
  .next (runCore core (fun b => aluCV b rd (subFull (b.reg rs) (b.reg rt))) s)

/-- AND (R188). -/
def execAnd (core : Fin 64) (rd rs rt : BitVec 5) (s : State) : Res :=
  .next (runCore core (fun b => aluZN b rd (b.reg rs &&& b.reg rt)) s)

/-- OR (R188). -/
def execOr (core : Fin 64) (rd rs rt : BitVec 5) (s : State) : Res :=
  .next (runCore core (fun b => aluZN b rd (b.reg rs ||| b.reg rt)) s)

/-- XOR (R188). -/
def execXor (core : Fin 64) (rd rs rt : BitVec 5) (s : State) : Res :=
  .next (runCore core (fun b => aluZN b rd (b.reg rs ^^^ b.reg rt)) s)

/-- SHL by Dt[5:0] (R188). -/
def execShl (core : Fin 64) (rd rs rt : BitVec 5) (s : State) : Res :=
  .next (runCore core (fun b => aluZN b rd (shlBy (b.reg rs) ((b.reg rt).fld 0 6))) s)

/-- SHR by Dt[5:0] (R188). -/
def execShr (core : Fin 64) (rd rs rt : BitVec 5) (s : State) : Res :=
  .next (runCore core (fun b => aluZN b rd (shrBy (b.reg rs) ((b.reg rt).fld 0 6))) s)

/-- ASR by Dt[5:0] (R188). -/
def execAsr (core : Fin 64) (rd rs rt : BitVec 5) (s : State) : Res :=
  .next (runCore core (fun b => aluZN b rd (asrBy (b.reg rs) ((b.reg rt).fld 0 6))) s)

/-- MIN, signed (R188). -/
def execMin (core : Fin 64) (rd rs rt : BitVec 5) (s : State) : Res :=
  .next (runCore core (fun b => aluZN b rd (if (b.reg rs).toInt ≤ (b.reg rt).toInt then b.reg rs else b.reg rt)) s)

/-- MAX, signed (R188). -/
def execMax (core : Fin 64) (rd rs rt : BitVec 5) (s : State) : Res :=
  .next (runCore core (fun b => aluZN b rd (if (b.reg rs).toInt ≤ (b.reg rt).toInt then b.reg rt else b.reg rs)) s)

/-- ADDS (R188). -/
def execAdds (core : Fin 64) (rd rs rt : BitVec 5) (s : State) : Res :=
  .next (runCore core (fun b => aluSat b rd ((b.reg rs).toInt + (b.reg rt).toInt)) s)

/-- SUBS (R188). -/
def execSubs (core : Fin 64) (rd rs rt : BitVec 5) (s : State) : Res :=
  .next (runCore core (fun b => aluSat b rd ((b.reg rs).toInt - (b.reg rt).toInt)) s)

/-- CMP: the flags of a difference (R188). -/
def execCmp (core : Fin 64) (rs rt : BitVec 5) (s : State) : Res :=
  .next (runCore core (fun b =>
    let r := subFull (b.reg rs) (b.reg rt)
    flagEff b maskZNCV (znCV r.1 r.2.1 r.2.2)) s)

/-- ABS, saturating (R188). -/
def execAbs (core : Fin 64) (rd rs : BitVec 5) (s : State) : Res :=
  .next (runCore core (fun b => aluSat b rd ((b.reg rs).toInt.natAbs : Int)) s)

/-- CMPI with a signed immediate (R188). -/
def execCmpi (core : Fin 64) (rs : BitVec 5) (imm : BitVec 16) (s : State) : Res :=
  .next (runCore core (fun b =>
    let r := subFull (b.reg rs) (sext16 imm)
    flagEff b maskZNCV (znCV r.1 r.2.1 r.2.2)) s)

/-- ADDI with a signed immediate (R188). -/
def execAddi (core : Fin 64) (rd rs : BitVec 5) (imm : BitVec 16) (s : State) : Res :=
  .next (runCore core (fun b => aluCV b rd (addFull (b.reg rs) (sext16 imm))) s)

/-- ANDI with a zero-extended immediate (R188). -/
def execAndi (core : Fin 64) (rd rs : BitVec 5) (imm : BitVec 16) (s : State) : Res :=
  .next (runCore core (fun b => aluZN b rd (b.reg rs &&& zext16 imm)) s)

/-- ORI with a zero-extended immediate (R188). -/
def execOri (core : Fin 64) (rd rs : BitVec 5) (imm : BitVec 16) (s : State) : Res :=
  .next (runCore core (fun b => aluZN b rd (b.reg rs ||| zext16 imm)) s)

/-- LUI: IMM × 2^16, no flags (R188). -/
def execLui (core : Fin 64) (rd : BitVec 5) (imm : BitVec 16) (s : State) : Res :=
  .next (runCore core (fun b => aluEff b rd (zext16 imm <<< 16) 0 0) s)

/-- SHLI (R188). -/
def execShli (core : Fin 64) (rd rs sh : BitVec 5) (s : State) : Res :=
  .next (runCore core (fun b => aluZN b rd (shlBy (b.reg rs) sh.toNat)) s)

/-- SHRI (R188). -/
def execShri (core : Fin 64) (rd rs sh : BitVec 5) (s : State) : Res :=
  .next (runCore core (fun b => aluZN b rd (shrBy (b.reg rs) sh.toNat)) s)

/-- ASRI (R188). -/
def execAsri (core : Fin 64) (rd rs sh : BitVec 5) (s : State) : Res :=
  .next (runCore core (fun b => aluZN b rd (asrBy (b.reg rs) sh.toNat)) s)

/-- MOVI: the sign-extended immediate, no flags (R188). -/
def execMovi (core : Fin 64) (rd : BitVec 5) (imm : BitVec 16) (s : State) : Res :=
  .next (runCore core (fun b => aluEff b rd (sext16 imm) 0 0) s)

/-- RDS: status word, remaining passes, task cycle count or 0 (R194, R205). -/
def execRds (core : Fin 64) (rd : BitVec 5) (sel : BitVec 2) (s : State) : Res :=
  .next (runCore core (fun b =>
    let v : Word := match sel.toNat with
      | 0 => b.st
      | 1 => Word.ofNat b.loopN
      | 2 => Word.ofNat (s.core core).taskCyc
      | _ => 0
    aluEff b rd v 0 0) s)

/-- WRS: every field of the status word (R205). -/
def execWrs (core : Fin 64) (rs : BitVec 5) (s : State) : Res :=
  .next (runCore core (fun b => flagEff b 0x33F (b.reg rs)) s)

/-- EXPX of a D register or of an accumulator (R201). -/
def execExpx (core : Fin 64) (rd rs : BitVec 5) (x : Bool) (s : State) : Res :=
  if (Instr.expx core rd rs x).wf then
    .next (runCore core (fun b => aluEff b rd
      (Word.ofNat (if x then redundantSign 72 (b.ar rs.toNat).toInt else expx32 (b.reg rs))) 0 0) s)
  else .next (runUndefined core s)

/-- NORM (R202). -/
def execNorm (core : Fin 64) (rd rs re : BitVec 5) (s : State) : Res :=
  if (Instr.norm core rd rs re).wf then
    .next (runCore core (fun b =>
      let e := expx32 (b.reg rs)
      { bank := b, results := [(1, .d rd.toNat (b.reg rs <<< e)), (1, .d re.toNat (Word.ofNat e))] }) s)
  else .next (runUndefined core s)

/-- BEXP: the minimum of Dd and the four exponents (R203). -/
def execBexp (core : Fin 64) (rd rq : BitVec 5) (s : State) : Res :=
  if (Instr.bexp core rd rq).wf then
    .next (runCore core (fun b =>
      let es := (List.range 4).map (fun i => (expx32 (b.dr (rq.toNat + i)) : Int))
      aluEff b rd (BitVec.ofInt 32 (es.foldl min (b.reg rd).toInt)) 0 0) s)
  else .next (runUndefined core s)

end Sys2Proof.Machine
end

