-- ==== Sys2Proof/Machine/TallyMac.lean ====
section
/-!
DEFINITION. The accumulating and extracting instructions of the Tally cores (R195 to R200, R204).
-/

namespace Sys2Proof.Machine

open Sys2Proof

/-- MAC (R196). -/
def execMac (core : Fin 64) (aa : BitVec 3) (dx dy : BitVec 5) (s : State) : Res :=
  .next (runCore core (fun b => macEff b false false aa dx dy) s)

/-- MSU (R196). -/
def execMsu (core : Fin 64) (aa : BitVec 3) (dx dy : BitVec 5) (s : State) : Res :=
  .next (runCore core (fun b => macEff b false true aa dx dy) s)

/-- MPY (R196). -/
def execMpy (core : Fin 64) (aa : BitVec 3) (dx dy : BitVec 5) (s : State) : Res :=
  .next (runCore core (fun b => macEff b true false aa dx dy) s)

/-- MPYN (R196). -/
def execMpyn (core : Fin 64) (aa : BitVec 3) (dx dy : BitVec 5) (s : State) : Res :=
  .next (runCore core (fun b => macEff b true true aa dx dy) s)

/-- QMAC (R197). -/
def execQmac (core : Fin 64) (aa : BitVec 3) (dx dy : BitVec 5) (bc clr neg : Bool) (s : State) : Res :=
  if (Instr.qmac core aa dx dy bc clr neg).wf then
    .next (runCore core (fun b => qmacEff b aa dx dy bc clr neg) s)
  else .next (runUndefined core s)

/-- AMV: sext(Ds) × 2^SH, or 0 (R198). -/
def execAmv (core : Fin 64) (aa : BitVec 3) (dx : BitVec 5) (clr : Bool) (sh : BitVec 6) (s : State) : Res :=
  if (Instr.amv core aa dx clr sh).wf then
    .next (runCore core (fun b =>
      let v : Int := if clr then 0 else (b.reg dx).toInt * 2 ^ sh.toNat
      { bank := b, results := [(1, .acc aa.toNat (BitVec.ofInt 72 v))] }) s)
  else .next (runUndefined core s)

/-- AADD: both accumulators are read at c + 2 (R195, R198). -/
def execAadd (core : Fin 64) (aa ab : BitVec 3) (s : State) : Res :=
  .next (runCore core (fun b => { bank := b, results := [(3, .addend aa.toNat 0 false true (some ab.toNat))] }) s)

/-- EXT by an immediate shift (R200); a saturation sets SYS_SAT_FLAGS.TLY. -/
def execExt (core : Fin 64) (rd : BitVec 5) (aa : BitVec 3) (sh : BitVec 6) (sat : Bool) (s : State) : Res :=
  .next ((runCore core (fun b => extEff b rd aa sh.toNat sat) s).setSat
    (canIssue core s && extSats (s.tbank core) aa sh.toNat sat) 2)

/-- EXTV by Ds[5:0] (R200). -/
def execExtv (core : Fin 64) (rd : BitVec 5) (aa : BitVec 3) (dy : BitVec 5) (sat : Bool) (s : State) : Res :=
  .next ((runCore core (fun b => extEff b rd aa ((b.reg dy).fld 0 6) sat) s).setSat
    (canIssue core s && extSats (s.tbank core) aa (((s.tbank core).reg dy).fld 0 6) sat) 2)

/-- TAPMV: one filter tap with a delay-line move (R204). An illegal access at either address writes nothing and
accumulates nothing; in the main bank a word with an uncorrectable error is moved and accumulated as a free value before the
fault (log entry 105). -/
def execTapmv (core : Fin 64) (aa : BitVec 3) (dn : BitVec 5) (neg : Bool) (s : State) : Res :=
  .next (if canIssue core s then
    let t := fetched core s
    let c := t.core core
    let b := c.bank c.inShadow
    let a0 := postAddr b 0
    let a1 := postAddr b 1
    let bad := illegalAccess a0 false || illegalAccess a1 true
    if bad then
      (if c.inShadow then instrFault core 3 t
       else instrFault core 3 (t.setCore core (c.issue { bank := (b.postMod 0).postMod 1 })))
    else
      let ecc := dataBad core a0 t
      let u := coreEcc core a0 t
      if ecc && c.inShadow then instrFault core 5 u
      else
        let w := if ecc then Config.eccLoad s.freeCtr else coreRead core a0 t
        let u := u.putWord (coreAddr core a1) w
        let u := u.setCore core (c.issue { bank := (b.postMod 0).postMod 1, results :=
          [(3, .addend aa.toNat (prodOf neg (b.reg dn) w) false true none)] })
        if ecc then instrFault core 5 u.tickFree else u
  else s)

end Sys2Proof.Machine
end

