-- ==== Sys2Proof/Machine/TallyMem.lean ====
section
/-!
DEFINITION. The load, store and pointer instructions of the Tally cores (R189 to R191) and QPUT (R206).
-/

namespace Sys2Proof.Machine

open Sys2Proof

/-- LD Dd, [Pi]+ (R189). -/
def execLdPost (core : Fin 64) (rd : BitVec 5) (p : BitVec 3) (s : State) : Res :=
  .next (runLoad core (fun b => [postAddr b p])
    (fun b ws => { bank := b.postMod p.toNat, results := [(2, .d rd.toNat (ws.headD 0))] }) s)

/-- LD Dd, [Pi + off] (R189). -/
def execLdOffset (core : Fin 64) (rd : BitVec 5) (p : BitVec 3) (off : BitVec 16) (s : State) : Res :=
  .next (runLoad core (fun b => [offAddr b p off])
    (fun b ws => { bank := b, results := [(2, .d rd.toNat (ws.headD 0))] }) s)

/-- ST Ds, [Pi]+ (R189). -/
def execStPost (core : Fin 64) (rs : BitVec 5) (p : BitVec 3) (s : State) : Res :=
  .next (runStore core (fun b => ([(postAddr b p, b.reg rs)], { bank := b.postMod p.toNat })) s)

/-- ST Ds, [Pi + off] (R189). -/
def execStOffset (core : Fin 64) (rs : BitVec 5) (p : BitVec 3) (off : BitVec 16) (s : State) : Res :=
  .next (runStore core (fun b => ([(offAddr b p off, b.reg rs)], { bank := b })) s)

/-- LDQ Dq, [Pi]+: the word at the lowest address goes to Dq (R189). -/
def execLdq (core : Fin 64) (rq : BitVec 5) (p : BitVec 3) (s : State) : Res :=
  if (Instr.ldq core rq p).wf then
    .next (runLoad core (fun b => quadAddrs b p)
      (fun b ws => { bank := b.postMod p.toNat,
                     results := ws.mapIdx (fun i w => (2, .d (rq.toNat + i) w)) }) s)
  else .next (runUndefined core s)

/-- STQ Dq, [Pi]+ (R189). -/
def execStq (core : Fin 64) (rq : BitVec 5) (p : BitVec 3) (s : State) : Res :=
  if (Instr.stq core rq p).wf then
    .next (runStore core (fun b =>
      ((quadAddrs b p).mapIdx (fun i a => (a, b.dr (rq.toNat + i))), { bank := b.postMod p.toNat })) s)
  else .next (runUndefined core s)

/-- WRP (R191). -/
def execWrp (core : Fin 64) (kind : BitVec 2) (p : BitVec 3) (rs : BitVec 5) (s : State) : Res :=
  if (Instr.wrp core kind p rs).wf then
    .next (runCore core (fun b => { bank := wrpBank b kind.toNat p.toNat (b.reg rs) }) s)
  else .next (runUndefined core s)

/-- RDP (R191). -/
def execRdp (core : Fin 64) (rd : BitVec 5) (kind : BitVec 2) (p : BitVec 3) (s : State) : Res :=
  if (Instr.rdp core rd kind p).wf then
    .next (runCore core (fun b => aluEff b rd (rdpWord b kind.toNat p.toNat) 0 0) s)
  else .next (runUndefined core s)

/-- ADDP: the pointer rule with an immediate in place of M (R191). -/
def execAddp (core : Fin 64) (p : BitVec 3) (imm : BitVec 16) (s : State) : Res :=
  .next (runCore core (fun b =>
    { bank := b.setP p.toNat (pointerNext (b.pr p.toNat) imm.toInt (b.lr p.toNat)) }) s)

/-- QPUT: push four D registers as one entry, posted (R206). -/
def execQput (core : Fin 64) (rq : BitVec 5) (queue : BitVec 7) (s : State) : Res :=
  if (Instr.qput core rq queue).wf then
    let ws := (List.range 4).map (fun i => (s.tbank core).dr (rq.toNat + i))
    .next (if canIssue core s then queuePush queue.toNat ws (runCore core (fun b => { bank := b }) s) else s)
  else .next (runUndefined core s)

end Sys2Proof.Machine
end

