-- ==== Sys2Proof/Machine/Dispatch.lean ====
section
/-!
DEFINITION. The dispatch: one arm per command, in the table's order, each one direct call of the command's meaning.
-/

namespace Sys2Proof.Machine

open Sys2Proof

def exec (i : Instr) (s : State) : Host.Outcome State Fault Refusal :=
  match i with
  | .blockBoundary dt => Sys2Proof.Machine.execBlockBoundary dt s
  | .stripProcess u => Sys2Proof.Machine.execStripProcess u s
  | .lanePieceDone rod piece => Sys2Proof.Machine.execLanePieceDone rod piece s
  | .collectorPartial rod piece => Sys2Proof.Machine.execCollectorPartial rod piece s
  | .tierComplete tier => Sys2Proof.Machine.execTierComplete tier s
  | .collectorRelease => Sys2Proof.Machine.execCollectorRelease s
  | .registerWrite init addr val => Sys2Proof.Machine.execRegisterWrite init addr val s
  | .sctrLoRead init pos => Sys2Proof.Machine.execSctrLoRead init pos s
  | .nextWrite init addr val => Sys2Proof.Machine.execNextWrite init addr val s
  | .odlyEnWrite init val => Sys2Proof.Machine.execOdlyEnWrite init val s
  | .pageWrite init addr val => Sys2Proof.Machine.execPageWrite init addr val s
  | .wrdropClr => Sys2Proof.Machine.execWrdropClr s
  | .check kind => Sys2Proof.Machine.execCheck kind s
  | .checkStart => Sys2Proof.Machine.execCheckStart s
  | .checkDone => Sys2Proof.Machine.execCheckDone s
  | .abort => Sys2Proof.Machine.execAbort s
  | .commitArm ctl => Sys2Proof.Machine.execCommitArm ctl s
  | .cancel => Sys2Proof.Machine.execCancel s
  | .confirm => Sys2Proof.Machine.execConfirm s
  | .commitResolve => Sys2Proof.Machine.execCommitResolve s
  | .compaction => Sys2Proof.Machine.execCompaction s
  | .answerTimeout => Sys2Proof.Machine.execAnswerTimeout s
  | .commitAnswerWrite val => Sys2Proof.Machine.execCommitAnswerWrite val s
  | .commitAnsAbort => Sys2Proof.Machine.execCommitAnsAbort s
  | .treeCommitDeadline => Sys2Proof.Machine.execTreeCommitDeadline s
  | .taskDispatch core wait => Sys2Proof.Machine.execTaskDispatch core wait s
  | .fenceExpiry core => Sys2Proof.Machine.execFenceExpiry core s
  | .clusterMark cluster => Sys2Proof.Machine.execClusterMark cluster s
  | .doorbellRing core => Sys2Proof.Machine.execDoorbellRing core s
  | .cycleMark core => Sys2Proof.Machine.execCycleMark core s
  | .interruptEntry core => Sys2Proof.Machine.execInterruptEntry core s
  | .handlerForcedExit core => Sys2Proof.Machine.execHandlerForcedExit core s
  | .start core => Sys2Proof.Machine.execStart core s
  | .stop core => Sys2Proof.Machine.execStop core s
  | .tallyFaultClr core => Sys2Proof.Machine.execTallyFaultClr core s
  | .tallyDropClr core => Sys2Proof.Machine.execTallyDropClr core s
  | .tallyImageWrite init addr val => Sys2Proof.Machine.execTallyImageWrite init addr val s
  | .nop core => Sys2Proof.Machine.execNop core s
  | .add core rd rs rt => Sys2Proof.Machine.execAdd core rd rs rt s
  | .sub core rd rs rt => Sys2Proof.Machine.execSub core rd rs rt s
  | .and core rd rs rt => Sys2Proof.Machine.execAnd core rd rs rt s
  | .or core rd rs rt => Sys2Proof.Machine.execOr core rd rs rt s
  | .xor core rd rs rt => Sys2Proof.Machine.execXor core rd rs rt s
  | .shl core rd rs rt => Sys2Proof.Machine.execShl core rd rs rt s
  | .shr core rd rs rt => Sys2Proof.Machine.execShr core rd rs rt s
  | .asr core rd rs rt => Sys2Proof.Machine.execAsr core rd rs rt s
  | .min core rd rs rt => Sys2Proof.Machine.execMin core rd rs rt s
  | .max core rd rs rt => Sys2Proof.Machine.execMax core rd rs rt s
  | .adds core rd rs rt => Sys2Proof.Machine.execAdds core rd rs rt s
  | .subs core rd rs rt => Sys2Proof.Machine.execSubs core rd rs rt s
  | .cmp core rs rt => Sys2Proof.Machine.execCmp core rs rt s
  | .abs core rd rs => Sys2Proof.Machine.execAbs core rd rs s
  | .cmpi core rs imm => Sys2Proof.Machine.execCmpi core rs imm s
  | .addi core rd rs imm => Sys2Proof.Machine.execAddi core rd rs imm s
  | .andi core rd rs imm => Sys2Proof.Machine.execAndi core rd rs imm s
  | .ori core rd rs imm => Sys2Proof.Machine.execOri core rd rs imm s
  | .lui core rd imm => Sys2Proof.Machine.execLui core rd imm s
  | .shli core rd rs sh => Sys2Proof.Machine.execShli core rd rs sh s
  | .shri core rd rs sh => Sys2Proof.Machine.execShri core rd rs sh s
  | .asri core rd rs sh => Sys2Proof.Machine.execAsri core rd rs sh s
  | .movi core rd imm => Sys2Proof.Machine.execMovi core rd imm s
  | .ldPost core rd p => Sys2Proof.Machine.execLdPost core rd p s
  | .ldOffset core rd p off => Sys2Proof.Machine.execLdOffset core rd p off s
  | .stPost core rs p => Sys2Proof.Machine.execStPost core rs p s
  | .stOffset core rs p off => Sys2Proof.Machine.execStOffset core rs p off s
  | .ldq core rq p => Sys2Proof.Machine.execLdq core rq p s
  | .stq core rq p => Sys2Proof.Machine.execStq core rq p s
  | .wrp core kind p rs => Sys2Proof.Machine.execWrp core kind p rs s
  | .rdp core rd kind p => Sys2Proof.Machine.execRdp core rd kind p s
  | .addp core p imm => Sys2Proof.Machine.execAddp core p imm s
  | .rds core rd sel => Sys2Proof.Machine.execRds core rd sel s
  | .wrs core rs => Sys2Proof.Machine.execWrs core rs s
  | .mac core aa dx dy => Sys2Proof.Machine.execMac core aa dx dy s
  | .msu core aa dx dy => Sys2Proof.Machine.execMsu core aa dx dy s
  | .mpy core aa dx dy => Sys2Proof.Machine.execMpy core aa dx dy s
  | .mpyn core aa dx dy => Sys2Proof.Machine.execMpyn core aa dx dy s
  | .qmac core aa dx dy bc clr neg => Sys2Proof.Machine.execQmac core aa dx dy bc clr neg s
  | .amv core aa dx clr sh => Sys2Proof.Machine.execAmv core aa dx clr sh s
  | .aadd core aa ab => Sys2Proof.Machine.execAadd core aa ab s
  | .ext core rd aa sh sat => Sys2Proof.Machine.execExt core rd aa sh sat s
  | .extv core rd aa dy sat => Sys2Proof.Machine.execExtv core rd aa dy sat s
  | .tapmv core aa dn neg => Sys2Proof.Machine.execTapmv core aa dn neg s
  | .expx core rd rs x => Sys2Proof.Machine.execExpx core rd rs x s
  | .norm core rd rs re => Sys2Proof.Machine.execNorm core rd rs re s
  | .bexp core rd rq => Sys2Proof.Machine.execBexp core rd rq s
  | .b core cond target => Sys2Proof.Machine.execB core cond target s
  | .call core target => Sys2Proof.Machine.execCall core target s
  | .ret core => Sys2Proof.Machine.execRet core s
  | .rep core fromReg len count => Sys2Proof.Machine.execRep core fromReg len count s
  | .rti core => Sys2Proof.Machine.execRti core s
  | .tend core => Sys2Proof.Machine.execTend core s
  | .qput core rq queue => Sys2Proof.Machine.execQput core rq queue s
  | .undefinedInstruction core word => Sys2Proof.Machine.execUndefinedInstruction core word s
  | .decimatorOutput c bits => Sys2Proof.Machine.execDecimatorOutput c bits s
  | .firOutput c => Sys2Proof.Machine.execFirOutput c s
  | .rmsWindowEnd c => Sys2Proof.Machine.execRmsWindowEnd c s
  | .chainRestart c => Sys2Proof.Machine.execChainRestart c s
  | .settlingEnd c => Sys2Proof.Machine.execSettlingEnd c s
  | .pkClr c => Sys2Proof.Machine.execPkClr c s
  | .rmsWinWrite c val => Sys2Proof.Machine.execRmsWinWrite c val s
  | .fdcCoefWrite set k val => Sys2Proof.Machine.execFdcCoefWrite set k val s
  | .fdcDropClr => Sys2Proof.Machine.execFdcDropClr s
  | .portEnable p => Sys2Proof.Machine.execPortEnable p s
  | .portDisable p => Sys2Proof.Machine.execPortDisable p s
  | .portStart p tick => Sys2Proof.Machine.execPortStart p tick s
  | .masterFrameStart p n words => Sys2Proof.Machine.execMasterFrameStart p n words s
  | .slaveFrameStart p tick words => Sys2Proof.Machine.execSlaveFrameStart p tick words s
  | .slipRepeat p => Sys2Proof.Machine.execSlipRepeat p s
  | .incorrectFrameLength p => Sys2Proof.Machine.execIncorrectFrameLength p s
  | .maskWrite p tx val tick => Sys2Proof.Machine.execMaskWrite p tx val tick s
  | .clrcnt p => Sys2Proof.Machine.execClrcnt p s
  | .pdmClockStart c => Sys2Proof.Machine.execPdmClockStart c s
  | .pdmWakeEnd c => Sys2Proof.Machine.execPdmWakeEnd c s
  | .pdmStuck ch => Sys2Proof.Machine.execPdmStuck ch s
  | .carrierPeriodStart ch => Sys2Proof.Machine.execCarrierPeriodStart ch s
  | .clipClear ch => Sys2Proof.Machine.execClipClear ch s
  | .bridgeEnable ch => Sys2Proof.Machine.execBridgeEnable ch s
  | .bridgeDisable ch => Sys2Proof.Machine.execBridgeDisable ch s
  | .rangeChange ch code => Sys2Proof.Machine.execRangeChange ch code s
  | .staggerWrite ch val => Sys2Proof.Machine.execStaggerWrite ch val s
  | .clrLatch ch => Sys2Proof.Machine.execClrLatch ch s
  | .verdict ch val => Sys2Proof.Machine.execVerdict ch val s
  | .ocDetect ch tick => Sys2Proof.Machine.execOcDetect ch tick s
  | .tripTimerExpiry ch => Sys2Proof.Machine.execTripTimerExpiry ch s
  | .retryDwellEnd ch => Sys2Proof.Machine.execRetryDwellEnd ch s
  | .retriesReset ch => Sys2Proof.Machine.execRetriesReset ch s
  | .bclrActive bank => Sys2Proof.Machine.execBclrActive bank s
  | .bclrRelease bank => Sys2Proof.Machine.execBclrRelease bank s
  | .clockErrorWindow count => Sys2Proof.Machine.execClockErrorWindow count s
  | .edgeClockStopped => Sys2Proof.Machine.execEdgeClockStopped s
  | .occntClr ch => Sys2Proof.Machine.execOccntClr ch s
  | .scanSlotStart => Sys2Proof.Machine.execScanSlotStart s
  | .windowLatch ch => Sys2Proof.Machine.execWindowLatch ch s
  | .supEvaluate ch => Sys2Proof.Machine.execSupEvaluate ch s
  | .sinSample k code => Sys2Proof.Machine.execSinSample k code s
  | .sinThresholdWrite second val => Sys2Proof.Machine.execSinThresholdWrite second val s
  | .ctlLevelWrite half val => Sys2Proof.Machine.execCtlLevelWrite half val s
  | .ctlInSample line level => Sys2Proof.Machine.execCtlInSample line level s
  | .ctlPulseEnd e => Sys2Proof.Machine.execCtlPulseEnd e s
  | .sarSlot code => Sys2Proof.Machine.execSarSlot code s
  | .qaccLoRead => Sys2Proof.Machine.execQaccLoRead s
  | .qclr => Sys2Proof.Machine.execQclr s
  | .dmsLatch => Sys2Proof.Machine.execDmsLatch s
  | .reserveSecond => Sys2Proof.Machine.execReserveSecond s
  | .mainsSample => Sys2Proof.Machine.execMainsSample s
  | .referenceEvent slot e => Sys2Proof.Machine.execReferenceEvent slot e s
  | .slotLost slot => Sys2Proof.Machine.execSlotLost slot s
  | .slotMeasurement slot m => Sys2Proof.Machine.execSlotMeasurement slot m s
  | .xoFail => Sys2Proof.Machine.execXoFail s
  | .snap => Sys2Proof.Machine.execSnap s
  | .refFreqWrite val => Sys2Proof.Machine.execRefFreqWrite val s
  | .tbsSet n dt => Sys2Proof.Machine.execTbsSet n dt s
  | .tbsStep n dt => Sys2Proof.Machine.execTbsStep n dt s
  | .tbsSlew n dt => Sys2Proof.Machine.execTbsSlew n dt s
  | .incWrite n val dt => Sys2Proof.Machine.execIncWrite n val dt s
  | .tbNsRead init n dt => Sys2Proof.Machine.execTbNsRead init n dt s
  | .triggerArm n dt => Sys2Proof.Machine.execTriggerArm n dt s
  | .triggerDisarm n => Sys2Proof.Machine.execTriggerDisarm n s
  | .triggerFire n dt => Sys2Proof.Machine.execTriggerFire n dt s
  | .captureEdge src rising dt => Sys2Proof.Machine.execCaptureEdge src rising dt s
  | .rel n => Sys2Proof.Machine.execRel n s
  | .pop m => Sys2Proof.Machine.execPop m s
  | .frameReceive m frame => Sys2Proof.Machine.execFrameReceive m frame s
  | .frameTransmit m => Sys2Proof.Machine.execFrameTransmit m s
  | .collision m late => Sys2Proof.Machine.execCollision m late s
  | .backoffExpiry m => Sys2Proof.Machine.execBackoffExpiry m s
  | .pauseTimerExpiry m => Sys2Proof.Machine.execPauseTimerExpiry m s
  | .send m => Sys2Proof.Machine.execSend m s
  | .lpiEnter m => Sys2Proof.Machine.execLpiEnter m s
  | .lpiWakeEnd m => Sys2Proof.Machine.execLpiWakeEnd m s
  | .macLinkUp m => Sys2Proof.Machine.execMacLinkUp m s
  | .macLinkDown m => Sys2Proof.Machine.execMacLinkDown m s
  | .mdioGo => Sys2Proof.Machine.execMdioGo s
  | .mdioDone data => Sys2Proof.Machine.execMdioDone data s
  | .macCounterClr m => Sys2Proof.Machine.execMacCounterClr m s
  | .streamRxEnable n => Sys2Proof.Machine.execStreamRxEnable n s
  | .streamTxEnable n => Sys2Proof.Machine.execStreamTxEnable n s
  | .streamTxDisable n => Sys2Proof.Machine.execStreamTxDisable n s
  | .streamRxCounterClr n => Sys2Proof.Machine.execStreamRxCounterClr n s
  | .blockLock lane => Sys2Proof.Machine.execBlockLock lane s
  | .blockLockLost lane => Sys2Proof.Machine.execBlockLockLost lane s
  | .markerReceive lane hdr bits skew => Sys2Proof.Machine.execMarkerReceive lane hdr bits skew s
  | .cascadeFrameSend p => Sys2Proof.Machine.execCascadeFrameSend p s
  | .cascadeFrameReceive p frame => Sys2Proof.Machine.execCascadeFrameReceive p frame s
  | .cascadeFrameDeadline p => Sys2Proof.Machine.execCascadeFrameDeadline p s
  | .mapHoldExpiry p => Sys2Proof.Machine.execMapHoldExpiry p s
  | .segmentResend p => Sys2Proof.Machine.execSegmentResend p s
  | .cascadePortEnable p => Sys2Proof.Machine.execCascadePortEnable p s
  | .cascadePortDisable p => Sys2Proof.Machine.execCascadePortDisable p s
  | .cascadeRoleWrite val => Sys2Proof.Machine.execCascadeRoleWrite val s
  | .cascadeClrcnt => Sys2Proof.Machine.execCascadeClrcnt s
  | .cuspChange code => Sys2Proof.Machine.execCuspChange code s
  | .guardExpiry => Sys2Proof.Machine.execGuardExpiry s
  | .yieldTimeout => Sys2Proof.Machine.execYieldTimeout s
  | .partnerAbsentTimeout => Sys2Proof.Machine.execPartnerAbsentTimeout s
  | .presenceVisit writes => Sys2Proof.Machine.execPresenceVisit writes s
  | .custodyStandbyMissing => Sys2Proof.Machine.execCustodyStandbyMissing s
  | .giveUp cause => Sys2Proof.Machine.execGiveUp cause s
  | .lockstepMismatch => Sys2Proof.Machine.execLockstepMismatch s
  | .dieLinkFailure => Sys2Proof.Machine.execDieLinkFailure s
  | .giveup fwcode => Sys2Proof.Machine.execGiveup fwcode s
  | .cntClr => Sys2Proof.Machine.execCntClr s
  | .checkpointSeal => Sys2Proof.Machine.execCheckpointSeal s
  | .resume sig esc => Sys2Proof.Machine.execResume sig esc s
  | .selfRestart straps => Sys2Proof.Machine.execSelfRestart straps s
  | .scanInterval => Sys2Proof.Machine.execScanInterval s
  | .spiStatus w => Sys2Proof.Machine.execSpiStatus w s
  | .spiPut w n words => Sys2Proof.Machine.execSpiPut w n words s
  | .spiGetRsp w n => Sys2Proof.Machine.execSpiGetRsp w n s
  | .spiGetEvt w n => Sys2Proof.Machine.execSpiGetEvt w n s
  | .spiBadOp w op => Sys2Proof.Machine.execSpiBadOp w op s
  | .w2FrameReceive first bytes last => Sys2Proof.Machine.execW2FrameReceive first bytes last s
  | .w3DatagramReceive ip port words => Sys2Proof.Machine.execW3DatagramReceive ip port words s
  | .responseSend w => Sys2Proof.Machine.execResponseSend w s
  | .windowClrcnt w => Sys2Proof.Machine.execWindowClrcnt w s
  | .cedeLapse => Sys2Proof.Machine.execCedeLapse s
  | .maintPin => Sys2Proof.Machine.execMaintPin s
  | .rollbackBlow => Sys2Proof.Machine.execRollbackBlow s
  | .sysIdent q => Sys2Proof.Machine.execSysIdent q s
  | .sysStatus q => Sys2Proof.Machine.execSysStatus q s
  | .sysRestart q => Sys2Proof.Machine.execSysRestart q s
  | .sysFwWrite q => Sys2Proof.Machine.execSysFwWrite q s
  | .sysFwCheck q => Sys2Proof.Machine.execSysFwCheck q s
  | .sysRollbackHold q => Sys2Proof.Machine.execSysRollbackHold q s
  | .ownClaim q => Sys2Proof.Machine.execOwnClaim q s
  | .ownCede q => Sys2Proof.Machine.execOwnCede q s
  | .ownAccept q => Sys2Proof.Machine.execOwnAccept q s
  | .ownRelease q => Sys2Proof.Machine.execOwnRelease q s
  | .ownForce q => Sys2Proof.Machine.execOwnForce q s
  | .ownMaint q => Sys2Proof.Machine.execOwnMaint q s
  | .ownQuery q => Sys2Proof.Machine.execOwnQuery q s
  | .objGet q => Sys2Proof.Machine.execObjGet q s
  | .objSet q => Sys2Proof.Machine.execObjSet q s
  | .objApply q => Sys2Proof.Machine.execObjApply q s
  | .objDiscard q => Sys2Proof.Machine.execObjDiscard q s
  | .objRollCreate q => Sys2Proof.Machine.execObjRollCreate q s
  | .objRollAdd q => Sys2Proof.Machine.execObjRollAdd q s
  | .objRollRemove q => Sys2Proof.Machine.execObjRollRemove q s
  | .objRollDelete q => Sys2Proof.Machine.execObjRollDelete q s
  | .objMembers q => Sys2Proof.Machine.execObjMembers q s
  | .objList q => Sys2Proof.Machine.execObjList q s
  | .routeSet q => Sys2Proof.Machine.execRouteSet q s
  | .routeClear q => Sys2Proof.Machine.execRouteClear q s
  | .routeGet q => Sys2Proof.Machine.execRouteGet q s
  | .routeList q => Sys2Proof.Machine.execRouteList q s
  | .routeCost q => Sys2Proof.Machine.execRouteCost q s
  | .scenePrepare q => Sys2Proof.Machine.execScenePrepare q s
  | .sceneCommit q => Sys2Proof.Machine.execSceneCommit q s
  | .sceneAbort q => Sys2Proof.Machine.execSceneAbort q s
  | .sceneRecall q => Sys2Proof.Machine.execSceneRecall q s
  | .sceneStatus q => Sys2Proof.Machine.execSceneStatus q s
  | .sceneList q => Sys2Proof.Machine.execSceneList q s
  | .msgPlay q => Sys2Proof.Machine.execMsgPlay q s
  | .msgStop q => Sys2Proof.Machine.execMsgStop q s
  | .msgStatus q => Sys2Proof.Machine.execMsgStatus q s
  | .msgList q => Sys2Proof.Machine.execMsgList q s
  | .messageEnd player => Sys2Proof.Machine.execMessageEnd player s
  | .messageStaging plan g => Sys2Proof.Machine.execMessageStaging plan g s
  | .alarmTrigger q => Sys2Proof.Machine.execAlarmTrigger q s
  | .alarmSilence q => Sys2Proof.Machine.execAlarmSilence q s
  | .alarmReset q => Sys2Proof.Machine.execAlarmReset q s
  | .alarmAck q => Sys2Proof.Machine.execAlarmAck q s
  | .alarmStatus q => Sys2Proof.Machine.execAlarmStatus q s
  | .alarmPlanSet q => Sys2Proof.Machine.execAlarmPlanSet q s
  | .alarmPlanGet q => Sys2Proof.Machine.execAlarmPlanGet q s
  | .alarmZoneSet q => Sys2Proof.Machine.execAlarmZoneSet q s
  | .alarmZoneGet q => Sys2Proof.Machine.execAlarmZoneGet q s
  | .rerouteReturn zone => Sys2Proof.Machine.execRerouteReturn zone s
  | .faultRelayRise => Sys2Proof.Machine.execFaultRelayRise s
  | .supLearn q => Sys2Proof.Machine.execSupLearn q s
  | .supSet q => Sys2Proof.Machine.execSupSet q s
  | .supStatus q => Sys2Proof.Machine.execSupStatus q s
  | .rsvSet q => Sys2Proof.Machine.execRsvSet q s
  | .rsvGet q => Sys2Proof.Machine.execRsvGet q s
  | .rsvTable q => Sys2Proof.Machine.execRsvTable q s
  | .rsvStatus q => Sys2Proof.Machine.execRsvStatus q s
  | .clkPrioSet q => Sys2Proof.Machine.execClkPrioSet q s
  | .clkSlotSet q => Sys2Proof.Machine.execClkSlotSet q s
  | .clkMapSet q => Sys2Proof.Machine.execClkMapSet q s
  | .clkLoopSet q => Sys2Proof.Machine.execClkLoopSet q s
  | .clkStatus q => Sys2Proof.Machine.execClkStatus q s
  | .netMacSet q => Sys2Proof.Machine.execNetMacSet q s
  | .netStreamSet q => Sys2Proof.Machine.execNetStreamSet q s
  | .netStreamEn q => Sys2Proof.Machine.execNetStreamEn q s
  | .netStatus q => Sys2Proof.Machine.execNetStatus q s
  | .casPortSet q => Sys2Proof.Machine.execCasPortSet q s
  | .casTransitSet q => Sys2Proof.Machine.execCasTransitSet q s
  | .casReturnSet q => Sys2Proof.Machine.execCasReturnSet q s
  | .casTopo q => Sys2Proof.Machine.execCasTopo q s
  | .cusStatus q => Sys2Proof.Machine.execCusStatus q s
  | .cusHoldSet q => Sys2Proof.Machine.execCusHoldSet q s
  | .cusStbySet q => Sys2Proof.Machine.execCusStbySet q s
  | .cusGiveup q => Sys2Proof.Machine.execCusGiveup q s
  | .regRead q => Sys2Proof.Machine.execRegRead q s
  | .regWrite q => Sys2Proof.Machine.execRegWrite q s
  | .logRead q => Sys2Proof.Machine.execLogRead q s
  | .logCheckpoint q => Sys2Proof.Machine.execLogCheckpoint q s
  | .evtSubscribe q => Sys2Proof.Machine.execEvtSubscribe q s
  | .evtUnsubscribe q => Sys2Proof.Machine.execEvtUnsubscribe q s
  | .evtMask q => Sys2Proof.Machine.execEvtMask q s
  | .eccWriteback addr => Sys2Proof.Machine.execEccWriteback addr s
  | .eccClr unc => Sys2Proof.Machine.execEccClr unc s
  | .bgtRegionStart => Sys2Proof.Machine.execBgtRegionStart s
  | .bgtRegionDone bank pass => Sys2Proof.Machine.execBgtRegionDone bank pass s
  | .fabErrClr => Sys2Proof.Machine.execFabErrClr s
  | .fabricWatchdog init => Sys2Proof.Machine.execFabricWatchdog init s
  | .dmaStart c => Sys2Proof.Machine.execDmaStart c s
  | .dmaPause c on => Sys2Proof.Machine.execDmaPause c on s
  | .dmaAbort c => Sys2Proof.Machine.execDmaAbort c s
  | .dmaAppend c => Sys2Proof.Machine.execDmaAppend c s
  | .descriptorComplete c => Sys2Proof.Machine.execDescriptorComplete c s
  | .dmaDrained c n => Sys2Proof.Machine.execDmaDrained c n s
  | .queueEnable n => Sys2Proof.Machine.execQueueEnable n s
  | .queuePush n words => Sys2Proof.Machine.execQueuePush n words s
  | .queuePop n k => Sys2Proof.Machine.execQueuePop n k s
  | .queueOvfClr n => Sys2Proof.Machine.execQueueOvfClr n s
  | .por straps => Sys2Proof.Machine.execPor straps s
  | .supplyGood => Sys2Proof.Machine.execSupplyGood s
  | .supplyRiseTimeout good => Sys2Proof.Machine.execSupplyRiseTimeout good s
  | .supplyRetry => Sys2Proof.Machine.execSupplyRetry s
  | .supplyTrip k => Sys2Proof.Machine.execSupplyTrip k s
  | .vaultSupplyLoss => Sys2Proof.Machine.execVaultSupplyLoss s
  | .pinReset => Sys2Proof.Machine.execPinReset s
  | .resetRelease straps => Sys2Proof.Machine.execResetRelease straps s
  | .enter => Sys2Proof.Machine.execEnter s
  | .vaultEntered => Sys2Proof.Machine.execVaultEntered s
  | .wake src => Sys2Proof.Machine.execWake src s
  | .wakeTimerExpiry => Sys2Proof.Machine.execWakeTimerExpiry s
  | .boot selfTest dram marks frame absent => Sys2Proof.Machine.execBoot selfTest dram marks frame absent s
  | .downloadFrame words => Sys2Proof.Machine.execDownloadFrame words s
  | .slewDone n dt => Sys2Proof.Machine.execSlewDone n dt s
  | .markerMissed lane => Sys2Proof.Machine.execMarkerMissed lane s
  | .invalidHeader b => Sys2Proof.Machine.execInvalidHeader b s
  | .partnerLpi m on => Sys2Proof.Machine.execPartnerLpi m on s
  | .maintPinHigh => Sys2Proof.Machine.execMaintPinHigh s
  | .maintReset => Sys2Proof.Machine.execMaintReset s

end Sys2Proof.Machine
end

