-- ==== Sys2Proof/Safety.lean ====
section
/-!
DEFINITION. What a safe step and a safe run are, in the terms the statements use: a step that answers a next state, and
the forms that every step keeps.
-/

namespace Sys2Proof.Machine

open Sys2Proof

/-- A command takes a state to a next state. -/
def Runs (i : Instr) (s t : State) : Prop := exec i s = .next t

/-- The outcome is a next state. -/
def Answers (r : Host.Outcome State Fault Refusal) : Prop := ∃ t, r = .next t

/-- Addressed memory is in its canonical form. -/
def State.memOk (s : State) : Prop := Memory.wf s.mem = true

/-- The answer, where it is a next state, satisfies `P`. -/
def Ensures (r : Host.Outcome State Fault Refusal) (P : State → Prop) : Prop := ∃ t, r = .next t ∧ P t

/-! ## Terms of the statements about Tally instructions -/

/-- Bank `h` of core `k` as an instruction issued `n` cycles after the next one reads it. -/
def State.bankIn (s : State) (k : Nat) (h : Bool) (n : Nat) : TBank :=
  (retireList ((s.core k).cyc + n) (s.core k).flight (s.core k)).bank h

/-- Two states that differ in core `k` alone. -/
def OnlyCore (k : Nat) (s t : State) : Prop :=
  { t with tly := s.tly } = s ∧ { t.tly with cores := s.tly.cores } = s.tly ∧ ∀ j, j ≠ k → t.core j = s.core j

/-- Two states that differ in the results in flight of core `k` alone. -/
def OnlyFlight (k : Nat) (s t : State) : Prop :=
  OnlyCore k s t ∧ { t.core k with flight := (s.core k).flight } = s.core k

/-- The value a list of (number, value) pairs gives a register, else what it held; the first pair counts. -/
def given {α : Type} (l : List (Nat × α)) (r : Nat) (old : α) : α := ((l.find? (fun e => e.1 == r)).map (fun e => e.2)).getD old

/-- What an instruction delivers to the bank it issued in, `b0` being the bank as it would read in that cycle after a NOP:
D registers, accumulators and bits of the status word. -/
structure Delivery where
  d : List (Nat × Word) := []
  a : List (Nat × BitVec 72) := []
  st : List (Nat × Bool) := []

/-- Instruction `i` of core `core` completes: it leaves what a NOP leaves but for results in flight, no register shows them
before `lat` cycles from its issue, and then the registers named in `w` read as it says and no other register differs. -/
def Delivers (i : Instr) (core : Fin 64) (s : State) (lat : Nat) (w : TBank → Delivery) : Prop :=
  ∃ t t0, exec i s = .next t ∧ exec (.nop core) s = .next t0 ∧ OnlyFlight core t0 t ∧
    let h := (s.core core).inShadow
    (∀ n, n + 1 < lat → t.bankIn core h n = t0.bankIn core h n) ∧
    let b := t.bankIn core h (lat - 1)
    let b0 := t0.bankIn core h (lat - 1)
    { b with d := b0.d, a := b0.a, st := b0.st } = b0 ∧
    (∀ r, b.dr r = given (w b0).d r (b0.dr r)) ∧ (∀ r, b.ar r = given (w b0).a r (b0.ar r)) ∧
    ∀ j, j < 32 → b.st.bit j = given (w b0).st j (b0.st.bit j)

/-- Z and N of a result. -/
def zn (r : Word) : List (Nat × Bool) := [(0, r == 0), (1, r.msb)]

/-- Z, N, C and V of a result. -/
def zncv (r : Word) (c v : Bool) : List (Nat × Bool) := [(0, r == 0), (1, r.msb), (2, c), (3, v)]

/-- Z, N and V of a result. -/
def znv (r : Word) (v : Bool) : List (Nat × Bool) := [(0, r == 0), (1, r.msb), (3, v)]

/-- An exact result lies outside the 32-bit two's complement range. -/
def out32 (x : Int) : Bool := decide (x < -2 ^ 31 ∨ 2 ^ 31 - 1 < x)

/-- The nearest 32-bit two's complement value. -/
def near32 (x : Int) : Word := if x < -2 ^ 31 then 0x80000000 else if 2 ^ 31 - 1 < x then 0x7FFFFFFF else BitVec.ofInt 32 x

/-- The leading bits of an n-bit word that equal its sign bit, minus 1 (R201). -/
def signRun {n : Nat} (w : BitVec n) : Nat := ((List.range n).takeWhile (fun i => w.getLsbD (n - 1 - i) == w.msb)).length - 1

/-- A 72-bit accumulator after adding or replacing, and the flags of R199: AZ and AN of the new value where `lead` holds, and
AV where the true result lies outside 72 bits. -/
def accValue (old : BitVec 72) (clr : Bool) (x : Int) : Int := (if clr then 0 else old.toInt) + x

def out72 (x : Int) : Bool := decide (x < -2 ^ 71 ∨ 2 ^ 71 - 1 < x)

/-- The flags of accumulations with these true results, the first one's accumulator being A(AA). -/
def accBits (xs : List Int) : List (Nat × Bool) :=
  let v : BitVec 72 := BitVec.ofInt 72 (xs.headD 0)
  [(4, v == 0), (5, v.msb)] ++ (if xs.any out72 then [(8, true)] else [])

/-- Round `x / 2^k` to the nearest integer, ties to even (R35). -/
def nearest (x : Int) (k : Nat) (q : Int) : Prop :=
  2 * (q * 2 ^ k - x).natAbs < 2 ^ k ∨ (2 * (q * 2 ^ k - x).natAbs = 2 ^ k ∧ q % 2 = 0)

/-- A core data address: [16:0] of a pointer, bits [1:0] ignored (R157, R189). -/
def wordAddr (p : Word) : Nat := p.toNat % 2 ^ 17 / 4 * 4

/-- Two states that differ in the results in flight of core `k` and in its bank `h` alone. -/
def OnlyBank (k : Nat) (h : Bool) (s t : State) : Prop :=
  OnlyCore k s t ∧
  { t.core k with flight := (s.core k).flight, main := (s.core k).main, shadow := (s.core k).shadow } = s.core k ∧
  ∀ n, t.bankIn k (!h) n = s.bankIn k (!h) n

/-- As `Delivers`, for an instruction that also updates pointers, modifiers or lengths: those read so from the next
instruction on. `t` is left after it and `t0` after a NOP. -/
def DeliversPtr (core : Fin 64) (s t t0 : State) (lat : Nat) (w : TBank → Delivery) (p m : List (Nat × Word))
    (l : List (Nat × Nat)) : Prop :=
  let h := (s.core core).inShadow
  ∀ n, n < max 1 lat →
    let b := t.bankIn core h n
    let b0 := t0.bankIn core h n
    let v : Delivery := if n + 1 < lat then {} else w b0
    { b with d := b0.d, a := b0.a, st := b0.st, p := b0.p, m := b0.m, l := b0.l } = b0 ∧
    (∀ r, b.pr r = given p r (b0.pr r)) ∧ (∀ r, b.mr r = given m r (b0.mr r)) ∧ (∀ r, b.lr r = given l r (b0.lr r)) ∧
    (∀ r, b.dr r = given v.d r (b0.dr r)) ∧ (∀ r, b.ar r = given v.a r (b0.ar r)) ∧
    ∀ j, j < 32 → b.st.bit j = given v.st j (b0.st.bit j)

/-- The pointer after a post-modified access through Pi, which R160 gives. -/
def TBank.stepped (b : TBank) (p : BitVec 3) : List (Nat × Word) :=
  [(p.toNat, pointerNext (b.pr p.toNat) (b.mr p.toNat).toInt (b.lr p.toNat))]

/-- No ECC error in the words at these core addresses. -/
def State.cleanAt (s : State) (core : Nat) (as : List Nat) : Prop := ∀ a, a ∈ as → s.eccAt (coreAddr core a) = none

/-- Addressed memory after stores: each listed word reads as stored, every other byte as before. -/
def Stored (s t : State) (ws : List (Nat × Word)) : Prop :=
  (∀ e, e ∈ ws → t.word e.1 = e.2) ∧ ∀ a, (∀ e, e ∈ ws → a < e.1 ∨ e.1 + 4 ≤ a) → t.byte a = s.byte a

/-- Two memory records that differ in the ECC errors and write-backs that stores end (R516). -/
def OnlyEccEnded (s t : State) : Prop :=
  { t.memc with ecc := s.memc.ecc, writeback := s.memc.writeback } = s.memc

/-- What raising an event (where `b` holds) leaves in the event queues, their lost counts, Zekor's fault list and the
messages for other nodes, as they stand in `t`. -/
def Raised (s t : State) (b : Bool) (code payload : Nat) : Prop :=
  let r := s.raiseIf b code payload
  t.evq = r.evq ∧ t.evtLost = r.evtLost ∧ t.zk = r.zk ∧ t.msgOut = r.msgOut

/-- Two states that differ in core `k` and in what events leave. -/
def OnlyCoreAndEvents (k : Nat) (s t : State) : Prop :=
  OnlyCore k s { t with evq := s.evq, evtLost := s.evtLost, zk := s.zk, msgOut := s.msgOut }

/-- The word at the program counter holds no ECC error. -/
def State.cleanWord (s : State) (k : Nat) : Prop := s.eccAt (0x02400000 + k * 0x20000 + 4 * (s.core k).pc) = none

/-- The descriptors and instance entries of core `k` hold no ECC error. -/
def State.cleanStore (s : State) (k : Nat) : Prop :=
  ∀ a, 0x02400000 + k * 0x20000 + 0x1C000 ≤ a → a < 0x02400000 + k * 0x20000 + 0x1C400 → s.eccAt a = none

/-- The program counter is in no delay slot and in no loop body of its bank. -/
def TCore.plain (c : TCore) : Prop :=
  c.delay = none ∧ (let b := c.bank c.inShadow
    b.loopN = 0 ∨ (b.loopLo ≤ b.loopHi ∧ (c.pc < b.loopLo ∨ b.loopHi < c.pc)))

/-- Task `j` is the next enabled task after `n` of core `k`'s descriptors; none: no task is left. -/
def NextTask (s : State) (k n : Nat) (j : Option Nat) : Prop :=
  match j with
  | some j => n ≤ j ∧ j < 16 ∧ s.taskEn k j = true ∧ ∀ i, n ≤ i → i < j → s.taskEn k i = false
  | none => ∀ i, n ≤ i → i < 16 → s.taskEn k i = false

/-- A task of core `k` has ended in `t`: the core looks for the next descriptor, or is done and waits for the release. -/
def TaskEnded (s t : State) (k : Nat) : Prop :=
  (t.core k).nextTask = (s.core k).task + 1 ∧ (t.core k).delay = none ∧
    (NextTask s k ((s.core k).task + 1) none → (t.core k).st = .waitRel ∧ (t.core k).done = true) ∧
    ((∃ j, NextTask s k ((s.core k).task + 1) (some j)) → (t.core k).st = .dispatch ∧ (t.core k).done = (s.core k).done)

/-- The conditions of B, COND 0 to 14 (R192). -/
def condTable (st : Word) : List Bool :=
  let z := st.bit 0
  let n := st.bit 1
  let c := st.bit 2
  let v := st.bit 3
  [true, z, !z, n != v, n == v, z || n != v, !z && n == v, c, !c, v, !v, st.bit 4, !st.bit 4, st.bit 5, !st.bit 5]

/-- A fault of cause `c` recorded for core `k` (R172): the record, its count, and event 0x0C50 for the first. -/
def FaultRecorded (s t : State) (k cause : Nat) (irq : Bool) : Prop :=
  (t.core k).cause = cause ∧ (t.core k).faultIrq = irq ∧ (t.core k).faultTask = (s.core k).task ∧
    (t.core k).faultCount = (if (s.core k).faultCount < 0x7FFF then (s.core k).faultCount + 1 else (s.core k).faultCount) ∧
    (t.core k).faultArmed = false ∧
    Raised s t (s.core k).faultArmed 0x0C50 (k * 2 ^ 8 + (s.core k).task * 2 ^ 4 + cause)

/-- A bank in its form: lengths are 17 bits and multiples of 4 (R159, R191), the reserved bits of the status word are 0
(R205), and a loop's bounds are program words (R193). -/
def TBank.ok (b : TBank) : Prop :=
  (∀ r, b.lr r < 2 ^ 17 ∧ b.lr r % 4 = 0) ∧ b.st &&& 0xFFFFFCC0 = 0 ∧ b.loopLo < 8192 ∧ b.loopHi < 8192

/-- A core in its form: 13-bit program counter, IRET and targets (R184), four interrupt sources (R164), sixteen tasks
(R168), banks in their form, results in flight that write no reserved status bit, counters within their fields. -/
def TCore.ok (c : TCore) : Prop :=
  c.pc < 8192 ∧ c.iret < 8192 ∧ c.pend < 16 ∧ c.task < 16 ∧ c.nextTask ≤ 16 ∧ c.cause < 8 ∧ c.faultTask < 16 ∧
  c.faultCount ≤ 0x7FFF ∧ c.dropCount ≤ 0xFFFF ∧ c.main.ok ∧ c.shadow.ok ∧
  (∀ d, c.delay = some d → d.target < 8192 ∧ 0 < d.left ∧ d.left ≤ 2) ∧
  ∀ f, f ∈ c.flight → match f.res with
    | .flags mask _ => mask &&& 0xFFFFFCC0 = 0
    | _ => True

/-- Every Tally core is in its form, and addressed memory in its canonical one. -/
def TallyInv (s : State) : Prop := s.memOk ∧ ∀ k, (s.core k).ok

/-- The commands of the Tally cores: every instruction, and the events and services of a core but the image writes. -/
def isTally : Instr → Bool
  | .taskDispatch .. | .fenceExpiry .. | .clusterMark .. | .doorbellRing .. | .cycleMark .. | .interruptEntry ..
  | .handlerForcedExit .. | .start .. | .stop .. | .tallyFaultClr .. | .tallyDropClr .. | .undefinedInstruction .. => true
  | i => (tallyEncode i).isSome

/-! ## Terms of the statements about the engine -/

/-- Two states that differ in the processing stage's source slots alone, slot `n` being listed with `xs`. -/
def OnlySlot (n : Nat) (xs : List Int) (s t : State) : Prop :=
  { t with engine := { t.engine with slots := s.engine.slots } } = s ∧
    ∀ m, Tbl.find t.engine.slots m = if m = n then some xs else Tbl.find s.engine.slots m

/-- Sample `i` of a block that starts with sample 0 of `xs`, `hist` holding what came before, newest first. -/
def sampleAt (xs hist : List Int) (i : Int) : Int :=
  if 0 ≤ i then xs.getD i.toNat 0 else hist.getD (-i - 1).toNat 0

/-- The sum of `n` terms. -/
def sumTo (n : Nat) (f : Nat → Int) : Int := ((List.range n).map f).sum

/-- A gain stage at sample `j` of a block of domain `dom`: its gain there times the sample, narrowed once. -/
def State.gained (s : State) (g : GainSt) (dom j : Nat) (x : Int) : Int :=
  gainMul (g.at s.engine.rampsEng ((s.rampTimes dom).getD j 0)) x

/-- The selector's position at sample `j` of a block that starts at position `c`. -/
def selPos (c len : Nat) (sel : Bool) (j : Nat) : Nat := if sel then min len (c + j) else c - j

/-- Stages 1 to 3 of input strip `i` at sample `j`: selector, trim, polarity. -/
def State.inputAt (s : State) (i j : Nat) : Int :=
  let w := s.enp (keyIS i 0)
  let f := s.enp (keyIS i 4)
  let dom := w.fld 1 2
  let a := (s.readFeed (f.fld 0 15) dom).1.getD j 0
  let b := (s.readFeed (f.fld 16 15) dom).1.getD j 0
  let wb := weightB (w.fld 6 1) (selPos (s.inS i).c (w.fld 16 16) (w.bit 4) j) (w.fld 16 16) (w.bit 4)
  let x := s.gained (s.inS i).trim dom j (narrow (a * (unity - wb) + b * wb) 27)
  if w.bit 3 then sat32 (-x) else x

/-- What a delay buffer gives `d` samples before sample `j` of a block that starts with the sample of index `n`, `fill` samples
having been written before: a sample of the block `x` itself, zero for a position not written, or what memory holds. -/
def State.delayedBy (s : State) (buf : DlyBuf) (d n fill : Nat) (x : Nat → Int) (j : Nat) : Int :=
  if d ≤ j then x (j - d) else if fill + j < d then 0 else (s.word (buf.addr (n + j + buf.len - d))).toInt

/-- The words that a block of `len` samples leaves in a delay buffer. -/
def delayWords (buf : DlyBuf) (n len : Nat) (x : Nat → Int) : List (Nat × Word) :=
  (List.range len).map (fun j => (buf.addr (n + j), Word.ofInt (x j)))

/-- The state with no block in the processing stage beyond what `f` lists, right after reset with the engine started. -/
def State.running (sctr : Nat) (rx outs : Tbl (List Int)) (released : Bool) : State :=
  { State.reset with
    started := true, sctr := sctr
    engine := { State.reset.engine with rx := rx, outs := outs, abx := { State.reset.engine.abx with released := released } } }

/-- R137 to R140: a section with coefficients `c` takes sample `x` from histories `h` to `h2` and puts out `y`; `sat`: it saturates. -/
def SectionStep (c : Coefs) (h h2 : SecHist) (x y : Int) (sat : Prop) : Prop :=
  ∃ p1 p2 q : Int, nearest (c.a1 * h.y1) 29 p1 ∧ nearest (c.a2 * h.y2) 29 p2 ∧
    let acc := c.b0 * x + c.b1 * h.x1 + c.b2 * h.x2 - p1 - p2
    h2.x1 = x ∧ h2.x2 = h.x1 ∧ h2.y2 = h.y1 ∧ h2.y1 = max (-(2 ^ 63)) (min (2 ^ 63 - 1) acc) ∧
    nearest h2.y1 29 q ∧ y = max (-(2 ^ 31)) (min (2 ^ 31 - 1) q) ∧ (sat ↔ h2.y1 ≠ acc ∨ y ≠ q)

/-- A block through a section: the samples `xs` in order from the histories `h` to `h2`, `ys` out. -/
def SectionBlock (c : Coefs) (h h2 : SecHist) (xs ys : List Int) (sat : Prop) : Prop :=
  ∃ (hs : Nat → SecHist) (beyond : Nat → Prop), hs 0 = h ∧ hs xs.length = h2 ∧ ys.length = xs.length ∧
    (∀ j, j < xs.length → SectionStep c (hs j) (hs (j + 1)) (xs.getD j 0) (ys.getD j 0) (beyond j)) ∧
    (sat ↔ ∃ j, j < xs.length ∧ beyond j)

/-- `t` with what events leave taken from `s`. -/
def State.eventsOf (t s : State) : State := { t with evq := s.evq, evtLost := s.evtLost, zk := s.zk, msgOut := s.msgOut }

/-- Two states that differ in the engine, in SYS_SAT_FLAGS and in what one event (where `b` holds) leaves. -/
def OnlyEngineAndEvent (s t : State) (b : Bool) (code payload : Nat) : Prop :=
  Raised s t b code payload ∧ { t.eventsOf s with engine := s.engine, sat := s.sat } = s

/-- R95: a bead of a rod's main range that a SUPERSEDE bead of its amendment range cancels. -/
def State.cancels (s : State) (e : RodEntry) (src : Nat) : Prop :=
  ∃ i, i < e.acount ∧ (s.bead s.engine.abx.amdEng true (e.afirst + i)).supersede = true ∧
    (s.bead s.engine.abx.amdEng true (e.afirst + i)).src = src

open Classical in
/-- R96: the exact sum of a piece at sample `n`: source sample times gain of every bead whose gain is applied. -/
noncomputable def State.pieceAt (s : State) (e : RodEntry) (p : Bool × Nat × Nat) (n : Nat) : Int :=
  sumTo (p.2.2 - p.2.1) (fun i =>
    let b := s.bead (if p.1 then s.engine.abx.amdEng else s.engine.abx.mainEng) p.1 (p.2.1 + i)
    if p.1 = false ∧ s.cancels e b.src then 0
    else (s.slotBlock b.src).getD n 0 * rampGain b.frm b.tgt (rampVal s.engine.rampsEng b.ramp ((s.rampTimes e.dom).getD n 0)))

/-- R96, R98: rod `r` has got a sum, wrapped to 72 bits, for every sample: the source slot has it narrowed, and where a
narrowing saturates its bit of the saturation map and SYS_SAT_FLAGS.ABX rise, with event 0x0C12 for the first after a
swap. `a` is the matrix's record as it otherwise stands. -/
def RodWritten (s t : State) (r : Nat) (sums : List Int) (a : Abacus) : Prop :=
  let xs := sums.map (wrapS 72)
  let b := xs.any (fun x => narrowSats x 27)
  OnlyEngineAndEvent s t (b && s.engine.abx.satArmed) 0x0C12 (s.rodLedger r) ∧
  t.engine = { s.engine with slots := t.engine.slots, abx := t.engine.abx } ∧
  (∀ m, Tbl.find t.engine.slots m = if m = 2048 + r then some (xs.map (fun x => narrow x 27)) else Tbl.find s.engine.slots m) ∧
  t.engine.abx = { a with satmap := t.engine.abx.satmap, satArmed := s.engine.abx.satArmed && !b } ∧
  (∀ n, Tbl.getD t.engine.abx.satmap n 0 = if b ∧ n = r / 32 then
    Tbl.getD s.engine.abx.satmap n 0 ||| Word.ofNat (2 ^ (r % 32)) else Tbl.getD s.engine.abx.satmap n 0) ∧
  t.sat = if b then s.sat ||| 1 else s.sat

/-! ## Terms of the statements about registers and parameters -/

/-- `a` is a word-aligned register address of the parameter `key` as initiator `i` sees it (R85, R121, R153). -/
def ParamAt (s : State) (i : Init) (a key : Nat) : Prop :=
  (∃ n, n < 9 ∧ a = 0x10038100 + 4 * n ∧ key = keyIS ((s.iniReg 0x10038000 i).fld 0 11) (4 * n)) ∨
  (∃ n, n < 7 ∧ a = 0x10038200 + 4 * n ∧ key = keyOS ((s.iniReg 0x10038000 i).fld 16 10) (4 * n)) ∨
  (∃ n, 1 ≤ n ∧ n < 8 ∧ a = 0x10030000 + 4 * n ∧ key = keySec ((s.iniReg 0x10030000 i).fld 0 16) (4 * n)) ∨
  (∃ n, key = a ∧ ((n < 1280 ∧ a = 0x10039000 + 4 * n) ∨ (n < 512 ∧ a = 0x10001000 + 4 * n) ∨
    (1 ≤ n ∧ n < 4096 ∧ (a = 0x10020000 + 4 * n ∨ a = 0x10024000 + 4 * n))))

/-- The word a register holds after software wrote `v` to it: the bits under `m` are the register map's RW bits. -/
def rwTakes (old v m : Word) : Word := (old &&& ~~~m) ||| (v &&& m)

/-- The events, the fault list and the messages for other nodes stand in `t` as in `r`. -/
def SameEvents (r t : State) : Prop :=
  t.evq = r.evq ∧ t.evtLost = r.evtLost ∧ t.msgOut = r.msgOut ∧ t.zk.alarm = r.zk.alarm

/-- The commit unit refuses with a status and a reason (R125, R126): no commit is armed. -/
def Commit.refused (c : Commit) (status reason : Nat) : Commit :=
  { c with armed := none, confirm := false, cancelled := false, state := 3, status := status, reason := reason }

/-- A commit resolves at this node alone: no change of Zekor's and no tree commit waits for it, and the device is not seated. -/
def State.unitAlone (s : State) : Prop := s.zk.change = none ∧ s.csc.tree.mine = false ∧ s.cus.own ≠ 2

/-- R208: weight `k` of the four-fold convolution of length-`l` boxcars. -/
def boxAt (l k : Nat) : Int :=
  sumTo l (fun a => sumTo l (fun b => sumTo l (fun c => if a + b + c ≤ k ∧ k < a + b + c + l then 1 else 0)))

/-- The detectors of chain `c` after an output `x` that does not end a window (R220, R221, R222): `old` before, `new` after. -/
def Detected (s : State) (c : Nat) (x : Int) (old new : Chain) : Prop :=
  let a := x.natAbs
  let hold := s.fldN (0x10050010 + 0x40 * c) 0 20
  let dk := (s.reg (0x10050014 + 0x40 * c)).toNat
  let d : Int := (a : Int) - old.env
  let k := if 0 < d then (s.reg (0x10050028 + 0x40 * c)).toNat else (s.reg (0x1005002C + 0x40 * c)).toNat
  (old.pk ≤ a → new.pk = a ∧ new.hold = hold) ∧
  (a < old.pk → 0 < old.hold → new.pk = old.pk ∧ new.hold = old.hold - 1) ∧
  (a < old.pk → old.hold = 0 → nearest (old.pk * dk) 32 new.pk ∧ new.hold = 0) ∧
  new.acc = old.acc + a * a ∧ new.cnt = old.cnt + 1 ∧ new.ms = old.ms ∧ new.seq = old.seq ∧
  nearest (d * k) 32 (new.env - old.env)

/-- Chain `c` of a state whose chain was `ch` has put out `x` at its input `i` (R207, R215, R216): `s` before, `t` after; a
saturated output sets the chain's flag and SYS_SAT_FLAGS.FDC; at L F = 64 it is the feed's value at SCTR floor(i / 64), where the
block being received holds that SCTR. -/
def ChainPutsOut (s t : State) (c i : Nat) (ch : Chain) (x : Int) (sat : Bool) : Prop :=
  let feed := if c < 32 then 544 + c else 512 + (c - 32)
  let place := i / 64 - s.sctr
  let fed := s.chRate c = 64 ∧ s.sctr ≤ i / 64 ∧ i / 64 < s.sctr + 24
  Detected s c x ch (t.chain c) ∧
  { t.chain c with pk := ch.pk, hold := ch.hold, acc := ch.acc, cnt := ch.cnt, env := ch.env } =
    { ch with settling := false, sat := ch.sat || sat } ∧
  (∀ d, d ≠ c → t.chain d = s.chain d) ∧ { t.fdc with ch := s.fdc.ch, now := s.fdc.now } = s.fdc ∧
  (∀ f, f ≠ feed ∨ ¬fed → Tbl.getD t.engine.rx f [] = Tbl.getD s.engine.rx f []) ∧
  (fed → (Tbl.getD t.engine.rx feed []).length = place + 1 ∧ (Tbl.getD t.engine.rx feed []).getD place 0 = x ∧
    ∀ k, k < place → (Tbl.getD t.engine.rx feed []).getD k 0 = (Tbl.getD s.engine.rx feed []).getD k 0) ∧
  { t with fdc := s.fdc, engine := { t.engine with rx := s.engine.rx }, sat := s.sat } = s

/-- Two states that differ in port `p`, in the latest AUDIO tick known, in SYS_SAT_FLAGS and in what events leave. -/
def OnlyPort (p : Nat) (s t : State) : Prop :=
  { t.eventsOf s with ports := s.ports, sat := s.sat } = s ∧ { t.ports with port := s.ports.port, tick := s.ports.tick } = s.ports ∧
    ∀ q, q ≠ p → t.port q = s.port q

/-- The S32 value that slot `i` of a received frame brings (R54). -/
def State.slotIn (s : State) (p : Nat) (words : List Int) (i : Nat) : Int :=
  rxConvert (s.ptWord p) (wrapS (s.ptWord p) (words.getD i 0))

/-- R245: the `j`-th sample after an entry into RUN: floor(x j / 24) for the first 24. -/
def faded (j : Nat) (x : Int) : Int := if j < 24 then (x * j) / 24 else x

/-- What DOUT of port `p` drives in a slot for the S32 value `x` (R54, R249): none where it is high-impedance. -/
def State.slotOut (s : State) (p i : Nat) (x : Int) : Option Int :=
  if (s.port p).maskLiveTx.bit i then some (txConvert (s.ptWord p) x)
  else if s.bitN (0x10060000 + 0x80 * p) 18 then none else some 0

/-- What DOUT of port `p` drives in a slot that sends zero (R243, R244, R249). -/
def State.zeroOut (s : State) (p i : Nat) : Option Int :=
  if (s.port p).maskLiveTx.bit i then some 0 else if s.bitN (0x10060000 + 0x80 * p) 18 then none else some 0

/-- A command of a port has come at AUDIO tick `n`. -/
def State.atTick (s : State) (n : Nat) : State := { s with ports := { s.ports with tick := max s.ports.tick n } }

/-- Port `p` has taken a frame in RUN as receive sample `n`, its slots faded in, and transmitted sample `m` (R241, R244, R245). -/
def FrameTaken (s t : State) (p n m : Nat) (words : List Int) (phi : Int) : Prop :=
  let x := s.port p
  let j := n - x.runAt
  let base := s.domBase (s.ptDom p)
  let out := fun (i : Nat) => faded j (
    let key := 0x20000 + (32 * p + i)
    if base ≤ m then (Tbl.getD s.engine.tx key []).getD (m - base) 0
    else (Tbl.getD s.engine.txPrev key []).getD (m + s.blockLen (s.ptDom p) - base) 0)
  (t.port p).next = n + 1 ∧ (t.port p).repeated = false ∧ (t.port p).phi = phi ∧ (t.port p).st = .run ∧
  (∃ r : PortSample, (t.port p).recv = x.recv ++ [r] ∧ r.n = n ∧ r.ok = true ∧ r.mask = x.maskLive ∧ r.phi = some phi ∧
    r.vals.length = s.ptSlots p ∧ ∀ i, i < s.ptSlots p → r.vals.getD i 0 = faded j (s.slotIn p words i)) ∧
  (t.port p).dout.length = s.ptSlots p ∧
  (∀ i, i < s.ptSlots p → (t.port p).dout[i]? = some (s.slotOut p i (out i))) ∧
  { t.port p with next := x.next, repeated := x.repeated, phi := x.phi, recv := x.recv, lastVals := x.lastVals, dout := x.dout,
                  clip := x.clip, inFrame := x.inFrame } = { x with lastFrame := some n, doutPrev := x.dout.getLast?.join } ∧
  (t.sat = s.sat ∨ t.sat = s.sat ||| 0x20) ∧ OnlyPort p s t ∧ SameEvents s t

/-- R272: the state of channel `n` after a carrier period start without a clear, trip or resumption. -/
def State.brNext (s : State) (n : Nat) : BrState :=
  let c := s.br n
  let en := s.bitN (0x10070000 + 0x40 * n) 0 && !c.offByClear
  match c.st with
  | .parked => if en then .cmUp else .parked
  | .cmUp => if !en then .lvlDn else if c.n ≤ c.i then .lvlUp else .cmUp
  | .lvlUp => if !en then .lvlDn else if c.lam = 65536 then .run else .lvlUp
  | .run => if en then .run else .lvlDn
  | .lvlDn => if en then (if c.n ≤ c.i then .lvlUp else .cmUp) else if c.lam = 0 then .cmDn else .lvlDn
  | .cmDn => if en then .cmUp else if c.n = 0 ∨ 128 * c.i < c.n then .parked else .cmDn
  | .trip => if !en then .parked else if 384000 ≤ c.tripN ∧ s.bitN (0x10070000 + 0x40 * n) 1 then .retry else .trip
  | .retry =>
    if !en then .lvlDn
    else if c.step = .dwell ∧ s.fldN 0x10072000 16 10 * 384 ≤ c.dwellN then
      (if c.verdict = 2 then (if c.retries + 1 < 3 then .trip else .latched) else .lvlUp)
    else .retry
  | .latched => if !en then .parked else if c.clrReq then .retry else .latched

/-- Channel `n` runs undisturbed (R264, R268, R274 row 8): seated, enabled, in RUN at full level and in mode T, its bank neither
cleared nor muted, no clock error, tone or range change. -/
def State.brRuns (s : State) (n : Nat) : Prop :=
  let c := s.br n
  let b := s.bank (n / 8)
  s.cus.own = 2 ∧ s.bitN (0x10070000 + 0x40 * n) 0 = true ∧ c.offByClear = false ∧ c.ended = false ∧ c.st = .run ∧ c.lam = 65536 ∧
  c.lamTo = 65536 ∧ c.lamM ≤ c.lamI ∧ c.modeS = false ∧ c.tone = false ∧ c.tonePos = 0 ∧ c.ranging = .idle ∧
  c.row = .pattern ∧ c.runN < 3840000 ∧ b.clear = false ∧ b.mute = false ∧ b.modeS = false ∧ s.mod.clkErr = false ∧
  (n % 8 = 0 → s.bitN (0x10071000 + 0x20 * (n / 8)) 2 = false)

/-- A failed retry of channel `n`, whose record is `c` (R272, R280). -/
def failsRetry (n : Nat) (c : BrCh) (s : State) : State :=
  if c.retries + 1 < 3 then
    (s.setBr n { c with st := .trip, retries := c.retries + 1, errs := [], tripN := 0, wA := 0, wB := 0, runN := 0 }).raise
      0x0204 (s.ledger 9 n)
  else (s.setBr n { c with st := .latched, retries := 3, wA := 0, wB := 0, runN := 0 }).raise 0x0203 (s.ledger 9 n)

/-- R296: Z of a latched window over aV × GI; none is infinite. -/
def supZ (m : MonCh) : Option Rat :=
  let l := fun (k : Nat) => m.latched.getD k 0
  if m.cls = 1 then (if l 1 ≤ 0 then none else some ((l 0 : Rat) / (l 1 : Rat))) else magRatio (l 4) (l 5) (l 6) (l 7)

/-- R296: OUT or IN against the reference of the window's class; none where there is no reference. -/
def supOut (m : MonCh) : Option Bool :=
  let win : Rat := match m.winW with | none => 1 / 5 | some w => Config.supFrac w
  (if m.cls = 1 then m.zrefP else m.zrefT).map (fun r => match supZ m with
    | none => true
    | some z => decide (z < r * (1 - win) ∨ r * (1 + win) < z))

/-- R297: LINE_FAULT's state, the run and whether the state changes, after a valid scan window. -/
def supLine (m : MonCh) : Bool × Option Nat × Bool :=
  match supOut m with
  | none => (m.lineFault, m.runAt, false)
  | some out =>
    if out = m.lineFault then (m.lineFault, none, false)
    else match m.runAt with
      | none => (m.lineFault, some m.endAt, false)
      | some t => if t + 480000 ≤ m.endAt then (out, none, true) else (m.lineFault, some t, false)

/-- R298: OUTPUT_FAULT's state, the run of windows and whether the state changes, for a residual above the threshold or not. -/
def supRead (m : MonCh) (above : Option Bool) : Bool × Nat × Bool :=
  match above with
  | none => (m.outFault, m.rbRun, false)
  | some a =>
    if a = m.outFault then (m.outFault, 0, false)
    else if m.rbRun < 2 then (m.outFault, m.rbRun + 1, false) else (a, 0, true)

/-- R295: the CAUSE of a scan slot's window. -/
def State.slotCause (s : State) (n : Nat) : Nat :=
  let m := s.monC n
  let runs := fun (c : Nat) => s.chEn c && decide (s.chL c = 16) && !s.chFir c && !s.chErr c
  if m.lost then 3
  else if !(runs (2 * (n / 4)) && runs (2 * (n / 4) + 1)) then 4
  else if m.notRun then 1
  else if (s.br n).tone then 0
  else if m.sums.getD 2 0 < (s.regN 0x10080004 * 2 ^ 30 * 47616 : Nat) then 2 else 0

/-- R309: the input that a slot of the SAR schedule converts. -/
def sarSlotInput (x : Sar) : Nat :=
  if x.frame = 124 ∧ x.slot = 2 * x.sup % 8 then 9
  else if x.frame = 124 ∧ x.slot = (2 * x.sup + 1) % 8 then (if x.sup % 15 = 0 then 8 else 9 + x.sup % 15)
  else x.slot

/-- R310: battery current in A, positive while charging. -/
def State.amps (s : State) : Rat :=
  (((Tbl.getD s.sar.codes 9 (0, 0)).1 : Rat) - ((s.fldN 0x10090004 0 12 : Nat) : Rat)) * s.rsvPar 5 / 1000

/-- R314: the charge after a second, the correction at rest apart. -/
def State.chargeNext (s : State) : Rat :=
  max 0 (min (s.rsvPar 1) (s.zk.rsv.q + (wrapS 48 (s.sar.qacc - s.zk.rsv.qacc) : Rat) * (s.rsvPar 5 / 1000) / 1000 / 3600))

/-- R314: seconds at rest, this one included. -/
def State.restNext (s : State) : Nat :=
  if absQ ((wrapS 48 (s.sar.qacc - s.zk.rsv.qacc) : Rat) * (s.rsvPar 5 / 1000) / 1000) < s.rsvPar 1 / 100 then s.zk.rsv.rest + 1 else 0

/-- R318: M from the charge, the duty owed and the standby power; none is infinite. -/
def State.marginOf (s : State) (r : Reserve) (ps : Rat) : Option Rat :=
  let avail := max 0 (r.q - s.rsvPar 2 * s.rsvPar 1)
  let hs : Rat := if r.lost = false then s.rsvPar 7 else if r.alarmSeen then 0 else max 0 (s.rsvPar 7 - (r.lostFor : Rat) / 3600)
  let ta : Rat := if r.lost ∧ r.alarmSeen then max 0 (s.rsvPar 8 / 60 - (r.alarmFor : Rat) / 3600) else s.rsvPar 8 / 60
  let req := (ps * hs + s.alarmW * ta) / s.rsvPar 3
  if req = 0 then none else some (avail / req)

/-- R319: the next Reserve state from the seconds for which each condition has held. -/
def reserveNext (st low crit back : Nat) (batLow : Bool) : Nat :=
  if st < 2 ∧ (10 ≤ crit ∨ batLow = true) then 2 else if st = 0 ∧ 10 ≤ low then 1
  else if st = 1 ∧ 60 ≤ back then 0 else if st = 2 ∧ 60 ≤ back then 1 else st

/-- R322: 60 s ahead, from a heatsink temperature. -/
def State.ahead (s : State) (b : Nat) (hs : Rat) : Rat :=
  hs + (s.rsvPar 23 + s.bankPower b * s.rsvPar 21 - hs) * (1 - expNeg (60 / s.rsvPar 22))

/-- R330: a condition that keeps a reference slot LOST: SWFAIL, slot 5's upstream cascade port down, slot 6's port without a
frame clock. -/
def State.slotDown (s : State) (n : Nat) : Prop :=
  s.refBit (0x100A0100 + 0x20 * n) 4 = true ∨
  (n = 5 ∧ ¬(s.fldN 0x100E0000 0 2 = 2 ∧ (Tbl.getD s.csc.port 0 {}).st = 3)) ∨
  (n = 6 ∧ (s.port (s.refFld 0x100A01C0 8 4)).st ≠ .acquire ∧ (s.port (s.refFld 0x100A01C0 8 4)).st ≠ .run)

/-- R329: the phase of an event of slot `n`, reduced to half its period E on each side. -/
def State.slotPhase (s : State) (n : Nat) (phase : Int) : Int :=
  let e : Nat := match n with
    | 4 => 32768
    | 6 => match s.fldN (0x10060000 + 0x80 * s.refFld 0x100A01C0 8 4) 12 2 with
      | 1 => 32768 / s.hRatio
      | 2 => 98304
      | _ => 32768
    | 7 => 1572864000
    | _ => 786432
  (phase + (e / 2 : Nat)) % (e : Int) - (e / 2 : Nat)

/-- Two states that differ in one reference slot, which is `x`, and in what one event (where `b` holds) leaves. -/
def SlotBecomes (s t : State) (n : Nat) (x : RefSlot) (b : Bool) (code : Nat) : Prop :=
  t.refSlot n = x ∧ (∀ m, m ≠ n → t.refSlot m = s.refSlot m) ∧ SameEvents (s.raiseIf b code (s.ledger 0x0C n)) t ∧
  { t.eventsOf s with ref := s.ref } = s ∧ { t.ref with slot := s.ref.slot } = s.ref

/-- R348, R349: time base `n` after `k` ticks. -/
def State.tbAfter (s : State) (k n : Nat) : TimeBase :=
  let x := s.tb n
  let a : Int := min x.slew.natAbs (k * (x.inc / 1024))
  if s.bitN (0x100B0000 + 0x40 * n) 0 then
    { x with
      val := ((x.val : Int) + (k * (x.inc * 2 ^ 16 + x.incf) : Nat) + (if x.slew < 0 then -a else a) * 2 ^ 16).toNat
      slew := x.slew - (if x.slew < 0 then -a else a) }
  else x

/-- R349: ADJ of base `n` after `k` ticks: a slew's remainder in ns, its fraction dropped, until ADJ is written again. -/
def State.adjAfter (s : State) (k n : Nat) : Word :=
  let x := s.tbAfter k n
  if x.slew = 0 ∨ x.adjNew = true then s.reg (0x100B0024 + 0x40 * n) else Word.ofInt (x.slew.tdiv (2 ^ 24))

/-- R347: the value in units of 2^-40 ns that a seconds pair and a nanoseconds register give. -/
def State.timeAt (s : State) (lo hi ns : Nat) : Nat :=
  (s.regN lo + s.fldN hi 0 16 * 2 ^ 32) * 1000000000 + min 999999999 (s.fldN ns 0 30)

/-- The four time bases have run for `k` ticks, but for base `n`, which is `x`. -/
def BasesRun (s t : State) (k n : Nat) (x : TimeBase) : Prop :=
  t.tb n = x ∧ (∀ m, m < 4 → m ≠ n → t.tb m = s.tbAfter k m) ∧
  { t.tbs with tb := s.tbs.tb, stepped := s.tbs.stepped } = { s.tbs with now := s.tbs.now + k }

/-- R357: comparator `x` after a fire at `now` ns with period `p`: one-shot, next period, or past the periods it skips. -/
def fired (x : Trigger) (now p : Nat) : Trigger :=
  if p = 0 then { x with armed := false }
  else
    let p := max 1000 p
    if now < x.target + p then { x with target := x.target + p }
    else
      let k := (now - (x.target + p)) / p + 1
      { x with target := x.target + p + k * p, missed := min 0xFFFFFFFF (x.missed + k) }

/-- Counter `i` of MAC `m` one up, held at its top (R387). -/
def State.counted (s : State) (m i : Nat) : State :=
  let x := s.mac m
  let c := Tbl.getD x.cnt i 0
  s.setMac m { x with cnt := Tbl.set x.cnt i (if c < 0xFFFFFFFF then c + 1 else c) 0 }

/-- R366: the length limit of a frame with or without a tag. -/
def State.limitOf (s : State) (m : Nat) (tag : Bool) : Nat :=
  min 9022 (max 1518 (min 9022 (s.fldN (0x100C000C + 0x4000 * m) 0 14)) + (if tag then 4 else 0))

/-- The destination address of a frame. -/
def frameDest (bs : List Byte) : Nat := b16 bs 0 * 2 ^ 32 + b32 bs 2

/-- R365, R387: MAC `m` accepts the frame's destination: any, a group's, or its own. -/
def State.takesDest (s : State) (m : Nat) (bs : List Byte) : Prop :=
  s.bitN (0x100C0000 + 0x4000 * m) 10 = true ∨ (bs.getD 0 0).getLsbD 0 = true ∨ frameDest bs = s.station m

/-- R365: the counter of a frame of 14 bytes or more: RX_RUNT, RX_OVER, RX_FCS or RX_OK. -/
def State.rxCounter (s : State) (m : Nat) (f : EthFrame) : Nat :=
  if f.bytes.length < 64 then 2 else if s.limitOf m (hasTag f.bytes) < f.bytes.length then 3
  else if f.fcsOk = false ∨ f.rxErr = true then 4 else 0

/-- R365, R381: a frame that goes to RXQ whole: accepted, and good without being control or a stream's, or bad and delivered. -/
def State.toRxq (s : State) (m : Nat) (f : EthFrame) : Prop :=
  s.bitN (0x100C0000 + 0x4000 * m) 0 = true ∧ 14 ≤ f.bytes.length ∧ s.takesDest m f.bytes ∧
  ((s.rxCounter m f = 0 ∧ etherType f.bytes ≠ 0x8808 ∧ s.srxFind m (f.bytes.take (f.bytes.length - 4)) = []) ∨
   (s.rxCounter m f ≠ 0 ∧ s.bitN (0x100C0000 + 0x4000 * m) 8 = true))

/-- R390, R394: the lanes of port `p` allow ALIGNED: locks, at most 64 ns of skew, one SEQ in the last whole round of markers, one
profile, and four distinct numbers. -/
def State.lanesAligned (s : State) (p : Nat) : Prop :=
  (∀ i, i < 4 → (s.lane (4 * p + i)).lock = true ∧ (s.lane (4 * p + i)).marker = true ∧ (s.lane (4 * p + i)).skew ≤ 640 ∧
    s.bitN (0x100D0000 + 0x40 * (4 * p + i)) 0 = s.bitN (0x100D0000 + 0x40 * (4 * p)) 0) ∧
  (∀ k, k < 4 → ∃ i, i < 4 ∧ (s.lane (4 * p + i)).logical = k) ∧ (s.cp p).seqOk = true

/-- R403: port `p` is OFF unless it is enabled and the node has a role that is not refused; then it is in TRAINING while its lanes are
not aligned, and in ALIGNED or beyond while they are. -/
def PortFollows (s t : State) (p : Nat) : Prop :=
  let on := t.bitN (0x100E0100 + 0x40 * p) 0 = true ∧ t.cscRole ≠ 0 ∧ t.csc.cfgErr = false
  (¬on → (t.cp p).st = 0) ∧ (on → ¬t.lanesAligned p → (t.cp p).st = 1) ∧
  (on → t.lanesAligned p → (t.cp p).st = if (s.cp p).st ≤ 1 then 2 else (s.cp p).st)

/-- Lane `n` becomes `x`; the state of its port follows; every other lane and port keeps its state. -/
def LaneBecomes (s t : State) (n : Nat) (x : Lane) : Prop :=
  t.lane n = x ∧ (∀ k, k ≠ n → t.lane k = s.lane k) ∧ (n < 12 → PortFollows s t (n / 4)) ∧
  (∀ p, p ≠ n / 4 → t.cp p = s.cp p) ∧ t.regs = s.regs ∧ t.mem = s.mem

/-- R394: lane `n` has had its marker of a round, a valid one or none: it becomes `x`; when each of its port's four lanes has had its
turn with a valid one their SEQ are compared. -/
def MarkerTurn (s t : State) (n : Nat) (x : Lane) (valid : Bool) : Prop :=
  let p := n / 4
  let turn := fun (i : Nat) => if i = n then some valid else if (s.lane n).turn.isSome then none else (s.lane i).turn
  let whole := ∀ i, i / 4 = p → (turn i).isSome = true
  let good := ∀ i, i / 4 = p → turn i = some true
  let equal := ∀ i, i / 4 = p → (t.lane i).seq = (t.lane n).seq
  let fell := (t.cp p).st < 2 ∧ (t.cp p).st ≠ (s.cp p).st
  { t.lane n with turn := x.turn } = x ∧ (∀ k, k ≠ n → { t.lane k with turn := (s.lane k).turn } = s.lane k) ∧
  (12 ≤ n → ∀ k, (t.lane k).turn = (s.lane k).turn) ∧
  (n < 12 → PortFollows s t p ∧ (∀ i, i / 4 ≠ p → t.lane i = s.lane i) ∧
    (whole → (¬good ∨ equal) → ∀ i, i / 4 = p → (t.lane i).turn = none) ∧
    (good → ¬equal → ∀ i, i / 4 = p → (t.lane i).turn = if i = n then some true else none) ∧
    (¬whole → ∀ i, i / 4 = p → (t.lane i).turn = turn i) ∧
    (good → ((t.cp p).seqOk = true ↔ equal ∧ ¬fell)) ∧ (¬good → ((t.cp p).seqOk = true ↔ (s.cp p).seqOk = true ∧ ¬fell))) ∧
  (∀ q, q ≠ p → t.cp q = s.cp q) ∧ t.regs = s.regs ∧ t.mem = s.mem

/-- R404: the REASON for which a frame's sender is refused. -/
def State.refuses (s : State) (p : Nat) (f : CascadeFrame) : Nat :=
  let up := decide (s.cscRole = 2 ∧ p = 0)
  if f.up = up then 1
  else if f.map.testBit s.node = true ∨ (∃ q ∈ List.range 3, q ≠ p ∧ (s.cp q).map &&& f.map ≠ 0) then 2
  else if up = true ∧ 5 < f.depth + 1 then 3
  else if f.version ≠ 1 then 4 else 0

/-- R399: the block whose boundary is nearest to T0 − L of a frame that comes now. -/
def State.blockOf (s : State) (p : Nat) (f : CascadeFrame) : Int :=
  let own := f.t0 % 786432
  let far := if f.hcrc then f.meas % 2 ^ 20 else (s.cp p).peerMeas
  let l : Int := ((own + far : Nat) : Int) / 2 + (s.reg (0x100E0114 + 0x40 * p)).toInt
  (s.sctr / 24 : Nat) + ((own : Int) - l + 393216) / 786432

/-- R399: the block in which a frame is used: the one in progress, or the next. -/
def State.usedIn (s : State) (p : Nat) (f : CascadeFrame) : Nat := max (s.sctr / 24) (s.blockOf p f).toNat

/-- R399: the frame's SCTR is that of its block, and it came in time. -/
def State.inPlace (s : State) (p : Nat) (f : CascadeFrame) : Prop := (f.sctr : Int) = 24 * s.blockOf p f ∧ f.inTime = true

/-- R399: a frame of block `j`, or its absence, has been counted at port `p`. -/
def State.blockCounted (s : State) (p j : Nat) : Prop := ∃ k, (s.cp p).handled = some k ∧ j ≤ k

/-- R403: the state of a port after a block without an accepted frame. -/
def missedState (x : CscPort) : Nat := if x.st = 3 ∧ 4 ≤ x.missRun + 1 then 2 else x.st

/-- R420, R421: a seated device gives up: it shows 11 with its cause, its seal is written and the escrow port released, its latches
hold, and its outputs carry zeros. -/
def GaveUp (s t : State) (cause fwcode : Nat) : Prop :=
  t.cus.own = 3 ∧ t.cus.cause = cause ∧ t.cus.fwcode = fwcode ∧
  t.cus.giveUps = (if s.cus.giveUps < 0xFFFF then s.cus.giveUps + 1 else s.cus.giveUps) ∧
  t.cus.latch = true ∧ t.cus.escDrive = false ∧ t.cus.guard = false ∧
  (∃ z : Seal, (if s.cus.roleB then t.esc.sealB else t.esc.sealA) = some z ∧ z.cause = cause ∧ z.fwcode = fwcode ∧
    z.sctr = s.sctr ∧ z.tb = s.tbs.epochTb ∧ z.bridges = s.mod.ch.map (fun e => (e.1, e.2.st, e.2.w))) ∧
  (if s.cus.roleB then t.esc.sealA = s.esc.sealA else t.esc.sealB = s.esc.sealB) ∧ t.esc.journal = s.esc.journal ∧
  t.engine.tx = [] ∧ t.zk.change = none ∧ t.zk.remote = [] ∧ t.mod = s.mod ∧ t.mem = s.mem ∧ t.sctr = s.sctr

/-- R547, R549: every island but VAULT is reset: what is kept is the VAULT island's, main flash and escrow memory. -/
def IslandsReset (s t : State) : Prop :=
  t.mem = s.mem.filter (fun e => decide (0xC0000000 ≤ e.1)) ∧ t.started = false ∧ t.sctr = 0 ∧ t.engine = State.reset.engine ∧
  t.mod = State.reset.mod ∧ t.tly = State.reset.tly ∧ t.live = State.reset.live ∧ t.next = State.reset.next ∧ t.evq = [] ∧
  (∀ a, t.reg a = if (0x100F0000 ≤ a ∧ a < 0x10100000) ∨ (0x10150000 ≤ a ∧ a < 0x10160000) then s.reg a else regReset a) ∧
  t.esc.journal = s.esc.journal ∧ t.zk.scenes = s.zk.scenes ∧ t.zk.messages = s.zk.messages ∧ t.zk.change = none

/-- The device has gone to Vault: SUPEN falls (R547). -/
def ToVault (s t : State) : Prop := IslandsReset s t ∧ t.pwr.phase = .entering ∧ t.cus.own = 0 ∧ t.pwr.wakeSeen = none

/-- R419: a device that gives up to a partner at 01 has let its pins go, with its seal written. -/
def LetGo (s t : State) (cause : Nat) : Prop :=
  ToVault s t ∧ t.cus.latch = false ∧ t.cus.cause = cause ∧
  ∃ z : Seal, (if s.cus.roleB then t.esc.sealB else t.esc.sealA) = some z ∧ z.cause = cause ∧ z.sctr = s.sctr

/-- R420, R421: a give-up that has ended, by what the partner shows. -/
def GivenUp (s t : State) (cause fwcode : Nat) : Prop :=
  (s.cus.partner ≠ 1 → GaveUp s t cause fwcode) ∧ (s.cus.partner = 1 → LetGo s t cause)

/-- R421: a heartbeat write with a good CRC. -/
def GoodBeat (ws : List Word) : Prop := ws.length = 8 ∧ ws.getD 7 0 = crc32 (ws.take 7)

/-- R422: two consecutive heartbeat writes with good CRCs. -/
def Snooped (writes : List (List Word)) : Prop :=
  ∃ i a b, writes[i]? = some a ∧ writes[i + 1]? = some b ∧ GoodBeat a ∧ GoodBeat b ∧ b.getD 6 0 = a.getD 6 0 + 1

/-- R422: a device at 00 or 01 that may drive the escrow port, `absent` milliseconds after its partner last showed a code. -/
def State.mayDrive (s : State) (absent : Nat) : Prop :=
  s.cus.paired = false ∨ s.cus.partner = 3 ∨ s.cus.sawLeave = true ∨
    (s.cus.partner = 0 ∧ (s.cus.selfRestarted = true ∨ (s.pwr.cold = true ∧ (s.cus.roleB = true → 500 ≤ absent))))

/-- What stands in escrow for a resume: a partner's record, or the device's own. -/
def State.record (s : State) (esc : Option Escrow) : Escrow :=
  match esc with
  | some e => if s.cus.paired = true ∧ s.cus.selfRestarted = false then e else s.esc
  | none => s.esc

/-- The device waits with only what lies outside it: main flash, escrow memory, and the anti-rollback counter; everything else is as at reset
(R544, R549). -/
def NothingKept (s t : State) : Prop :=
  t.mem = s.mem.filter (fun e => decide (0xC0000000 ≤ e.1)) ∧ t.regs = [] ∧ t.live = State.reset.live ∧ t.next = State.reset.next ∧
  t.engine = State.reset.engine ∧ t.mod = State.reset.mod ∧ t.sctr = 0 ∧ t.started = false ∧ t.cus.own = 0 ∧ t.cus.latch = false ∧
  t.esc = s.esc ∧ t.zk.scenes = s.zk.scenes ∧ t.zk.messages = s.zk.messages ∧ t.pwr.counter = s.pwr.counter ∧ t.pwr.step = 0

/-- R432: what the boot ROM asks of an image. -/
def ImageGood (counter : Nat) (ws : List Word) : Prop :=
  let h := bytesOf (ws.take 64)
  let num := fun k => (bigNat ((h.drop k).take 32) : Int)
  let len := (ws.getD 3 0).toNat
  ws.getD 0 0 = 0x5A4B5231 ∧ len % 64 = 0 ∧ len ≤ 4194304 ∧ sha256 ((h.drop 0x30).take 64) = Config.keyHash ∧
  ecVerify (num 0x30) (num 0x50) (num 0x70) (num 0x90) (bigNat (sha256 (h.take 0x70))) = true ∧
  sha256 (bytesOf ((ws.drop 64).take (len / 4))) = (h.drop 0x10).take 32 ∧ counter ≤ (ws.getD 2 0).toNat

/-- R433, R550: the image the boot ROM accepts: index, slot B, download. -/
def State.acceptedImage (s : State) : Option (Nat × Bool × Bool) :=
  let mode := if s.pwr.straps.fld 0 3 ≤ 3 then s.pwr.straps.fld 0 3 else 0
  let ok := fun a => imageFail s.pwr.counter (s.words a (64 + min 1048576 ((s.word (a + 12)).toNat / 4))) = 0
  if mode < 2 ∧ ok 0xC0000000 then some ((s.word 0xC0000008).toNat, false, false)
  else if mode < 2 ∧ ok 0xC1000000 then some ((s.word 0xC1000008).toNat, true, false)
  else if mode ≠ 0 ∧ s.pwr.dlState = 1 then some ((s.pwr.dlWords.getD 2 0).toNat, false, true)
  else none

/-! ## Terms of the statements about the windows and the host's commands -/

/-- Windows differ at `w` alone, which becomes `x`. -/
def WinBecomes (s t : State) (w : Nat) (x : Window) : Prop := t.win w = x ∧ ∀ v, v ≠ w → t.win v = s.win v

/-- A window after a scan: what is ready on W2 and W3 has entered their response queues (R436). -/
def Settled (w : Nat) (x : Window) : Window := if w < 2 then x else x.enterAll x.owed.length

/-- The journal takes an entry with `n` arguments without sealing a checkpoint or dropping an entry (R421, R451). -/
def State.logRoom (s : State) (n : Nat) : Prop :=
  s.esc.nextSeq - s.esc.covered < 8191 ∧ (s.esc.journal.map auditBytes).sum + 48 + 4 * n ≤ s.esc.ring

/-- R438: the status word of a window. -/
def State.statusWord (s : State) (w : Nat) (x : Word) : Prop :=
  x.toNat = min 4096 (s.win w).rsp.length + 2 ^ 13 * (s.evQ w).entries.length +
    2 ^ 22 * ((2048 - ((s.win w).stream.length + ((s.win w).frames.map (fun f => f.2.2.length)).sum)) / 8) +
    (if s.zk.owner.owned = true ∧ s.zk.owner.win = w ∧ s.zk.owner.node = s.node then 2 ^ 31 else 0)

/-- R442: event queue `slot` with `k` entries gone from its front; where events have been lost, 0x0909 with their number takes the
space that returns. -/
def State.evTaken (s : State) (slot k : Nat) : EvQueue :=
  let q := s.evQ slot
  let left := q.entries.drop k
  if 0 < q.lost ∧ left.length < 256 then
    { entries := left ++ [{ code := 0x0909, node := s.node, payload := min q.lost 0xFFFF, sctrLo := s.sctr % 2 ^ 32, seq := q.seq }]
      seq := q.seq + 1
      lost := 0 }
  else { q with entries := left }

/-- R449, R472: the words of an event entry. -/
def entryWords (e : EvEntry) : List Word :=
  [Word.ofNat (e.code + 2 ^ 16 * e.node), Word.ofNat e.payload, Word.ofNat e.sctrLo, Word.ofNat e.seq]

/-! ## Terms of the statements about the mover -/

/-- Aligned addresses of shared SRAM. -/
def sharedAt (a n : Nat) : Prop := a % 4 = 0 ∧ 0x03000000 ≤ a ∧ a + n ≤ 0x03800000

/-- R528: where SWAP takes byte `j` of a word from. -/
def swapPlace (k j : Nat) : Nat :=
  if k = 1 then [1, 0, 3, 2].getD j 0 else if k = 2 then [3, 2, 1, 0].getD j 0 else if k = 3 then [2, 3, 0, 1].getD j 0 else j

/-- R529: `n` words have moved under SRC_FIX, DST_FIX and SWAP of word 3 of the descriptor; no other byte has changed. -/
def WordsMoved (s t : State) (src dst n : Nat) (ctl : Word) : Prop :=
  (∀ i j, i < n → j < 4 → (ctl.bit 1 = false ∨ i + 1 = n) →
    t.byte (dst + (if ctl.bit 1 then 0 else 4 * i) + j) =
      s.byte (src + (if ctl.bit 0 then 0 else 4 * i) + swapPlace (ctl.fld 2 2) j)) ∧
  ∀ a, (a < dst ∨ dst + (if n = 0 then 0 else if ctl.bit 1 then 4 else 4 * n) ≤ a) → t.byte a = s.byte a

/-- Channel `c` becomes `x`, no other channel changes, DMA_IRQ gets its bit where `irq` holds, and `cur` is the channel whose
descriptor runs. -/
def MoverBecomes (s t : State) (c : Nat) (x : DmaCh) (irq : Bool) (cur : Option Nat) : Prop :=
  t.dma c = x ∧ (∀ j, j ≠ c → t.dma j = s.dma j) ∧ t.mover.cur = cur ∧
  t.mover.irq = if irq then s.mover.irq ||| Word.ofNat (2 ^ c) else s.mover.irq

/-- R530, R532: what the LINK that the mover reads makes of a channel. -/
def linkOutcome (x : DmaCh) (link : Word) : DmaCh :=
  if link ≠ 0 then { x with st := .active, last := link, loaded := false, linkPending := false }
  else { x with st := .done, cons := x.db, loaded := false, linkPending := false }

/-- R527: channel `c` is ready: ACTIVE and not paused. -/
def State.ready (s : State) (c : Nat) : Prop :=
  c < 32 ∧ (s.dma c).st = .active ∧ s.bitN (0x10120104 + 0x20 * c) 1 = false

/-- R527: no descriptor runs and channel `c` is the lowest one that is ready. -/
def State.nextUp (s : State) (c : Nat) : Prop := s.mover.cur = none ∧ s.ready c ∧ ∀ j, j < c → ¬s.ready j

/-- R528: word `k` of the descriptor of channel `c`. -/
def State.descWordAt (s : State) (c k : Nat) : Word := s.word ((s.dma c).last.toNat + 4 * k)

/-- R528: the descriptors of the channels that are ready stand in shared SRAM, where no word has an error. -/
def State.legible (s : State) : Prop :=
  s.memc.ecc = [] ∧ ∀ c, s.ready c → (s.dma c).loaded = false → (s.dma c).last.toNat % 32 = 0 ∧ sharedAt (s.dma c).last.toNat 32

/-- R528: a descriptor that ends its channel in ERROR with code 1. -/
def badWords (w : Nat → Word) : Prop :=
  (w 2).toNat = 0 ∨ (w 2).toNat % 4 ≠ 0 ∨ 4194304 < (w 2).toNat ∨ (w 3).fld 12 20 ≠ 0 ∨ w 6 ≠ 0 ∨ w 7 ≠ 0 ∨ (w 4).fld 0 5 ≠ 0

/-- A DMA_IRQ bit is set and the channel runs no more. -/
def State.moverEnds (s : State) (c : Nat) : State :=
  { s with mover := { s.mover with irq := s.mover.irq ||| Word.ofNat (2 ^ c)
                                   cur := (if s.mover.cur = some c then none else s.mover.cur) } }

/-- R528, R530: channel `c` ends in ERROR. -/
def State.moverFails (s : State) (c code : Nat) : State :=
  ((s.setDma c { s.dma c with st := .error, code := code, loaded := false, linkPending := false, aborting := false }).moverEnds c).raise
    0x0806 c

/-- R530, R532: the mover reads the LINK of the last descriptor of channel `c`. -/
def State.linked (s : State) (c : Nat) : State :=
  if (s.descWordAt c 4).fld 0 5 ≠ 0 then s.moverFails c 1 else s.setDma c (linkOutcome (s.dma c) (s.descWordAt c 4))

/-- R527, R528: the mover goes on, from the first state to the second: it keeps the descriptor that runs, or takes that of the lowest
ready channel, where that one loads; a descriptor that R528 refuses ends its channel, and the mover takes the next. -/
inductive MoverServes : State → State → Prop
  | stays (s : State) : (s.mover.cur ≠ none ∨ ∀ c, ¬s.ready c) → MoverServes s s
  | again (s : State) (c : Nat) : s.nextUp c → (s.dma c).loaded = true → MoverServes s { s with mover := { s.mover with cur := some c } }
  | loads (s : State) (c : Nat) : s.nextUp c → (s.dma c).loaded = false → ¬badWords (s.descWordAt c) →
      MoverServes s (({ s with mover := { s.mover with cur := some c } } : State).setDma c { s.dma c with
        src := s.descWordAt c 0, dst := s.descWordAt c 1, remain := (s.descWordAt c 2).toNat, ctl := s.descWordAt c 3, loaded := true })
  | fails (s t : State) (c : Nat) : s.nextUp c → (s.dma c).loaded = false → badWords (s.descWordAt c) →
      MoverServes (s.moverFails c 1) t → MoverServes s t

/-- A command at the mover answers a state; what it does by itself is the first state, and then the mover goes on. -/
def MoverAnswers (o : Host.Outcome State Fault Refusal) (u : State) : Prop :=
  u.legible → ∃ t, o = .next t ∧ MoverServes u t


/-- R476: the commands of the catalogue by GROUP × 256 + OPCODE. -/
noncomputable def hostRows : List (Nat × (Req → Instr)) :=
  [(0x0101, .sysIdent), (0x0102, .sysStatus), (0x0103, .sysRestart), (0x0104, .sysFwWrite), (0x0105, .sysFwCheck),
   (0x0106, .sysRollbackHold), (0x0201, .ownClaim), (0x0202, .ownCede), (0x0203, .ownAccept), (0x0204, .ownRelease),
   (0x0205, .ownForce), (0x0206, .ownMaint), (0x0207, .ownQuery), (0x0301, .objGet), (0x0302, .objSet),
   (0x0303, .objApply), (0x0304, .objDiscard), (0x0305, .objRollCreate), (0x0306, .objRollAdd), (0x0307, .objRollRemove),
   (0x0308, .objRollDelete), (0x0309, .objMembers), (0x030A, .objList), (0x0401, .routeSet), (0x0402, .routeClear),
   (0x0403, .routeGet), (0x0404, .routeList), (0x0405, .routeCost), (0x0501, .scenePrepare), (0x0502, .sceneCommit),
   (0x0503, .sceneAbort), (0x0504, .sceneRecall), (0x0505, .sceneStatus), (0x0506, .sceneList), (0x0601, .msgPlay),
   (0x0602, .msgStop), (0x0603, .msgStatus), (0x0604, .msgList), (0x0701, .alarmTrigger), (0x0702, .alarmSilence),
   (0x0703, .alarmReset), (0x0704, .alarmAck), (0x0705, .alarmStatus), (0x0706, .alarmPlanSet), (0x0707, .alarmPlanGet),
   (0x0708, .alarmZoneSet), (0x0709, .alarmZoneGet), (0x0801, .supLearn), (0x0802, .supSet), (0x0803, .supStatus),
   (0x0901, .rsvSet), (0x0902, .rsvGet), (0x0903, .rsvTable), (0x0904, .rsvStatus), (0x0A01, .clkPrioSet),
   (0x0A02, .clkSlotSet), (0x0A03, .clkMapSet), (0x0A04, .clkLoopSet), (0x0A05, .clkStatus), (0x0B01, .netMacSet),
   (0x0B02, .netStreamSet), (0x0B03, .netStreamEn), (0x0B04, .netStatus), (0x0C01, .casPortSet), (0x0C02, .casTransitSet),
   (0x0C03, .casReturnSet), (0x0C04, .casTopo), (0x0D01, .cusStatus), (0x0D02, .cusHoldSet), (0x0D03, .cusStbySet),
   (0x0D04, .cusGiveup), (0x0E01, .regRead), (0x0E02, .regWrite), (0x0F01, .logRead), (0x0F02, .logCheckpoint),
   (0x1001, .evtSubscribe), (0x1002, .evtUnsubscribe), (0x1003, .evtMask)]

/-- A seated device with nothing pending that a scan goes on with. -/
def State.calm (s : State) : Prop :=
  s.cus.own = 2 ∧ s.csc.inbox = [] ∧ s.zk.change = none ∧ s.zk.aside = none ∧ s.zk.tree = none ∧ s.zk.parts = [] ∧
  s.zk.remote = [] ∧ s.zk.remoteFresh = [] ∧ s.zk.missed = none ∧ s.zk.alarm.soon = [] ∧ s.zk.quit = none ∧
  s.compactDue = false ∧ s.zk.rsv.due = false ∧ s.zk.rsv.parked = [] ∧
  ∀ w, w < 4 → (s.win w).work = [] ∧ (s.win w).fresh = []

/-- A request frame that is no longer than R455 allows reaches a window of this node whose response queue has room (R436), and none
with its SEQ and source waits there for its answer. -/
def State.receives (s : State) (q : Req) : Prop :=
  q.node = s.node ∧ s.rspRoom q.win = true ∧ q.args.length ≤ 1022 ∧
  ∀ o, o ∈ (s.win q.win).owed → o.words = none → ¬(o.seq = q.seq ∧ o.ip = q.ip ∧ o.port = q.port)

/-- R456: a response frame. -/
def frameOf (op : Nat) (seq : Word) (status reason arg node : Nat) (res : List Word) : List Word :=
  Word.ofNat (3 + res.length + 2 ^ 16 * op) :: seq :: Word.ofNat (status + 2 ^ 8 * reason + 2 ^ 16 * arg + 2 ^ 26 * node) :: res

/-- Windows after a scan in which window `w` has become `x`. -/
def WinsAfter (s t : State) (w : Nat) (x : Window) : Prop := ∀ v, v < 4 → t.win v = Settled v (if v = w then x else s.win v)

/-- A request has its place among its window's responses: answered, or not yet. -/
def Owes (s t : State) (q : Req) (op : Nat) (ws : Option (List Word)) : Prop :=
  WinsAfter s t q.win { s.win q.win with owed := (s.win q.win).owed ++ [⟨op, q.seq, q.ip, q.port, crc32 q.args, ws⟩] }

/-- The answer of a request stands in its place among its window's responses. -/
def Replied (s t : State) (q : Req) (op : Nat) (ws : List Word) : Prop := Owes s t q op (some ws)

/-- The answer is all that has changed. -/
def OnlyReplied (s t : State) (q : Req) (op : Nat) (ws : List Word) : Prop :=
  Replied s t q op ws ∧ { t with zk := { t.zk with windows := s.zk.windows, scans := s.zk.scans } } = s

/-- A read is answered OK with these results and changes nothing. -/
def Reads (s : State) (q : Req) (op : Nat) (row : Req → Instr) (res : List Word) : Prop :=
  ∃ t, exec (row q) s = .next t ∧ OnlyReplied s t q op (frameOf op q.seq 0 0 0x3FF 0 res)

/-- Argument `i` names a unit of this node that exists, of one of these classes (R461). -/
def State.unitHere (s : State) (q : Req) (i : Nat) (cls : List Nat) : Prop :=
  let u := unitOf ⟨0, q⟩ (q.args.getD i 0)
  lgNode u = s.node ∧ s.unitExists u = true ∧ lgCls u ∈ cls

/-- R477: the owner word. -/
def ownWord (o : Owner) : Word :=
  let v := o.offer.getD (0, 0)
  Word.ofNat ((if o.owned then 1 else 0) + 2 * o.win + 2 ^ 4 * o.node + (if o.maint then 2 ^ 10 else 0) +
    (if o.offer.isSome then 2 ^ 11 else 0) + 2 ^ 12 * v.1 + 2 ^ 15 * v.2)

/-- R443, R446: the request comes from the owner. -/
def State.ownedBy (s : State) (q : Req) : Prop :=
  let o := s.zk.owner
  o.owned = true ∧ o.win = q.win ∧ o.node = q.node ∧ (q.win = 3 → o.ip = q.ip ∧ o.port = q.port)

/-- A write that is not a repeat of one that the journal still holds (R458), at a device whose journal takes entries. -/
def State.freshWrite (s : State) (q : Req) : Prop :=
  s.cus.escDrive = true ∧ s.logRoom q.args.length ∧ q.seq ≠ 0 ∧
  ∀ a, a ∈ s.esc.journal → a.kind ≤ 3 → ¬(a.source = q.win ∧ a.node = q.node ∧ a.ip = q.ip ∧ a.port = q.port ∧ a.reqSeq = q.seq)

/-- R449, R450: the journal has the request's entry, with the answer for R458; a refused one keeps no arguments. -/
def Entered (s t : State) (q : Req) (op kind status : Nat) (ws : List Word) : Prop :=
  ∃ a, a ∈ t.esc.journal ∧ a.seq = s.esc.nextSeq ∧ a.kind = kind ∧ a.source = q.win ∧ a.node = q.node ∧ a.op = op ∧
    a.status = status ∧ a.reqSeq = q.seq ∧ a.ip = q.ip ∧ a.port = q.port ∧ a.args = (if kind = 2 then [] else q.args) ∧
    a.argCrc = crc32 q.args ∧ a.answer = some ws

/-- A write is executed and journaled with KIND 1, an OWN request with KIND 3; `row` answers a state of which `P` says what it has
become. -/
def Writes (s : State) (q : Req) (op : Nat) (row : Req → Instr) (res : List Word) (P : State → Prop) : Prop :=
  let ws := frameOf op q.seq 0 0 0x3FF 0 res
  ∃ t, exec (row q) s = .next t ∧ Replied s t q op ws ∧ Entered s t q op (if op / 256 = 2 then 3 else 1) 0 ws ∧ P t

/-- What a write leaves beside its own effect: the journal, its window, and which scan saw a CLAIM. -/
def State.wroteOf (t s : State) : State :=
  { t with esc := s.esc, zk := { t.zk with windows := s.zk.windows, scans := s.zk.scans, claimScan := s.zk.claimScan } }

/-- A write is refused with a status, a reason and an argument, and journaled with KIND 2; nothing else changes. -/
def Refuses (s : State) (q : Req) (op : Nat) (row : Req → Instr) (status reason arg : Nat) (res : List Word) : Prop :=
  let ws := frameOf op q.seq status reason arg s.node res
  ∃ t, exec (row q) s = .next t ∧ Replied s t q op ws ∧ Entered s t q op 2 status ws ∧
    t.wroteOf s = s

/-- What events, raised in this order, leave. -/
def EventsRaised (s t : State) (es : List (Nat × Nat)) : Prop :=
  let r := es.foldl (fun (u : State) e => u.raise e.1 e.2) s
  t.evq = r.evq ∧ t.evtLost = r.evtLost ∧ t.msgOut = r.msgOut

/-- A write has the effect of writes of registers by the Teller in this order, and no other. -/
def AsWritten (s t : State) (ws : List (Nat × Word)) : Prop :=
  ∃ us : List State, us.length = ws.length + 1 ∧ us.head? = some s ∧
    (∀ i e u v, ws[i]? = some e → us[i]? = some u → us[i + 1]? = some v →
      exec (.registerWrite 0 (BitVec.ofNat 32 e.1) e.2) u = .next v) ∧
    ∀ v, us[ws.length]? = some v → t.wroteOf v = v

/-- An edit whose landing changes no register and moves no roll, zone or line: a NEXT parameter, a bead, a player, WIN or THR of a channel, and
what OBJ APPLY has applied. -/
def Edit.plain : Edit → Bool
  | .par .. => true
  | .bead .. => true
  | .play .. => true
  | .stop .. => true
  | .applied _ => true
  | .sup _ p _ => p == 1 || p == 2
  | _ => false

/-- R147, R151, R175, R482: what a scene makes of NEXT and of its page, the slot's ramp with it, takes neither the sections nor a Tally
core past what they have, and changes no section that crossfades; no unit it writes is held (R500). -/
def State.sceneFits (s : State) (k : Nat) (hard : Bool) (n : Nat) (cfg : Word) : Prop :=
  let w := buildChange { src := .scene, edits := slotEdits n cfg, scene := some (k, hard) } 0 s
  fadeWaits s w = false ∧ overGrows true s w = false ∧ s.sceneHeld k = false

end Sys2Proof.Machine
end

