-- ==== Sys2Proof/Certificates/Slice0/Obligations.lean ====
section
/-!
DEFINITION. The statements about the machine.
-/

open Sys2Proof Sys2Proof.Machine

/-- The first command of the queue runs on the state with the queue's rest; with no command waiting the block idles.

The model's own readings in it: log entries 4, 6. -/
def Obligations.StepRunsFront : Prop :=
  (∀ (i : Instr) (rest : List Instr) (s : State), s.pending = i :: rest →
    step s = exec i { s with pending := rest }) ∧
  (∀ s : State, s.pending = [] → step s = .next s) ∧
  (∀ (s : State) (nbits w : Nat), s.withFetchWord nbits w = s)

/-- Every command answers a next state, whatever its operands and the state: nothing ends a run.

The model's own readings in it: log entry 5. -/
def Obligations.EveryCommandAnswers : Prop := ∀ (i : Instr) (s : State), Answers (exec i s)

/-- Right after power-on reset: no command waits, every register and parameter of LIVE and NEXT reads its map's reset value,
and every byte of memory reads 0. A few of the values the maps give.

The model's own readings in it: log entries 1, 2. -/
def Obligations.ResetValues : Prop :=
  let s := State.reset
  s.pending = [] ∧ s.sctr = 0 ∧ s.started = false ∧ s.memOk ∧ (∀ a, s.byte a = 0) ∧
  (∀ a, s.reg a = regReset a) ∧ (∀ k, s.nxt k = paramReset k ∧ s.liv k = paramReset k) ∧
  (∀ k, s.core k = {}) ∧ (∀ n, s.queue n = {}) ∧ (s.core 0).st = .stopped ∧ s.cus.own = 0 ∧
  -- IS_CTL.XF_LEN 240, IS_TRIM 0x0800_0000, IS_MUTE 1, OS_GAIN 0x0800_0000, OS_GAINR.MUTE 1, SEC_B0 0x2000_0000
  s.livF (keyIS 7 0) 16 16 = 240 ∧ s.liv (keyIS 7 8) = 0x08000000 ∧ s.livB (keyIS 7 0x14) 0 = true ∧
  s.liv (keyOS 7 0x10) = 0x08000000 ∧ s.livB (keyOS 7 0x14) 31 = true ∧ s.liv (keySec 7 4) = 0x20000000

/-- R188: the ALU instructions and their flags; CMP and CMPI deliver the flags of a difference and no register. -/
def Obligations.AluResults : Prop := ∀ (core : Fin 64) (s : State), canIssue core s = true →
  let b := s.tbank core
  let gives := fun (i : Instr) (rd : BitVec 5) (v : Word) (f : List (Nat × Bool)) =>
    Delivers i core s 1 (fun _ => { d := [(rd.toNat, v)], st := f })
  let diff := fun (x y : Word) => zncv (x - y) (decide (2 ^ 32 ≤ x.toNat + (~~~y).toNat + 1)) (out32 (x.toInt - y.toInt))
  (∀ rd rs rt, gives (.add core rd rs rt) rd (b.reg rs + b.reg rt) (zncv (b.reg rs + b.reg rt)
    (decide (2 ^ 32 ≤ (b.reg rs).toNat + (b.reg rt).toNat)) (out32 ((b.reg rs).toInt + (b.reg rt).toInt)))) ∧
  (∀ rd rs rt, gives (.sub core rd rs rt) rd (b.reg rs - b.reg rt) (zncv (b.reg rs - b.reg rt)
    (decide (2 ^ 32 ≤ (b.reg rs).toNat + (~~~(b.reg rt)).toNat + 1)) (out32 ((b.reg rs).toInt - (b.reg rt).toInt)))) ∧
  (∀ rd rs imm, gives (.addi core rd rs imm) rd (b.reg rs + imm.signExtend 32) (zncv (b.reg rs + imm.signExtend 32)
    (decide (2 ^ 32 ≤ (b.reg rs).toNat + (imm.signExtend 32).toNat)) (out32 ((b.reg rs).toInt + imm.toInt)))) ∧
  (∀ rd rs rt, gives (.and core rd rs rt) rd (b.reg rs &&& b.reg rt) (zn (b.reg rs &&& b.reg rt))) ∧
  (∀ rd rs rt, gives (.or core rd rs rt) rd (b.reg rs ||| b.reg rt) (zn (b.reg rs ||| b.reg rt))) ∧
  (∀ rd rs rt, gives (.xor core rd rs rt) rd (b.reg rs ^^^ b.reg rt) (zn (b.reg rs ^^^ b.reg rt))) ∧
  (∀ rd rs imm, gives (.andi core rd rs imm) rd (b.reg rs &&& imm.setWidth 32) (zn (b.reg rs &&& imm.setWidth 32))) ∧
  (∀ rd rs imm, gives (.ori core rd rs imm) rd (b.reg rs ||| imm.setWidth 32) (zn (b.reg rs ||| imm.setWidth 32))) ∧
  (∀ rd rs rt, let n := (b.reg rt).toNat % 64
    gives (.shl core rd rs rt) rd (b.reg rs <<< n) (zn (b.reg rs <<< n)) ∧
    gives (.shr core rd rs rt) rd (b.reg rs >>> n) (zn (b.reg rs >>> n)) ∧
    gives (.asr core rd rs rt) rd ((b.reg rs).sshiftRight n) (zn ((b.reg rs).sshiftRight n))) ∧
  (∀ rd rs sh, gives (.shli core rd rs sh) rd (b.reg rs <<< sh.toNat) (zn (b.reg rs <<< sh.toNat)) ∧
    gives (.shri core rd rs sh) rd (b.reg rs >>> sh.toNat) (zn (b.reg rs >>> sh.toNat)) ∧
    gives (.asri core rd rs sh) rd ((b.reg rs).sshiftRight sh.toNat) (zn ((b.reg rs).sshiftRight sh.toNat))) ∧
  (∀ rd rs rt, let m := if (b.reg rs).slt (b.reg rt) then b.reg rs else b.reg rt
    gives (.min core rd rs rt) rd m (zn m)) ∧
  (∀ rd rs rt, let m := if (b.reg rs).slt (b.reg rt) then b.reg rt else b.reg rs
    gives (.max core rd rs rt) rd m (zn m)) ∧
  (∀ rd rs rt, let x := (b.reg rs).toInt + (b.reg rt).toInt
    gives (.adds core rd rs rt) rd (near32 x) (znv (near32 x) (out32 x))) ∧
  (∀ rd rs rt, let x := (b.reg rs).toInt - (b.reg rt).toInt
    gives (.subs core rd rs rt) rd (near32 x) (znv (near32 x) (out32 x))) ∧
  (∀ rd rs, let x := if (b.reg rs).toInt < 0 then -(b.reg rs).toInt else (b.reg rs).toInt
    gives (.abs core rd rs) rd (near32 x) (znv (near32 x) (out32 x))) ∧
  (∀ rd imm, gives (.lui core rd imm) rd (BitVec.ofNat 32 (imm.toNat * 2 ^ 16)) []) ∧
  (∀ rd imm, gives (.movi core rd imm) rd (imm.signExtend 32) []) ∧
  (∀ rs rt, Delivers (.cmp core rs rt) core s 1 (fun _ => { st := diff (b.reg rs) (b.reg rt) })) ∧
  (∀ rs imm, Delivers (.cmpi core rs imm) core s 1 (fun _ => { st := diff (b.reg rs) (imm.signExtend 32) }))

/-- R191, R194, R201 to R203, R205: what RDS, WRS, RDP, EXPX, NORM and BEXP deliver.

R200: what EXT and EXTV deliver, and the TLY bit of SYS_SAT_FLAGS. An extraction leaves what a NOP leaves but for
results in flight and that sticky bit.

The model's own readings in it: log entry 32. -/
def Obligations.StatusReadsAndExtraction : Prop :=
  (∀ (core : Fin 64) (s : State), canIssue core s = true →
  let b := s.tbank core
  let gives := fun (i : Instr) (w : Delivery) => Delivers i core s 1 (fun _ => w)
  (∀ rd, gives (.rds core rd 0) { d := [(rd.toNat, b.st)] } ∧
    gives (.rds core rd 1) { d := [(rd.toNat, Word.ofNat b.loopN)] } ∧
    gives (.rds core rd 2) { d := [(rd.toNat, Word.ofNat (s.core core).taskCyc)] } ∧
    gives (.rds core rd 3) { d := [(rd.toNat, 0)] }) ∧
  (∀ rs, gives (.wrs core rs)
    { st := [0, 1, 2, 3, 4, 5, 8, 9].map (fun j => (j, (b.reg rs).bit j)) }) ∧
  (∀ rd p, gives (.rdp core rd 0 p) { d := [(rd.toNat, b.pr p.toNat)] } ∧
    gives (.rdp core rd 1 p) { d := [(rd.toNat, b.mr p.toNat)] } ∧
    gives (.rdp core rd 2 p) { d := [(rd.toNat, Word.ofNat (b.lr p.toNat))] }) ∧
  (∀ rd rs, gives (.expx core rd rs false) { d := [(rd.toNat, Word.ofNat (signRun (b.reg rs)))] }) ∧
  (∀ rd rs, rs.toNat < 8 → gives (.expx core rd rs true) { d := [(rd.toNat, Word.ofNat (signRun (b.ar rs.toNat)))] }) ∧
  (∀ rd rs re, rd ≠ re → gives (.norm core rd rs re)
    { d := [(rd.toNat, b.reg rs <<< signRun (b.reg rs)), (re.toNat, Word.ofNat (signRun (b.reg rs)))] }) ∧
  (∀ rd rq, rq.toNat % 4 = 0 → ∀ m : Word, (m = b.reg rd ∨ ∃ i, i < 4 ∧ m = Word.ofNat (signRun (b.dr (rq.toNat + i)))) →
    m.toInt ≤ (b.reg rd).toInt → (∀ i, i < 4 → m.toInt ≤ (signRun (b.dr (rq.toNat + i)) : Int)) →
    gives (.bexp core rd rq) { d := [(rd.toNat, m)] })) ∧
  (∀ (core : Fin 64) (s : State), canIssue core s = true →
  let b := s.tbank core
  ∀ (rd : BitVec 5) (aa : BitVec 3) (sat : Bool) (i : Instr) (k : Nat),
    ((∃ sh : BitVec 6, i = .ext core rd aa sh sat ∧ k = sh.toNat) ∨
      (∃ dy : BitVec 5, i = .extv core rd aa dy sat ∧ k = (b.reg dy).toNat % 64)) →
    ∀ q : Int, nearest (b.ar aa.toNat).toInt k q →
      ∃ t t0, exec i s = .next t ∧ exec (.nop core) s = .next t0 ∧
        t.sat = (if sat && out32 q then t0.sat ||| 4 else t0.sat) ∧
        OnlyFlight core t0 { t with sat := t0.sat } ∧
        let h := (s.core core).inShadow
        t.bankIn core h 0 = t0.bankIn core h 0 ∧
        { t.bankIn core h 1 with d := (t0.bankIn core h 1).d, st := (t0.bankIn core h 1).st } = t0.bankIn core h 1 ∧
        (∀ r, (t.bankIn core h 1).dr r =
          given [(rd.toNat, if sat then near32 q else BitVec.ofInt 32 q)] r ((t0.bankIn core h 1).dr r)) ∧
        ∀ j, j < 32 → (t.bankIn core h 1).st.bit j =
          given (if sat && out32 q then [(9, true)] else []) j ((t0.bankIn core h 1).st.bit j))

/-- R195 to R199: the accumulating instructions and AMV. -/
def Obligations.AccumulatorResults : Prop := ∀ (core : Fin 64) (s : State), canIssue core s = true →
  let b := s.tbank core
  let prod := fun (x y : Word) => x.toInt * y.toInt
  let one := fun (i : Instr) (aa : BitVec 3) (clr : Bool) (x : Int) => Delivers i core s 3 (fun b0 =>
    let v := accValue (b0.ar aa.toNat) clr x
    { a := [(aa.toNat, BitVec.ofInt 72 v)], st := accBits [v] })
  (∀ aa dx dy, one (.mac core aa dx dy) aa false (prod (b.reg dx) (b.reg dy)) ∧
    one (.msu core aa dx dy) aa false (-prod (b.reg dx) (b.reg dy)) ∧
    one (.mpy core aa dx dy) aa true (prod (b.reg dx) (b.reg dy)) ∧
    one (.mpyn core aa dx dy) aa true (-prod (b.reg dx) (b.reg dy))) ∧
  (∀ aa dx dy bc clr neg, (aa = 0 ∨ aa = 4) → dx.toNat % 4 = 0 → (bc = true ∨ dy.toNat % 4 = 0) →
    Delivers (.qmac core aa dx dy bc clr neg) core s 3 (fun b0 =>
      let x := fun (i : Nat) => prod (b.dr (dx.toNat + i)) (b.dr (dy.toNat + if bc then 0 else i))
      let v := fun (i : Nat) => accValue (b0.ar (aa.toNat + i)) clr (if neg then -x i else x i)
      { a := (List.range 4).map (fun i => (aa.toNat + i, BitVec.ofInt 72 (v i))), st := accBits ((List.range 4).map v) })) ∧
  (∀ aa ab, Delivers (.aadd core aa ab) core s 3 (fun b0 =>
    let v := (b0.ar aa.toNat).toInt + (b0.ar ab.toNat).toInt
    { a := [(aa.toNat, BitVec.ofInt 72 v)], st := accBits [v] })) ∧
  (∀ aa dx sh, Delivers (.amv core aa dx false sh) core s 1 (fun _ =>
    { a := [(aa.toNat, BitVec.ofInt 72 ((b.reg dx).toInt * 2 ^ sh.toNat))] })) ∧
  (∀ aa, Delivers (.amv core aa 0 true 0) core s 1 (fun _ => { a := [(aa.toNat, 0)] }))

/-- R160: the pointer rule.

R189, R191: stores, and writes of the pointer registers.

The model's own readings in it: log entry 31. -/
def Obligations.PointersAndStores : Prop :=
  (∀ (p m : Word) (l : Nat),
  (l = 0 → pointerNext p m.toInt l = p + m) ∧
  ∀ k : Nat, 0 < l → l ≤ 2 ^ k → (∀ j, j < k → 2 ^ j < l) →
    let base : Int := p.toNat - p.toNat % 2 ^ k
    let q := (p.toNat : Int) + m.toInt
    (base ≤ q → q < base + l → pointerNext p m.toInt l = BitVec.ofInt 32 q) ∧
    (base + l ≤ q → pointerNext p m.toInt l = BitVec.ofInt 32 (q - l)) ∧
    (q < base → pointerNext p m.toInt l = BitVec.ofInt 32 (q + l))) ∧
  (∀ (core : Fin 64) (s : State), canIssue core s = true →
  let b := s.tbank core
  let h := (s.core core).inShadow
  let stores := fun (i : Instr) (ws : List (Nat × Word)) (p : List (Nat × Word)) =>
    (∀ e, e ∈ ws → e.1 < 0x14000) →
      ∃ t t0, exec i s = .next t ∧ exec (.nop core) s = .next t0 ∧
        Stored t0 t (ws.map (fun e => (coreAddr core e.1, e.2))) ∧ OnlyEccEnded t0 t ∧
        OnlyBank core h t0 { t with mem := t0.mem, memc := t0.memc } ∧ DeliversPtr core s t t0 1 (fun _ => {}) p [] []
  let points := fun (i : Instr) (p m : List (Nat × Word)) (l : List (Nat × Nat)) =>
    ∃ t t0, exec i s = .next t ∧ exec (.nop core) s = .next t0 ∧ OnlyBank core h t0 t ∧
      DeliversPtr core s t t0 1 (fun _ => {}) p m l
  (∀ rs p, stores (.stPost core rs p) [(wordAddr (b.pr p.toNat), b.reg rs)] (b.stepped p)) ∧
  (∀ rs p off, stores (.stOffset core rs p off) [(wordAddr (b.pr p.toNat + off.signExtend 32), b.reg rs)] []) ∧
  (∀ rq p, rq.toNat % 4 = 0 → stores (.stq core rq p)
    ((List.range 4).map (fun i => ((b.pr p.toNat).toNat % 2 ^ 17 / 16 * 16 + 4 * i, b.dr (rq.toNat + i)))) (b.stepped p)) ∧
  (∀ p rs, points (.wrp core 0 p rs) [(p.toNat, b.reg rs)] [] [] ∧
    points (.wrp core 1 p rs) [] [(p.toNat, b.reg rs)] [] ∧
    points (.wrp core 2 p rs) [] [] [(p.toNat, (b.reg rs).toNat % 2 ^ 17 / 4 * 4)]) ∧
  (∀ p imm, points (.addp core p imm) [(p.toNat, pointerNext (b.pr p.toNat) imm.toInt (b.lr p.toNat))] [] []) ∧
  (∀ rq queue, rq.toNat % 4 = 0 → ∃ t0 t, exec (.nop core) s = .next t0 ∧ exec (.qput core rq queue) s = .next t ∧
    exec (.queuePush queue.toFin ((List.range 4).map (fun i => b.dr (rq.toNat + i)))) t0 = .next t))

/-- R161, R189: loads, their latency and their pointers.

R190, R204: TAPMV on two legal addresses. -/
def Obligations.LoadsAndTaps : Prop :=
  (∀ (core : Fin 64) (s : State), canIssue core s = true →
  let b := s.tbank core
  let loads := fun (i : Instr) (as : List Nat) (d : List (Nat × Word)) (p : List (Nat × Word)) =>
    (∀ a, a ∈ as → a < 0x18000) → s.cleanAt core as →
      ∃ t t0, exec i s = .next t ∧ exec (.nop core) s = .next t0 ∧ OnlyBank core (s.core core).inShadow t0 t ∧
        DeliversPtr core s t t0 2 (fun _ => { d := d }) p [] []
  (∀ rd p, let a := wordAddr (b.pr p.toNat)
    loads (.ldPost core rd p) [a] [(rd.toNat, coreRead core a s)] (b.stepped p)) ∧
  (∀ rd p off, let a := wordAddr (b.pr p.toNat + off.signExtend 32)
    loads (.ldOffset core rd p off) [a] [(rd.toNat, coreRead core a s)] []) ∧
  (∀ rq p, rq.toNat % 4 = 0 → let a := (b.pr p.toNat).toNat % 2 ^ 17 / 16 * 16
    loads (.ldq core rq p) [a, a + 4, a + 8, a + 12]
      ((List.range 4).map (fun i => (rq.toNat + i, coreRead core (a + 4 * i) s))) (b.stepped p)) ∧
  (∀ a, a < 0x14200 → coreRead core a s = s.word (0x02400000 + core * 0x20000 + 0x8000 + a))) ∧
  (∀ (core : Fin 64) (s : State), canIssue core s = true →
  let b := s.tbank core
  let from0 := wordAddr (b.pr 0)
  let to1 := wordAddr (b.pr 1)
  from0 < 0x18000 → to1 < 0x14000 → s.cleanAt core [from0] → ∀ aa dn neg,
    let w := coreRead core from0 s
    let x := (b.reg dn).toInt * w.toInt
    ∃ t t0, exec (.tapmv core aa dn neg) s = .next t ∧ exec (.nop core) s = .next t0 ∧
      Stored t0 t [(coreAddr core to1, w)] ∧ OnlyEccEnded t0 t ∧
      OnlyBank core (s.core core).inShadow t0 { t with mem := t0.mem, memc := t0.memc } ∧
      DeliversPtr core s t t0 3 (fun b0 =>
        let v := accValue (b0.ar aa.toNat) false (if neg then -x else x)
        { a := [(aa.toNat, BitVec.ofInt 72 v)], st := accBits [v] }) (b.stepped 0 ++ b.stepped 1) [] [])

/-- R163, R184, R193: where the program counter goes after an instruction that is no control transfer, seen on NOP: in
sequence, through delay slots, and around a loop body.

R163, R165, R192, R193: the control transfers and REP, outside delay slots and loop bodies. -/
def Obligations.SequencingAndTransfers : Prop :=
  (∀ (core : Fin 64) (s : State), canIssue core s = true → s.cleanWord core →
  let c := s.core core
  let h := c.inShadow
  let b := s.tbank core
  ∃ t, exec (.nop core) s = .next t ∧ OnlyCore core s t ∧ (t.core core).cyc = c.cyc + 1 ∧
    (c.delay = none → b.loopN = 0 ∨ c.pc ≠ b.loopHi → (t.core core).pc = (c.pc + 1) % 8192 ∧ (t.core core).delay = none ∧
      (t.core core).st = c.st ∧ ((t.core core).bank h) = b) ∧
    (c.delay = none → 1 < b.loopN → c.pc = b.loopHi → (t.core core).pc = b.loopLo ∧
      (t.core core).bank h = { b with loopN := b.loopN - 1 }) ∧
    (c.delay = none → b.loopN = 1 → c.pc = b.loopHi → (t.core core).pc = (c.pc + 1) % 8192 ∧
      (t.core core).bank h = { b with loopN := 0 }) ∧
    (∀ target rti, c.delay = some ⟨2, target, rti⟩ →
      (t.core core).pc = (c.pc + 1) % 8192 ∧ (t.core core).delay = some ⟨1, target, rti⟩ ∧ (t.core core).st = c.st) ∧
    (∀ target, c.delay = some ⟨1, target, false⟩ →
      (t.core core).pc = target ∧ (t.core core).delay = none ∧ (t.core core).st = c.st) ∧
    (∀ target, c.delay = some ⟨1, target, true⟩ →
      (t.core core).pc = c.iret ∧ (t.core core).delay = none ∧ (t.core core).st = c.back)) ∧
  (∀ (core : Fin 64) (s : State), canIssue core s = true → s.cleanWord core →
  (s.core core).retire.plain →
  let c := s.core core
  let b := s.tbank core
  let jumps := fun (i : Instr) (target : Nat) (rti : Bool) (d : List (Nat × Word)) =>
    ∃ t t0, exec i s = .next t ∧ exec (.nop core) s = .next t0 ∧ OnlyCore core t0 t ∧
      { t.core core with flight := (t0.core core).flight, delay := none } = t0.core core ∧
      (t.core core).delay = some ⟨2, target, rti⟩ ∧ DeliversPtr core s t t0 1 (fun _ => { d := d }) [] [] []
  (∀ (k : Nat) (target : BitVec 13) (taken : Bool), (condTable b.st)[k]? = some taken →
    jumps (.b core (BitVec.ofNat 4 k) target) (if taken then target.toNat else (c.pc + 3) % 8192) false []) ∧
  (∀ target, jumps (.call core target) target.toNat false [(31, Word.ofNat ((c.pc + 3) % 8192))]) ∧
  jumps (.ret core) ((b.dr 31).toNat % 8192) false [] ∧
  (c.inShadow = true → jumps (.rti core) 0 true []) ∧
  (∀ (fromReg : Bool) (len : BitVec 7) (count : BitVec 16), 0 < len.toNat → c.pc + len.toNat ≤ 8191 →
    (fromReg = true → count.toNat < 32) →
    let n := if fromReg then (b.dr count.toNat).toNat % 2 ^ 16 else count.toNat
    ∃ t t0, exec (.rep core fromReg len count) s = .next t ∧ exec (.nop core) s = .next t0 ∧ OnlyCore core t0 t ∧
      (n = 0 → (t.core core).pc = (c.pc + 1 + len.toNat) % 8192 ∧ { t.core core with pc := (t0.core core).pc } = t0.core core) ∧
      (0 < n → (t.core core).pc = (c.pc + 1) % 8192 ∧ (t.core core).bank c.inShadow =
        { b with loopN := n, loopLo := (c.pc + 1) % 8192, loopHi := c.pc + len.toNat })))

/-- R157, R163, R165, R172, R186: a task instruction that may not stand where it is, an access that may not be made, and a
word that is no instruction end the task as a fault; the instances of the task deliver the fixed output.

R165, R574: a handler instruction that would fault does not issue; the handler ends at IRET with IEN cleared.

The model's own readings in it: log entry 29. -/
def Obligations.CoreFaults : Prop :=
  (∀ (core : Fin 64) (s : State), canIssue core s = true → s.cleanWord core → s.cleanStore core →
  (s.core core).st = .run →
  let c := s.core core
  let b := s.tbank core
  let faults := fun (i : Instr) (cause : Nat) =>
    ∃ t, exec i s = .next t ∧ OnlyCoreAndEvents core s t ∧ FaultRecorded s t core cause false ∧ TaskEnded s t core ∧
      (t.core core).fixedOut = c.fixedOut ++ [c.task] ∧ (t.core core).ended = c.ended
  (∀ w, tallyDecode core w = none → faults (.undefinedInstruction core w) 4) ∧
  faults (.rti core) 2 ∧
  (c.delay ≠ none ∨ (0 < b.loopN ∧ b.loopLo ≤ c.pc ∧ c.pc ≤ b.loopHi) →
    (∀ cond target, cond ≠ 15 → faults (.b core cond target) 2) ∧ (∀ target, faults (.call core target) 2) ∧
    faults (.ret core) 2 ∧ faults (.tend core) 2 ∧
    (∀ (len : BitVec 7) (count : BitVec 16), len ≠ 0 → faults (.rep core false len count) 2)) ∧
  (∀ rd p, 0x18000 ≤ wordAddr (b.pr p.toNat) → faults (.ldPost core rd p) 3) ∧
  (∀ rs p, 0x14000 ≤ wordAddr (b.pr p.toNat) → faults (.stPost core rs p) 3) ∧
  (∀ aa dn neg, 0x18000 ≤ wordAddr (b.pr 0) ∨ 0x14000 ≤ wordAddr (b.pr 1) → faults (.tapmv core aa dn neg) 3)) ∧
  (∀ (core : Fin 64) (s : State), canIssue core s = true → s.cleanWord core →
  (s.core core).st = .handler →
  let c := s.core core
  let b := s.tbank core
  let faults := fun (i : Instr) (cause : Nat) =>
    ∃ t, exec i s = .next t ∧ FaultRecorded s t core cause true ∧ (t.core core).pc = c.iret ∧ (t.core core).delay = none ∧
      (c.back = .run → (t.core core).st = .run ∧ (t.core core).task = c.task ∧ (t.core core).ended = c.ended ∧
        (t.core core).fixedOut = c.fixedOut) ∧
      (c.back = .waitRel → (t.core core).st = .waitRel) ∧
      t.ien core = 0 ∧ (∀ a : Nat, a ≠ 0x10040000 + 0x100 * core.val → t.reg a = s.reg a) ∧
      OnlyCoreAndEvents core s { t with regs := s.regs }
  (∀ w, tallyDecode core w = none → faults (.undefinedInstruction core w) 4) ∧
  faults (.tend core) 2 ∧
  (∀ rd p, 0x18000 ≤ wordAddr (b.pr p.toNat) → faults (.ldPost core rd p) 3) ∧
  (∀ rs p, 0x14000 ≤ wordAddr (b.pr p.toNat) → faults (.stPost core rs p) 3))

/-- R164, R167, R172, R574: a pending enabled interrupt, a handler's limit, which one whose RTI has issued has kept, and a task's
fence.

The model's own readings in it: log entry 29. -/
def Obligations.InterruptsAndLimits : Prop := ∀ (core : Fin 64) (s : State), s.cleanStore core →
  let c := s.core core
  (∀ (src : Nat), src < 4 → (c.st = .run ∨ c.st = .waitRel) → c.delay = none → c.hold = false →
    c.pend.testBit src = true → (s.ien core).testBit src = true →
    (∀ j, j < src → c.pend.testBit j = false ∨ (s.ien core).testBit j = false) →
    (c.st = .run → c.taskCyc < s.wcyc core c.task) →
    ∃ t, exec (.interruptEntry core) s = .next t ∧ OnlyCore core s t ∧ (t.core core).iret = c.pc ∧
      (t.core core).st = .handler ∧ (t.core core).back = c.st ∧ (t.core core).pc = s.fldN (0x10040008 + 0x100 * core) 0 13 ∧
      (∀ j, j < 4 → (t.core core).pend.testBit j = (c.pend.testBit j && j != src)) ∧
      (t.core core).cyc = c.cyc + 1 ∧ (t.core core).main = c.main ∧ (t.core core).shadow = c.shadow ∧
      (t.core core).flight = c.flight) ∧
  (c.st = .handler → max 1 (s.fldN (0x10040018 + 0x100 * core) 0 16) ≤ c.handCyc → c.back = .run →
    (∀ d, c.delay = some d → d.rti = true → exec (.handlerForcedExit core) s = .next s) ∧ ((∀ d, c.delay = some d → d.rti = false) →
    ∃ t, exec (.handlerForcedExit core) s = .next t ∧ FaultRecorded s t core 7 true ∧ (t.core core).st = .run ∧
      (t.core core).pc = c.iret ∧ (t.core core).task = c.task ∧ t.ien core = 0 ∧ (t.core core).fixedOut = c.fixedOut ∧
      OnlyCoreAndEvents core s { t with regs := s.regs })) ∧
  ((c.st = .run ∨ (c.st = .handler ∧ c.back = .run)) → s.wcyc core c.task ≤ c.taskCyc →
    ∃ t, exec (.fenceExpiry core) s = .next t ∧ OnlyCoreAndEvents core s t ∧ FaultRecorded s t core 1 false ∧
      TaskEnded s t core ∧ (t.core core).fixedOut = c.fixedOut ++ [c.task] ∧ (t.core core).ended = c.ended)

/-- R156, R164, R172, R174, R180, R181, R183: the doorbell, the cycle mark, START, STOP, the clears, a cluster's completion
mark, and a fabric write to program space or descriptors, which is taken while the core is STOPPED and dropped otherwise.

R169, R171: a dispatch, once a task is left and its inputs are delivered: the registers written, and the first
instruction; and TEND in the main bank, outside delay slots and loop bodies, within the fence: the task ends once every
result in flight has retired.

The model's own readings in it: log entries 29, 30, 33. -/
def Obligations.CoreServicesAndTasks : Prop :=
  (∀ (core : Fin 64) (s : State),
  let c := s.core core
  let becomes := fun (i : Instr) (d : TCore) => exec i s = .next (s.setCore core d)
  becomes (.doorbellRing core) { c with pend := c.pend ||| 1 } ∧
  (s.fldN (0x10040014 + 0x100 * core) 0 19 ≠ 0 → (c.st = .run ∨ (c.st = .handler ∧ c.back = .run)) →
    s.fldN (0x10040014 + 0x100 * core) 0 19 ≤ c.taskCyc → c.marked = false →
    ∃ t, exec (.cycleMark core) s = .next t ∧ OnlyCore core s t ∧
      t.core core = { c with marked := true, pend := c.pend ||| 8 }) ∧
  (c.st = .stopped → ∃ d, becomes (.start core) d ∧ d.main = {} ∧ d.shadow = {} ∧ d.flight = [] ∧ d.delay = none ∧
    d.st = .waitRel ∧ d.startReq = true ∧ d.pend = c.pend ∧ d.cause = c.cause ∧ d.faultCount = c.faultCount ∧
    d.dropCount = c.dropCount) ∧
  becomes (.stop core) { c with stopReq := true } ∧
  becomes (.tallyFaultClr core) { c with cause := 0, faultTask := 0, faultCount := 0, faultArmed := true } ∧
  becomes (.tallyDropClr core) { c with dropCount := 0, dropArmed := true } ∧
  (∀ q : Fin 4, (∀ i, i < 16 → (s.core (16 * q + i)).done = true ∨ (s.core (16 * q + i)).st = .stopped) →
    ∃ t, exec (.clusterMark q) s = .next t ∧ { t with tly := s.tly } = s ∧ { t.tly with marks := s.tly.marks } = s.tly ∧
      ∀ j, t.tly.marks.contains j = (s.tly.marks.contains j || j == q.val)) ∧
  (∀ (init : Init) (off : Nat) (val : Word),
    (off < 0x8000 ∨ (0x1C000 ≤ off ∧ off < 0x1C200)) →
    let a := 0x02400000 + core * 0x20000 + off / 4 * 4
    let addr := BitVec.ofNat 32 (0x02400000 + core * 0x20000 + off)
    ((s.core core).st = .stopped →
      ∃ t, exec (.tallyImageWrite init addr val) s = .next t ∧ Stored s t [(a, s.lanes init addr.toNat val)] ∧ OnlyEccEnded s t ∧
        { t with mem := s.mem, memc := s.memc } = s) ∧
    ((s.core core).st ≠ .stopped →
      ∃ t, exec (.tallyImageWrite init addr val) s = .next t ∧ OnlyCoreAndEvents core s t ∧
        t.core core = { s.core core with dropCount := (if (s.core core).dropCount < 0xFFFF then (s.core core).dropCount + 1 else (s.core core).dropCount), dropArmed := false } ∧
        Raised s t (s.core core).dropArmed 0x0C53 (core * 2 ^ 8)))) ∧
  ((∀ (core : Fin 64) (wait : Nat) (s : State) (task : Nat) (insts : List Nat), s.cleanStore core →
  (s.core core).st = .dispatch → NextTask s core (s.core core).nextTask (some task) →
  insts = (List.range 64).filter (fun j => s.enB (0x400000000 + (0x02400000 + core * 0x20000 + 0x1C200 + 8 * j)) 31 &&
    s.enF (0x400000000 + (0x02400000 + core * 0x20000 + 0x1C200 + 8 * j)) 13 4 == task) →
  inputsDelivered core task s = true →
    let c := s.core core
    let base := 0x02400000 + core * 0x20000 + 0x1C000 + 32 * task
    let first := insts.headD 0
    ∃ t, exec (.taskDispatch core wait) s = .next t ∧ OnlyCore core s t ∧ (t.core core).st = .run ∧
      (t.core core).task = task ∧ (t.core core).nextTask = task + 1 ∧ (t.core core).pc = (s.word base).toNat % 2 ^ 13 ∧
      (t.core core).taskCyc = 0 ∧ (t.core core).flight = [] ∧ (t.core core).shadow = (c.retireAll).shadow ∧
      (t.core core).main.dr 0 = Word.ofNat insts.length ∧ (t.core core).main.dr 1 = Word.ofNat (s.sctr / 24 - 1) ∧
      (t.core core).main.dr 2 = s.word (base + 8) ∧ (t.core core).main.pr 6 = Word.ofNat (0x14200 + 8 * first) ∧
      (t.core core).main.pr 7 = Word.ofNat (0x14400 + 240 * first) ∧
      (∀ r, 2 < r → (t.core core).main.dr r = (c.retireAll).main.dr r) ∧
      (∀ r, r ≠ 6 → r ≠ 7 → (t.core core).main.pr r = (c.retireAll).main.pr r) ∧
      (∀ r, (t.core core).main.ar r = (c.retireAll).main.ar r)) ∧
  (∀ (core : Fin 64) (s : State), canIssue core s = true → s.cleanWord core → s.cleanStore core →
  (s.core core).retire.plain → (s.core core).st = .run →
  let c := s.core core
  let last := c.retire.flight.foldl (fun n f => max n f.due) (c.cyc + 1)
  c.taskCyc + (last - c.cyc) ≤ s.wcyc core c.task →
    ∃ t, exec (.tend core) s = .next t ∧ OnlyCore core s t ∧ (t.core core).flight = [] ∧
      (t.core core).ended = c.ended ++ [c.task] ∧ (t.core core).fixedOut = c.fixedOut ∧ TaskEnded s t core))

/-- R185 to R187: decoding what the encoder writes gives every well-formed Tally instruction back, and a word that decodes
spells the OP that its instruction encodes to.

The model's own readings in it: log entry 28. -/
def Obligations.TallyDecodeEncode : Prop :=
  (∀ (i : Instr) (w : Word), tallyEncode i = some w → i.wf = true → ∃ core, tallyDecode core w = some i) ∧
  ∀ (core : Fin 64) (w : Word) (i : Instr), tallyDecode core w = some i →
    ∃ v, tallyEncode i = some v ∧ tallyDecode core v = some i ∧ v.extractLsb' 26 6 = w.extractLsb' 26 6

/-- R159, R164, R168, R184, R191, R193, R205: a step that runs a Tally command keeps every core in its form. -/
def Obligations.TallyStepKeepsForm : Prop := ∀ (s : State) (i : Instr) (rest : List Instr),
  s.pending = i :: rest → isTally i = true → TallyInv s →
    ∃ t, step s = .next t ∧ TallyInv t

/-- The form holds after reset. -/
def Obligations.ResetHasForm : Prop := TallyInv State.reset

/-- R11, R16, on concrete states: in reset and in Vault, where no block runs, a block boundary changes nothing; after engine
start, a boundary ends one block, the received block enters the processing stage, the processed one the transmit stage.

R62, R52: a raw tap passes its feed; a rate bridge interpolates (each L-th tap) or decimates, narrowed by 29 bits, and
its block is the feed of the block being received.

The model's own readings in it: log entries 9, 11. -/
def Obligations.BlockStagesAndTaps : Prop :=
  ((∀ (dt : Nat) (s : State), s.started = false → s.pwr.phase ≠ .awake → exec (.blockBoundary dt) s = .next s) ∧
  (let s := State.running 240 [(0, [1, 2, 3])] [(0x10005, [7, 8, 9])] true
   Ensures (exec (.blockBoundary 0) s) (fun t => t.sctr = 264 ∧ Tbl.getD t.engine.feeds 0 [] = [1, 2, 3] ∧
    t.engine.tx = [(0x10005, [7, 8, 9])] ∧ t.engine.slots = [] ∧ t.engine.outs = [] ∧
    t.engine.abx.released = false ∧ t.mem = []))) ∧
  (∀ (s : State), s.engine.abx.released = false →
  (∀ (tap : Fin 1280), s.enB (tapKey tap) 31 = true → ∃ t, exec (.stripProcess (.rawTap tap)) s = .next t ∧
    OnlySlot (6912 + tap) (s.feedBlock (s.enF (tapKey tap) 0 15)) s t) ∧
  (∀ (n : Fin 512), let w := s.enp (rbKey n)
    let b := Tbl.getD s.engine.bridges n {}
    let src := w.fld 0 13
    let inDom := rbInDom s.eng n
    w.bit 31 = true → b.done = false → s.slotDom src = inDom → s.slotReady src = true →
    let len := s.blockLen inDom
    let l := (s.rbShape n).1
    let taps := (s.rbShape n).2
    let x := fun (i : Int) => sampleAt (s.slotBlock src) b.hist i
    let h := fun (g k : Nat) => rbCoef l taps g k
    ∃ t ys, exec (.stripProcess (.rateBridge n)) s = .next t ∧
      { t with engine := { t.engine with bridges := s.engine.bridges, rx := s.engine.rx, okRx := s.engine.okRx }, sat := s.sat } = s ∧
      (∀ f, Tbl.find t.engine.rx f = if f = 2048 + n.val then some ys else Tbl.find s.engine.rx f) ∧
      t.engine.okRx = (2048 + n.val) :: s.engine.okRx ∧ (t.sat = s.sat ∨ t.sat = s.sat ||| 16) ∧
      (∀ m, m ≠ n.val → Tbl.getD t.engine.bridges m {} = Tbl.getD s.engine.bridges m {}) ∧
      (Tbl.getD t.engine.bridges n {}).done = true ∧
      (if rbUp s.eng n then ys.length = l * len ∧ ∀ j r, j < len → r < l → ys.getD (l * j + r) 0 =
          narrow (sumTo ((taps - r + l - 1) / l) (fun m => h l (l * m + r) * x (j - m))) 29
       else ys.length = len / l ∧ ∀ j, j < len / l → ys.getD j 0 =
          narrow (sumTo taps (fun k => h 1 k * x (l * j - k))) 29)))

/-- R64, R65, R66, R72: an input strip without sections and task, every feed in its domain: selector, trim, polarity, delay,
fader and mute, sample by sample; its source slot is stage 9's output.

The model's own readings in it: log entry 14. -/
def Obligations.InputStripChain : Prop := ∀ (i : Fin 2048) (s : State), s.engine.abx.released = false →
  let w := s.enp (keyIS i 0)
  let f := s.enp (keyIS i 4)
  let sect := s.enp (keyIS i 0x18)
  let st := s.inS i
  let dom := w.fld 1 2
  let n := s.blockLen dom
  let dly := s.enp (keyIS i 0x20)
  let d := dly.fld 0 11
  let buf := s.inBuf dly n
  w.bit 0 = true → st.phase = .waiting → sect.fld 16 2 = 0 → sect.fld 20 4 = 0 → s.enB (keyIS i 0x1C) 0 = false →
  (s.readFeed (f.fld 0 15) dom).2 = false → (s.readFeed (f.fld 16 15) dom).2 = false → s.isDomErr s.eng i = false →
  (0 < d → buf.base + 4 * buf.len ≤ 0x03800000 ∧ s.memc.ecc = []) →
    ∃ t ys, exec (.stripProcess (.inStrip i)) s = .next t ∧
      { t with engine := { t.engine with ins := s.engine.ins, slots := s.engine.slots }, sat := s.sat, mem := s.mem, memc := s.memc } = s ∧
      OnlyEccEnded s t ∧ Stored s t (if d = 0 then [] else delayWords buf (s.firstIndex dom) n (s.inputAt i)) ∧
      (t.sat = s.sat ∨ t.sat = s.sat ||| 2) ∧ (∀ k, k ≠ i.val → t.inS k = s.inS k) ∧
      (∀ m, Tbl.find t.engine.slots m = if m = i.val then some ys else Tbl.find s.engine.slots m) ∧
      ys.length = n ∧
      (∀ j, j < n → ys.getD j 0 = s.gained st.mute dom j (s.gained st.fader dom j
        (s.delayedBy buf d (s.firstIndex dom) st.fill (s.inputAt i) j))) ∧
      (t.inS i).phase = .done ∧ (t.inS i).fill = (if d = 0 then 0 else min buf.len (st.fill + n)) ∧
      ((t.inS i).c = selPos st.c (w.fld 16 16) (w.bit 4) n)

/-- R77, R79, R80: an output strip without sections and task whose source is complete and in its domain: alignment delay,
gain and mute; where it alone names a destination of its domain, that destination gets the block.

The model's own readings in it: log entry 14. -/
def Obligations.OutputStripChain : Prop := ∀ (k : Fin 1024) (dst : Nat × Nat) (s : State), s.engine.abx.released = false →
  let w := s.enp (keyOS k 0)
  let st := s.ouS k
  let dom := w.fld 1 2
  let d := s.enF (keyOS k 0xC) 0 17
  let n := s.blockLen dom
  let on := s.odlyOn = true
  let src := (s.osSource k).2.1
  let x := fun (j : Nat) => src.getD j 0
  w.bit 0 = true → st.phase = .waiting → (s.enp (keyOS k 4)).fld 16 5 = 0 → s.enB (keyOS k 8) 0 = false →
  (s.osSource k).1 = true → (s.osSource k).2.2 = dom → src.length = n → destOf s.eng k = some dst →
  s.osDomErr s.eng s.engine.abx.amdEng k = false → s.destDom dst = dom → destConf s.eng k = false →
  (on → d + n ≤ 131072 ∧ s.memc.ecc = [] ∧ ∀ j, j < n → -(2 ^ 31) ≤ x j ∧ x j < 2 ^ 31) →
    ∃ t ys, exec (.stripProcess (.outStrip k)) s = .next t ∧
      { t with engine := { t.engine with ous := s.engine.ous, outs := s.engine.outs }, sat := s.sat, mem := s.mem, memc := s.memc } = s ∧
      OnlyEccEnded s t ∧ (¬on → t.mem = s.mem) ∧ (on → Stored s t (delayWords (outBuf k) (s.firstIndex dom) n x)) ∧
      (t.sat = s.sat ∨ t.sat = s.sat ||| 2) ∧ (∀ m, m ≠ k.val → t.ouS m = s.ouS m) ∧
      (∀ m, Tbl.find t.engine.outs m = if m = destKey dst then some ys else Tbl.find s.engine.outs m) ∧
      ys.length = n ∧
      (on → ∀ j, j < n → ys.getD j 0 = s.gained st.mute dom j (s.gained st.gain dom j
        (s.delayedBy (outBuf k) d (s.firstIndex dom) st.fill x j))) ∧
      (¬on → ∀ j, j < n → ys.getD j 0 = s.gained st.mute dom j (s.gained st.gain dom j (x j))) ∧
      (t.ouS k).phase = .done

/-- R137 to R140, R148: one section as the chain of an output strip without task and destination: its output, its histories and its
saturation, and the mix with its partner while a crossfade runs. -/
def Obligations.SectionResults : Prop := ∀ (k : Fin 1024) (n : Nat) (s : State), s.engine.abx.released = false →
  let w := s.enp (keyOS k 0)
  let dom := w.fld 1 2
  let src := (s.osSource k).2.1
  let q := s.engine.secs
  w.bit 0 = true → (s.ouS k).phase = .waiting → (s.enp (keyOS k 4)).fld 0 16 = n → (s.enp (keyOS k 4)).fld 16 5 = 1 →
  s.enB (keyOS k 8) 0 = false → (s.osSource k).1 = true → (s.osSource k).2.2 = dom → src.length = s.blockLen dom →
  destOf s.eng k = none → s.osDomErr s.eng s.engine.abx.amdEng k = false → s.odlyOn = false →
    ∃ t ys sat, exec (.stripProcess (.outStrip k)) s = .next t ∧ SectionBlock (coefsOf s.eng n) (s.hist n) (t.hist n) src ys sat ∧
      (t.sat = s.sat ∨ t.sat = s.sat ||| 2) ∧ (t.ouS k).phase = .done ∧
      (∀ m, m ≠ k.val → t.ouS m = s.ouS m) ∧
      { t.eventsOf s with engine := { t.engine with ous := s.engine.ous, secs := q }, sat := s.sat } = s ∧
      t.engine.secs.fades = q.fades ∧
      (Tbl.find q.fades n = none → (t.ouS k).given = ys ∧ (∀ m, m ≠ n → t.hist m = s.hist m) ∧
        (sat → t.sat = s.sat ||| 2 ∧ t.engine.secs.satArmed = false ∧
          Tbl.getD t.engine.secs.satmap (n / 32) 0 = Tbl.getD q.satmap (n / 32) 0 ||| Word.ofNat (2 ^ (n % 32)) ∧
          SameEvents (s.raiseIf q.satArmed 0x0C30 n) t) ∧
        (¬sat → t.engine.secs.satmap = q.satmap ∧ t.engine.secs.satArmed = q.satArmed ∧ SameEvents s t)) ∧
      (∀ f, Tbl.find q.fades n = some f → f.partner ≠ n →
        (∀ m, m ≠ n → m ≠ f.partner → t.hist m = s.hist m) ∧
        ∃ old sat2, SectionBlock f.coefs (s.hist f.partner) (t.hist f.partner) src old sat2 ∧
          (t.ouS k).given.length = src.length ∧ ∀ j, j < src.length →
            let r := rampVal s.engine.rampsEng f.ramp ((s.rampTimes dom).getD j 0)
            nearest (old.getD j 0 * (2 ^ 30 - r) + ys.getD j 0 * r) 30 ((t.ouS k).given.getD j 0))

/-- R95, R96, R98, R102, R111: a lane finishes a piece whose sources stand and whose beads are of the rod's domain: an unsplit rod
is narrowed and written, a split one's partial waits; the collector adds a partial modulo 2^72 and writes the rod with the
last. -/
def Obligations.RodSums : Prop := ∀ (r : Fin 4096) (j : Nat) (s : State), s.memc.ecc = [] →
  let a := s.engine.abx
  let e := s.rod a.amdEng r
  -- R111: zeros where an uncorrectable error was read for the rod
  let given := fun (xs : List Int) => if a.badRods.contains r.val then xs.map (fun _ => 0) else xs
  (∀ p, (rodPieces e)[j]? = some p → a.released = false → e.en = true → a.doneP.contains (r * 128 + j) = false →
    s.tiersBelow e.tier = true → (∀ b, b ∈ s.pieceBeads e p → s.slotReady b.src = true ∧ s.slotDom b.src = e.dom) →
    let done := insertNat (r * 128 + j) a.doneP
    ∃ t sums, exec (.lanePieceDone r j) s = .next t ∧ sums.length = s.blockLen e.dom ∧
      (∀ n, n < s.blockLen e.dom → sums.getD n 0 = s.pieceAt e p n) ∧
      ((rodPieces e).length = 1 → RodWritten s t r (given sums) { a with doneP := done }) ∧
      ((rodPieces e).length ≠ 1 → t = s.setAbx { a with doneP := done, waiting := Tbl.put a.waiting (r * 128 + j) sums })) ∧
  (Tbl.find a.waiting (r * 128 + j) = none → exec (.collectorPartial r j) s = .next s) ∧
  (∀ xs, Tbl.find a.waiting (r * 128 + j) = some xs →
    ∃ t sums, exec (.collectorPartial r j) s = .next t ∧ sums.length ≤ xs.length ∧
      (∀ n, n < xs.length → (∀ ys, Tbl.find a.sums r = some ys → ys.length = xs.length) →
        sums.getD n 0 = wrapS 72 ((Tbl.getD a.sums r []).getD n 0 + xs.getD n 0)) ∧
      let a2 := { a with waiting := Tbl.del a.waiting (r * 128 + j), sums := Tbl.put a.sums r sums,
                         added := Tbl.put a.added r (Tbl.getD a.added r 0 + 1) }
      (Tbl.getD a.added r 0 + 1 = (rodPieces e).length → RodWritten s t r (given sums) a2) ∧
      (Tbl.getD a.added r 0 + 1 ≠ (rodPieces e).length → t = s.setAbx a2))

/-- R101, R103: a tier is complete once every tier below it is and each of its enabled rods with beads stands at its slot; the
block is released only with the section engine's and the four clusters' marks and every tier. A draining half is free
again. -/
def Obligations.TiersAndRelease : Prop := ∀ (s : State),
  let a := s.engine.abx
  (∀ tier : Fin 4, a.released = false →
    ((s.tierDone tier = true ↔ (∀ r, r ∈ s.enabledRods a.amdEng →
      ((s.rod a.amdEng r).tier < tier → rodPieces (s.rod a.amdEng r) ≠ [] → (s.rod a.amdEng r).tier ∈ a.tiers) ∧
      ((s.rod a.amdEng r).tier = tier → s.slotDone (2048 + r) = true))) ∧
    exec (.tierComplete tier) s = .next (if s.tierDone tier then s.setAbx { a with tiers := insertNat tier a.tiers } else s))) ∧
  ((a.released = true ∨ s.stripsDone = false ∨ (∃ c, c < 4 ∧ s.tly.marks.contains c = false) ∨ s.tiersBelow 4 = false) →
    exec .collectorRelease s = .next s) ∧
  (a.released = false → s.stripsDone = true → (∀ c, c < 4 → s.tly.marks.contains c = true) → s.tiersBelow 4 = true →
    let free := fun (h : Half) => if h = .draining then Half.building else h
    exec .collectorRelease s = .next { s with engine := { s.engine with
      shownAt := some (s.sctr - 24 + 23), rampsShown := s.engine.rampsEng,
      abx := { a with mainOther := free a.mainOther, amdOther := free a.amdOther, released := true, domRod := a.domNow } } })

/-- R105, R106, R107: CHECK freezes the BUILDING halves it names and waits for draining ones; it is ignored while a check is
busy or a half is FROZEN. Its end reports; a refusal returns the halves and raises 0x0C10. ABORT ends a check or releases
the halves.

The model's own readings in it: log entries 17, 91. -/
def Obligations.ImageChecks : Prop := ∀ (s : State),
  let a := s.engine.abx
  let frz := fun (h : Half) => if h = .building then Half.frozen else h
  let back := fun (h : Half) => if h = .frozen then Half.building else h
  (∀ kind : PageKind, let k := match kind with | .full => 0 | .amend => 1
    let m := if k = 0 then frz a.mainOther else a.mainOther
    let u := s.setFldN 0x10010004 0 1 k
    (a.chkBusy = true ∨ a.mainOther = .frozen ∨ a.amdOther = .frozen →
      exec (.check kind) s = .next (u.setAbx { a with chkIgn := true })) ∧
    (a.chkBusy = false → a.mainOther ≠ .frozen → a.amdOther ≠ .frozen →
      exec (.check kind) s = .next (u.setAbx { a with
        chkBusy := true, chkKind := k, accepted := false, done := false, mainOther := m, amdOther := frz a.amdOther,
        chkRun := (k != 0 || m == .frozen) && frz a.amdOther == .frozen }))) ∧
  (a.chkBusy = true → a.chkRun = false →
    let m := if a.chkKind = 0 then frz a.mainOther else a.mainOther
    exec .checkStart s = .next (s.setAbx { a with
      mainOther := m, amdOther := frz a.amdOther,
      chkRun := (a.chkKind != 0 || m == .frozen) && frz a.amdOther == .frozen })) ∧
  (a.chkBusy = true → a.chkRun = true → s.memc.ecc = [] →
    let pm := if a.chkKind = 0 then 1 - a.mainLive else a.mainLive
    let f := s.checkImage pm (1 - a.amdLive)
    let sums := s.imageSums (1 - a.amdLive)
    let ok := decide (f.status = 0)
    exec .checkDone s = .next ((s.setAbx { a with
      chkBusy := false, chkRun := false, done := true, accepted := ok, status := f.status, reason := f.reason, rod := f.rod,
      index := f.index, area := f.area, units := min 0xFFFFFF sums.1, cycles := min 0xFFFFFF sums.2.1,
      pieces := sums.2.2.1, mainOther := if ok then a.mainOther else back a.mainOther,
      amdOther := if ok then a.amdOther else back a.amdOther }).raiseIf (f.status ≠ 0) 0x0C10
        (f.status + f.reason * 2 ^ 8 + f.rod * 2 ^ 16))) ∧
  ((a.chkBusy = true ∨ a.mainOther = .frozen ∨ a.amdOther = .frozen) →
    exec .abort s = .next (s.setAbx { a with
      chkBusy := false, chkRun := false, accepted := false, done := true, status := 8, reason := 0, rod := 0, index := 0,
      area := 0, mainOther := back a.mainOther, amdOther := back a.amdOther })) ∧
  (a.chkBusy = false → a.mainOther ≠ .frozen → a.amdOther ≠ .frozen → exec .abort s = .next s)

/-- R106: what the checker finds first: the lowest enabled rod with a BAD_PARAM reason, its least reason; else more than
2,097,152 half-units, else a finish above 499,500 lane cycles, else OK.

The model's own readings in it: log entry 17. -/
def Obligations.CheckerVerdict : Prop := ∀ (main amd : Nat) (s : State),
  let rods := s.imageRods amd
  let f := s.checkImage main amd
  (f.status = 0 ∨ f.status = 3 ∨ f.status = 5) ∧
  (f.status = 3 ↔ ∃ p, p ∈ rods ∧ (s.checkRod main amd rods p.1 p.2).isSome) ∧
  (f.status = 5 ∧ f.reason = 1 ↔ (∀ p, p ∈ rods → s.checkRod main amd rods p.1 p.2 = none) ∧
    2097152 < (rods.map (fun p => rodUnits s.hRatio p.2)).sum) ∧
  (f.status = 0 → (∀ r e, (r, e) ∈ rods → e.first + e.count ≤ 983040 ∧ e.afirst + e.acount ≤ 65536 ∧
      e.count + e.acount ≤ 16384 ∧ (0 < e.count → e.split + 1 ≤ e.count) ∧ (e.count = 0 → e.split = 0) ∧
      (∀ p, p ∈ rodPieces e → p.2.2 - p.2.1 ≤ 4096) ∧ e.dom ≠ 3 ∧ e.reservedBad = false) ∧
    (s.imageSums amd).2.1 ≤ 499500)

/-- R19, R42, R79, R518, R523: what a 32-bit write stores under ROT; posted writes of shared SRAM and registers; an address no target decodes; the
holding register of SCTR; ODLY_EN.

The model's own readings in it: log entries 13, 90, 91. -/
def Obligations.BusWrites : Prop :=
  ((∀ (i : Init) (a : Nat) (v : Word) (s : State), s.lanes i a v =
    (if s.bitN 0x10130000 0 = true ∧ i.val ≤ 1 ∧ inBanks a = true then v.rotateLeft (8 * (a % 4)) else v)) ∧
  (∀ (i : Init) (addr v : Word) (s : State), 0x03000000 ≤ addr.toNat → addr.toNat < 0x03800000 →
    ∃ t, exec (.registerWrite i addr v) s = .next t ∧
      Stored s t [(addr.toNat / 4 * 4, s.lanes i addr.toNat v)] ∧ OnlyEccEnded s t ∧
      t.eccAt addr.toNat = none ∧ { t with mem := s.mem, memc := s.memc } = s)) ∧
  (∀ (i : Init) (v : Word) (s : State),
  -- RMP_CMT_TGT_LO and HI, SEC_METER, MEM_CTL, TLY_IVEC0, TLY_ILIMIT0, APT_TSQ, BRG_CLKMON, MAC0_ADDRHI, CTL_ACT_LO
  (∀ e, e ∈ [(0x1002C000, 0xFFFFFFFF), (0x1002C004, 0xFFFFFFFF), (0x1003800C, 0x7FFFC1), (0x10130000, 0xFFFF0003),
      (0x10040008, 0x1FFF), (0x10040018, 0xFFFF), (0x10060804, 0x8000007F), (0x10072000, 0x3FF001F), (0x100C0008, 0xFFFF),
      (0x10160010, 0xFFFFFFFF)] →
    ∃ t, exec (.registerWrite i (BitVec.ofNat 32 e.1) v) s = .next t ∧ { t with regs := s.regs } = s ∧
      ∀ b, t.reg b = if b = e.1 then rwTakes (s.reg b) v (BitVec.ofNat 32 e.2) else s.reg b) ∧
  (∀ addr : Word, memTarget addr.toNat = none → isRegAddr addr.toNat = false →
    let m := s.memc
    exec (.registerWrite i addr v) s = .next ({ s with memc := { m with
      fabErr := (if m.fabErr < 0xFFFF then m.fabErr + 1 else m.fabErr), fabArmed := false,
      fabAddr := BitVec.ofNat 32 addr.toNat,
      fabSrc := BitVec.ofNat 32 (i.val + 16 + 2 ^ 31) } }.raiseIf m.fabArmed 0x0805 addr.toNat)) ∧
  (∀ addr : Word, isRegAddr addr.toNat = true → memTarget addr.toNat = none → regDef (addr.toNat / 4 * 4) = none →
    exec (.registerWrite i addr v) s = .next s)) ∧
  (∀ (i : Init) (s : State),
  (∀ pos : Fin 24,
    let place := if s.started then max s.engine.pos pos.val else 0
    ∃ t, exec (.sctrLoRead i pos) s = .next t ∧
    { t with ini := s.ini, engine := { t.engine with pos := s.engine.pos } } = s ∧ t.engine.pos = place ∧
    t.iniReg 0x10000100 i = BitVec.ofNat 32 (s.sctr + place) ∧
    t.iniReg 0x10000104 i = BitVec.ofNat 32 ((s.sctr + place) / 2 ^ 32) ∧
    (∀ k j, ((k ≠ 0x10000100 ∧ k ≠ 0x10000104) ∨ j ≠ i) → t.iniReg k j = s.iniReg k j)) ∧
  (∀ val : Word,
    let u := s.setFldN 0x10038008 0 5 (val.fld 0 5)
    let delays := fun (ps : Tbl Word) => ∃ k, k ∈ enabledOS ps ∧ pfld ps (keyOS k 0xC) 0 17 ≠ 0
    (val.bit 31 = true → (s.fldN 0x10130080 0 2 % 3 = 0 ∨ s.bitN 0x10038008 31 = true) →
      exec (.odlyEnWrite i val) s = .next u) ∧
    (val.bit 31 = true → s.fldN 0x10130080 0 2 % 3 ≠ 0 → s.bitN 0x10038008 31 = false →
      ∃ t, exec (.odlyEnWrite i val) s = .next t ∧ t.reg 0x10038008 = (u.reg 0x10038008).setFld 31 1 1 ∧
        { t with regs := u.regs, engine := { t.engine with ous := s.engine.ous } } = u ∧
        (∀ b, b ≠ 0x10038008 → t.reg b = s.reg b) ∧
        t.engine.ous = (s.engine.ous.map (fun e => (e.1, { e.2 with fill := 0 }))).filter (fun e => e.2 ≠ ({} : OutStrip))) ∧
    (val.bit 31 = false → (delays s.live ∨ delays s.next) → exec (.odlyEnWrite i val) s = .next u) ∧
    (val.bit 31 = false → ¬delays s.live → ¬delays s.next →
      exec (.odlyEnWrite i val) s = .next (u.setFldN 0x10038008 31 1 0))))

/-- R94, R121, R122: a fabric write to a half that is BUILDING is stored, any other is dropped, counted and told by 0x0C13; a write of a NEXT
parameter changes that parameter, marks it, and leaves its epoch in RMP_WEPOCH.

The model's own readings in it: log entries 13, 82. -/
def Obligations.PageAndNextWrites : Prop :=
  (∀ (s : State),
  let a := s.engine.abx
  (∀ (i : Init) (addr val : Word), let x := addr.toNat / 4 * 4
    let page := x / 0x01100000
    let off := x % 0x01100000
    x < 0x02200000 →
    let open_ := (off < 0x00F00000 ∧ page ≠ a.mainLive ∧ a.mainOther = .building) ∨
      (0x00F00000 ≤ off ∧ off < 0x01010000 ∧ page ≠ a.amdLive ∧ a.amdOther = .building)
    (open_ → ∃ t, exec (.pageWrite i addr val) s = .next t ∧ Stored s t [(x, s.lanes i addr.toNat val)] ∧ OnlyEccEnded s t ∧
      { t with mem := s.mem, memc := s.memc } = s) ∧
    (¬open_ → exec (.pageWrite i addr val) s = .next ((s.setAbx { a with
      wrDrop := (if a.wrDrop < 0xFFFF then a.wrDrop + 1 else a.wrDrop), wrArmed := false }).raiseIf a.wrArmed 0x0C13 x))) ∧
  exec .wrdropClr s = .next (s.setAbx { a with wrDrop := 0, wrArmed := true })) ∧
  (∀ (i : Init) (addr val : Word) (key : Nat) (s : State), ParamAt s i addr.toNat key →
  ∃ t, exec (.nextWrite i addr val) s = .next t ∧ { t with next := s.next, marks := s.marks, ini := s.ini } = s ∧
    (∀ k, t.nxt k = if k = key then rwTakes (s.nxt k) val (Word.ofNat (regMask addr.toNat)) else s.nxt k) ∧
    (∀ k, k ∈ t.marks ↔ (k = key ∨ k ∈ s.marks)) ∧
    t.iniReg 0x1002801C i = Word.ofNat s.engine.cmt.epoch ∧
    (∀ k j, (k ≠ 0x1002801C ∨ j ≠ i) → t.iniReg k j = s.iniReg k j))

/-- R112, R125, R127, R133: arming takes C, PAGE and COND, or is refused with BAD_PARAM, reason 0x20, or sets ARM_IGN; CANCEL and CONFIRM reach
the armed commit; a compaction starts where one is due and nothing is pending.

The model's own readings in it: log entry 45. -/
def Obligations.CommitUnitCommands : Prop :=
  (∀ (ctl : Word) (s : State), ctl.bit 29 = false → ctl.bit 30 = false →
  let c := s.engine.cmt
  let u := s.setReg 0x1002C008 (rwTakes (s.reg 0x1002C008) ctl 3)
  let target := (s.reg 0x1002C000).toNat + (s.reg 0x1002C004).toNat * 2 ^ 32
  (c.armed = none → 24 * (s.sctr / 24 + 2) ≤ target / 24 * 24 →
    exec (.commitArm ctl) s = .next (u.setCmt { c with
      armed := some ⟨target, ctl.bit 0, ctl.bit 1⟩, confirm := false, cancelled := false, state := 1 })) ∧
  (c.armed = none → target / 24 * 24 < 24 * (s.sctr / 24 + 2) →
    exec (.commitArm ctl) s = .next ((u.setCmt (c.refused 3 0x20)).raise 0x0C21 (3 * 2 ^ 8 + 0x20))) ∧
  (c.armed ≠ none → c.cancelled = false → exec (.commitArm ctl) s = .next (u.setCmt { c with armIgn := true }))) ∧
  (∀ (s : State),
  let c := s.engine.cmt
  (c.armed ≠ none → exec .cancel s = .next (s.setCmt { c with cancelled := true }) ∧
    exec .confirm s = .next (s.setCmt { c with confirm := true })) ∧
  (c.armed = none → exec .cancel s = .next s ∧ exec .confirm s = .next s)) ∧
  (∀ (s : State),
  (s.compactDue = true ↔ s.zk.compact = true ∨ 49152 < s.amendCount [] ∨ 104858 < s.deadUnits ∨ s.freeSlots < 256) ∧
  ((s.cus.own ≠ 2 ∨ s.compactDue = false) → exec .compaction s = .next s) ∧
  (s.cus.own = 2 → s.compactDue = true → s.zk.change = none → s.zk.aside = none →
    exec .compaction s = .next (startChange { s with zk := { s.zk with compact := false, change := some { src := .compaction } } })))

/-- R118, R126, R136: the resolution at B takes the first condition that applies; a refusal changes no page, set, slot or
epoch; an accepted commit makes NEXT LIVE, re-arms the marked slots, swaps the halves where PAGE = 1, raises the epoch and
records C.

The model's own readings in it: log entry 11. -/
def Obligations.CommitResolution : Prop := ∀ (s : State), s.unitAlone →
  let c := s.engine.cmt
  (s.cmtDue = none → exec .commitResolve s = .next s) ∧
  (∀ a : Armed, c.armed = some a → a.c / 24 * 24 ≤ s.sctr →
    let refuses := fun (status reason : Nat) =>
      exec .commitResolve s = .next ((s.setCmt (c.refused status reason)).raise
        (if reason = 0x23 then 0x0C22 else 0x0C21) (if reason = 0x23 then s.node else status * 2 ^ 8 + reason))
    (c.cancelled = true → refuses 8 0x24) ∧
    (c.cancelled = false → a.cond = true → c.confirm = false → refuses 7 0x23) ∧
    (c.cancelled = false → (a.cond = true → c.confirm = true) → s.nextBadCount ≠ 0 → refuses 3 0x21) ∧
    (c.cancelled = false → (a.cond = true → c.confirm = true) → s.nextBadCount = 0 → a.page = true → s.imageReady = false →
      refuses 6 0x22) ∧
    (c.cancelled = false → (a.cond = true → c.confirm = true) → s.nextBadCount = 0 →
      (a.page = true → s.imageReady = true) → (enabledOS s.next).find? (destConf s.next) = none →
      (∀ k, k ∈ s.marks → k % 4 = 0) → ({ s with live := s.next }).transitConf = none →
      ∃ t, exec .commitResolve s = .next t ∧ t.live = s.next ∧ t.marks = [] ∧
        t.engine.cmt = { c with
          armed := none, confirm := false, cancelled := false, state := 2, status := 0, reason := 0,
          epoch := (c.epoch + 1) % 2 ^ 32, lastC := a.c, swapped := some (a.c / 24 * 24) } ∧
        SameEvents (s.raise 0x0C20 ((c.epoch + 1) % 2 ^ 16)) t ∧
        (∀ n, 1 ≤ n → n < 4096 → Tbl.getD t.engine.ramps n {} =
          if 0x10020000 + 4 * n ∈ s.marks ∨ 0x10024000 + 4 * n ∈ s.marks then
            { cfg := s.nxt (0x10020000 + 4 * n),
              start := if s.nxtB (0x10020000 + 4 * n) 4 then absStart (a.c / 24 * 24) (s.nxt (0x10024000 + 4 * n)).toNat else a.c }
          else Tbl.getD s.engine.ramps n {}) ∧
        (a.page = false → t.engine.abx = s.engine.abx) ∧
        (a.page = true → t.engine.abx.amdLive = 1 - s.engine.abx.amdLive ∧
          t.engine.abx.mainLive = (if s.engine.abx.chkKind = 0 then 1 - s.engine.abx.mainLive else s.engine.abx.mainLive)) ∧
        { t.eventsOf s with
          live := s.live, marks := s.marks, tly := s.tly
          engine := { t.engine with cmt := s.engine.cmt, ramps := s.engine.ramps, abx := s.engine.abx } } = s))

/-- R129 to R131, R411, R412: the local answer of a tree commit in PREPARE, given in time or NOT_READY after 8 blocks, which
cancels the node's own arm; the manager's ABORT on command or at the deadline.

The model's own readings in it: log entries 57, 94. -/
def Obligations.TreeCommitAnswers : Prop := ∀ (s : State),
  let t := s.csc.tree
  let own := fun (u : State) => if t.mine ∧ u.engine.cmt.armed ≠ none then u.setCmt { u.engine.cmt with cancelled := true } else u
  -- the decision is journaled before it is sent (R426): the phase, the TAG and the target
  let src := if s.zk.change.any (fun c => c.tag == t.tag) then (s.zk.change.map (fun c => c.src)).getD .host else .host
  let aborts := fun (u : State) (n : Nat) => escSync (journalCommit src 0
    [3, Word.ofNat (t.tag.getD 0), Word.ofNat t.target, Word.ofNat (t.target / 2 ^ 32)]
    (own ((u.withTree { t with phase := 3 }).raise 0x0C23 n)))
  let silent := (minOpt s.treeBad s.treeSilent).getD 0
  (t.phase = 1 → t.ans = 0 → t.prepAt + 8 ≤ s.sctr / 24 → s.cscRole ≠ 1 →
    exec .answerTimeout s = .next (own (s.withTree { t with ans := 2 }))) ∧
  ((t.phase ≠ 1 ∨ t.ans ≠ 0 ∨ s.sctr / 24 < t.prepAt + 8) → exec .answerTimeout s = .next s) ∧
  (∀ val : Word, let u := s.setReg 0x100E2000 (val.setBit 31 false &&& 0x3FF)
    (t.phase = 1 → t.ans = 0 → t.tag = some (val.fld 0 8) → s.cscRole ≠ 1 →
      (val.fld 8 2 = 1 → exec (.commitAnswerWrite val) s = .next (u.withTree { t with ans := 1 })) ∧
      (val.fld 8 2 = 2 → exec (.commitAnswerWrite val) s = .next (own (u.withTree { t with ans := 2 })))) ∧
    ((t.phase ≠ 1 ∨ t.ans ≠ 0 ∨ t.tag ≠ some (val.fld 0 8) ∨ val.fld 8 2 = 0 ∨ val.fld 8 2 = 3) →
      exec (.commitAnswerWrite val) s = .next u)) ∧
  (t.ans ≠ 0 → s.cscRole = 1 → t.phase = 1 →
    let u := s.setReg 0x100E2000 (s.reg 0x100E2000 &&& 0x3FF)
    exec .commitAnsAbort s = .next (aborts u silent)) ∧
  (s.cscRole = 1 → t.phase = 1 → s.treeAns = 0 → t.target / 24 ≤ s.sctr / 24 + s.subDepth + 1 →
    exec .treeCommitDeadline s = .next (aborts s silent)) ∧
  ((s.cscRole ≠ 1 ∨ t.phase ≠ 1 ∨ s.treeAns ≠ 0 ∨ s.sctr / 24 + s.subDepth + 1 < t.target / 24) →
    exec .treeCommitDeadline s = .next s)

/-- R207 to R209, R212, R215, R216, R220 to R222: the decimator's scaled output at each input i with (i + 1) mod L = 0, the FIR
over past outputs, due where (i + 1) mod (L F) = 0, and what a chain that no longer settles puts out; the periods of a chain that
does not run pass. Monitor chains are those no open measurement of MON listens to.

R211, R214, R217, R220, R221: the end of an RMS window, restart and settling, the clears, WIN, and a coefficient word,
which a set in use drops and counts.

The model's own readings in it: log entry 19. -/
def Obligations.ChainsAndFilters : Prop :=
  (∀ (c : Fin 48) (s : State), (c.val < 32 → s.groupMeasures (c / 2) = false) →
  let ch := s.chain c
  let l := s.chL c
  let live := s.chEn c = true ∧ s.chErr c = false
  let fed := c.val < 32 ∨ s.pdmRuns ((c - 32) / 4) = true
  let need := l - ch.idx % l
  let passed := fun (n : Nat) (t : State) => t.fdc.now = max s.fdc.now (ch.idx + n)
  (∀ bits, ¬live ∨ ¬fed → ∃ t, exec (.decimatorOutput c bits) s = .next t ∧ passed bits.length t ∧
    t.chain c = { ch with idx := ch.idx + bits.length, age := ch.age + bits.length } ∧ (∀ d, d ≠ c.val → t.chain d = s.chain d) ∧
    { t with fdc := { t.fdc with ch := s.fdc.ch, now := s.fdc.now } } = s) ∧
  (∀ bits : List Int, live → fed → bits.length = need → (∀ b, b ∈ bits → b = 0 ∨ b = 1) → ch.firDue = none →
    let input := fun (k : Nat) => if k < need then 2 * bits.getD (need - 1 - k) 0 - 1 else ch.ins.getD (k - need) 0
    let y := sumTo (4 * (l - 1) + 1) (fun k => boxAt l k * input k) * (s.reg (0x10050004 + 0x40 * c)).toNat
    let shift := s.fldN (0x10050008 + 0x40 * c) 0 6
    ∃ t ins, exec (.decimatorOutput c bits) s = .next t ∧ passed need t ∧
      (∀ k, ins.getD k 0 = if k < 4 * (l - 1) + 1 then input k else 0) ∧
      (let taken := { ch with ins := ins, age := ch.age + need, idx := ch.idx + need }
       (s.chFir c = true →
         t.chain c = { taken with
           xs := (narrow y shift :: ch.xs).take 384
           firDue := if (ch.idx + need) % (l * s.chF c) = 0 then some (ch.idx + need - 1) else none } ∧
         (∀ d, d ≠ c.val → t.chain d = s.chain d) ∧
         { t with fdc := { t.fdc with ch := s.fdc.ch, now := s.fdc.now }, sat := s.sat } = s) ∧
       (s.chFir c = false → ch.wake = false → s.chSpan c ≤ ch.age + need → ch.cnt < s.rmsWin c →
         ChainPutsOut s t c (ch.idx + need - 1) taken (narrow y shift) (narrowSats y shift)) ∧
       (s.chFir c = true ∨ (ch.wake = false ∧ s.chSpan c ≤ ch.age + need) →
         t.sat = if narrowSats y shift then s.sat ||| 8 else s.sat))) ∧
  (∀ i, live → s.chFir c = true → ch.firDue = some i → ch.wake = false → s.chSpan c + ch.idx ≤ ch.age + (i + 1) → ch.cnt < s.rmsWin c →
    let n := s.setN (s.chSet c)
    let h := fun (k : Nat) => wrapS 24 ((s.reg (0x10052000 + 0x400 * s.chSet c + 4 * min k (n - 1 - k))).fld 0 24 : Nat)
    let z := sumTo n (fun k => h k * ch.xs.getD k 0)
    ∃ t, exec (.firOutput c) s = .next t ∧
      ChainPutsOut s t c i { ch with firDue := none } (narrow z 23) (narrowSats z 23) ∧ t.fdc.now = s.fdc.now ∧
      t.sat = if narrowSats z 23 then s.sat ||| 8 else s.sat) ∧
  ((¬live ∨ s.chFir c = false ∨ ch.firDue = none) → exec (.firOutput c) s = .next s)) ∧
  ((∀ (c : Fin 48) (s : State), let ch := s.chain c
    let win := max 1 (s.fldN (0x1005001C + 0x40 * c) 0 22)
    (win ≤ ch.cnt → ∃ ms : Nat, exec (.rmsWindowEnd c) s = .next (s.setChain c { ch with
        ms := min 0xFFFFFFFF ms, seq := (ch.seq + 1) % 2 ^ 32, acc := 0, cnt := 0 }) ∧
      (2 * (ms * (2 ^ 30 * win) - (ch.acc : Int)).natAbs < 2 ^ 30 * win ∨
        (2 * (ms * (2 ^ 30 * win) - (ch.acc : Int)).natAbs = 2 ^ 30 * win ∧ ms % 2 = 0))) ∧
    (ch.cnt < win → exec (.rmsWindowEnd c) s = .next s) ∧
    exec (.chainRestart c) s = .next (s.setChain c {
      sat := ch.sat, settling := true, wake := ch.wake, idx := max ch.idx (max s.fdc.now (64 * s.sctr)) }) ∧
    (let span := 4 * (s.chL c - 1) + 1 + (if s.chFir c then s.chL c * (s.setN (s.chSet c) - 1) else 0)
     (span ≤ ch.age → ch.idx % s.chRate c = 0 → ch.wake = false →
       exec (.settlingEnd c) s = .next (s.setChain c { ch with settling := false })) ∧
     ((ch.age < span ∨ ch.idx % s.chRate c ≠ 0 ∨ ch.wake = true) → exec (.settlingEnd c) s = .next s)) ∧
    exec (.pkClr c) s = .next (s.setChain c { ch with pk := 0, hold := 0 }) ∧
    (∀ val, exec (.rmsWinWrite c val) s = .next ((s.setReg (0x1005001C + 0x40 * c)
      (rwTakes (s.reg (0x1005001C + 0x40 * c)) val 0x3FFFFF)).setChain c { ch with acc := 0, cnt := 0 }))) ∧
  (∀ (set : Fin 8) (k : Fin 192) (val : Word) (s : State),
    let used := ∃ c, c < 48 ∧ s.chEn c = true ∧ s.chFir c = true ∧ s.chSet c = set
    let a := 0x10052000 + 0x400 * set.val + 4 * k.val
    (used → exec (.fdcCoefWrite set k val) s =
      .next { s with fdc := { s.fdc with drop := (if s.fdc.drop < 0xFFFF then s.fdc.drop + 1 else s.fdc.drop) } }) ∧
    (¬used → exec (.fdcCoefWrite set k val) s = .next (s.setReg a val))) ∧
  (∀ s : State, exec .fdcDropClr s = .next { s with fdc := { s.fdc with drop := 0 } }))

/-- R235, R243, R246, R250: enabling, refused with CFGERR and 0x0B05, starting and stopping a port; a staged mask waits.

R254 to R256: a PDM clock that is asked for starts, its chains settling for WAKE, at whose end they restart; a stuck
channel shows and raises 0x0B10 at the transition.

The model's own readings in it: log entries 39, 101. -/
def Obligations.PortStatesAndPdm : Prop :=
  (∀ (p : Fin 16) (s : State),
  let x := s.port p
  let ctl := 0x10060004 + 0x80 * p.val
  (x.st = .off → x.ending = false → (s.ptBadCfg p = true ∨ s.ptBadGroup p = true) →
    exec (.portEnable p) s = .next ((s.setPort p { x with cfgErr := true }).raise 0x0B05 (s.ledger 8 p))) ∧
  (x.st = .off → x.ending = false → s.ptBadCfg p = false → s.ptBadGroup p = false →
    ∃ t, exec (.portEnable p) s = .next t ∧ { t with regs := s.regs, ports := s.ports } = s ∧
      (∀ a, t.reg a = if a = ctl then (s.reg ctl).setFld 0 1 1 else s.reg a) ∧ (∀ q, q ≠ p.val → t.port q = s.port q) ∧
      (t.port p).st = .waitStart ∧ (t.port p).cfgErr = false ∧ (t.port p).recv = [] ∧ (t.port p).slipDrop = x.slipDrop) ∧
  (x.st ≠ .off → x.ending = false → exec (.portEnable p) s = .next s) ∧
  (let framed := x.st ≠ .off ∧ x.st ≠ .waitStart ∧ (s.ptMaster p = true ∨ x.inFrame = true)
   (framed → exec (.portDisable p) s = .next ((s.setFldN ctl 0 1 0).setPort p { x with ending := true })) ∧
   (¬framed → exec (.portDisable p) s = .next (slotsCheck ((s.setFldN ctl 0 1 0).setPort p { x with
      st := .off, assigning := false, held := [], leader := false, ending := false, inFrame := false, dout := [], doutPrev := none })))) ∧
  (∀ tick, (x.st ≠ .waitStart ∨ (s.bitN ctl 1 = true ∧ x.fired = false)) → exec (.portStart p tick) s = .next (s.atTick tick)) ∧
  (∀ tick, x.st = .waitStart → (s.bitN ctl 1 = true → x.fired = true) →
    (s.ptMaster p = true → x.startAt ≠ some tick → exec (.portStart p tick) s = .next (s.atTick tick)) ∧
    (s.ptMaster p = true → x.startAt = some tick →
      exec (.portStart p tick) s = .next (((s.atTick tick).setPort p { x with
        st := .run, next := tick / s.domPeriod (s.ptDom p), runAt := tick / s.domPeriod (s.ptDom p) }).raise 0x0B03 (s.ledger 8 p))) ∧
    (s.ptMaster p = false → ∃ t, exec (.portStart p tick) s = .next t ∧ { t with ports := s.ports } = s ∧
      { t.ports with port := s.ports.port } = (s.atTick tick).ports ∧ (∀ q, q ≠ p.val → t.port q = s.port q) ∧
      t.port p = { x with st := .acquire, inFrame := false, seen := false, good := 0, assigning := false
                          dout := (List.range (s.ptSlots p)).map (s.zeroOut p) })) ∧
  (∀ (tx : Bool) (val : Word) (tick : Nat), let m := 0x1006000C + 0x80 * p.val + (if tx then 4 else 0)
    exec (.maskWrite p tx val tick) s =
      .next (((s.atTick tick).setReg m val).setPort p { x with pend := true, pendAt := max x.pendAt tick })) ∧
  exec (.clrcnt p) s = .next (s.setPort p { x with
    slipDrop := 0, slipRepeat := 0, underruns := 0, frameErr := 0, clip := 0, slipArmed := true })) ∧
  (∀ (s : State),
  (∀ c : Fin 4, s.bitN 0x10061000 c = true ∨ (∃ i, i < 4 ∧ s.chEn (32 + 4 * c + i) = true) →
    s.ports.pdmRun.testBit c = false → ∃ t, exec (.pdmClockStart c) s = .next t ∧
      (∀ j, t.ports.pdmRun.testBit j = (s.ports.pdmRun.testBit j || j == c.val)) ∧
      (∀ k, t.chain k = if 32 + 4 * c ≤ k ∧ k < 36 + 4 * c then { s.chain k with settling := true, wake := true } else s.chain k) ∧
      { t with ports := { t.ports with pdmRun := s.ports.pdmRun }, fdc := { t.fdc with ch := s.fdc.ch } } = s) ∧
  (∀ c : Fin 4, s.pdmRuns c = true → ∃ t, exec (.pdmWakeEnd c) s = .next t ∧
      (∀ k, t.chain k = if 32 + 4 * c ≤ k ∧ k < 36 + 4 * c ∧ (s.chain k).wake then
          { sat := (s.chain k).sat, settling := true, idx := max (s.chain k).idx (max s.fdc.now (64 * s.sctr)) }
        else s.chain k) ∧ { t with fdc := { t.fdc with ch := s.fdc.ch } } = s) ∧
  (∀ ch : Fin 16, exec (.pdmStuck ch) s =
    .next ({ s with ports := { s.ports with stuck := s.ports.stuck ||| BitVec.ofNat 32 (2 ^ ch.val) } }.raiseIf
      (!s.ports.stuck.getLsbD ch) 0x0B10 ch)))

/-- R238, R240, R241, R244, R245: a frame of a master port in RUN, or of a slave port without a group whose frame lies in the
window of its next sample, is that sample; a frame two periods early is dropped and counted.

R240, R242, R243: the tick of the next sample of a slave port without a group passes without a frame: a repeat of the
sample before, or UNDERRUN after a repeat; a frame of incorrect length counts in every state, and is UNDERRUN at its own sample, from
which on the samples are invalid. A port that EN = 0 has met goes OFF there.

The model's own readings in it: log entry 39. -/
def Obligations.PortFramesAndSlips : Prop :=
  (∀ (p : Fin 16) (words : List Int) (s : State),
  let x := s.port p
  let period := s.domPeriod (s.ptDom p)
  let base := s.domBase (s.ptDom p)
  x.st = .run → x.ending = false → x.pend = false →
  (∀ n, s.ptMaster p = true → x.next ≤ n → base ≤ n → n < base + s.blockLen (s.ptDom p) →
    ∃ t, exec (.masterFrameStart p n words) s = .next t ∧ FrameTaken s t p n n words 0) ∧
  (∀ tick, s.ptMaster p = false → s.fldN (0x10060000 + 0x80 * p) 24 4 = 0 → tick ≤ period * x.next →
    (period * x.next < tick + 2 * period →
      ∃ t, exec (.slaveFrameStart p tick words) s = .next t ∧
        FrameTaken s t p x.next (x.next - 2) words ((period * x.next : Nat) - (tick : Int))) ∧
    (tick + 2 * period ≤ period * x.next →
      ∃ t, exec (.slaveFrameStart p tick words) s = .next t ∧ OnlyPort p s t ∧ t.sat = s.sat ∧
        t.port p = { x with
          slipDrop := (if x.slipDrop < 0xFFFF then x.slipDrop + 1 else x.slipDrop), slipArmed := false
          inFrame := true, lastFrame := none, doutPrev := x.dout.getLast?.join } ∧
        SameEvents (s.raiseIf x.slipArmed
0x0B01 (s.ledger 8 p)) t))) ∧
  (∀ (p : Fin 16) (s : State),
  let x := s.port p
  let under := fun (y : Port) (u : State) =>
    let v := (u.setPort p { y with
      st := .underrun, underruns := (if y.underruns < 0xFFFF then y.underruns + 1 else y.underruns), seen := false, good := 0
      held := [], leader := false }).raise 0x0B02 (s.ledger 8 p)
    slotsCheck (v.setPort p { v.port p with dout := (List.range (s.ptSlots p)).map (s.zeroOut p) })
  let off := fun (y : Port) (u : State) => slotsCheck (u.setPort p { y with
    st := .off, assigning := false, held := [], leader := false, ending := false, inFrame := false, dout := [], doutPrev := none })
  let frameErr := if x.frameErr < 0xFFFF then x.frameErr + 1 else x.frameErr
  let late := s.atTick (s.domPeriod (s.ptDom p) * x.next)
  s.ptMaster p = false →
  ((x.st = .waitStart ∨ x.st = .underrun ∨ (x.st = .acquire ∧ x.assigning = false)) → x.ending = false →
    exec (.incorrectFrameLength p) s = .next (s.setPort p { x with
      frameErr := frameErr, inFrame := false, lastFrame := none, seen := false, good := 0 })) ∧
  (x.st = .run → x.ending = true → exec (.slipRepeat p) s = .next (off x late)) ∧
  (x.st = .run → x.ending = false → s.fldN (0x10060000 + 0x80 * p) 24 4 = 0 → x.repeated = false →
    ∃ t, exec (.slipRepeat p) s = .next t ∧ OnlyPort p s t ∧ t.sat = s.sat ∧
      SameEvents (s.raiseIf x.slipArmed 0x0B01 (s.ledger 8 p)) t ∧
      (∃ r : PortSample, (t.port p).recv = x.recv ++ [r] ∧ r.n = x.next ∧ r.ok = true ∧ r.mask = x.maskLive ∧
        r.vals = x.lastVals.map (faded (x.next - x.runAt))) ∧
      (t.port p).repeated = true ∧ (t.port p).next = x.next + 1 ∧ (t.port p).st = .run ∧
      (t.port p).slipRepeat = (if x.slipRepeat < 0xFFFF then x.slipRepeat + 1 else x.slipRepeat)) ∧
  (x.st = .run → x.ending = false → s.fldN (0x10060000 + 0x80 * p) 24 4 = 0 → x.repeated = true →
    exec (.slipRepeat p) s = .next (under x late)) ∧
  (x.st = .run →
    let recv := fun (n : Nat) => x.recv.map (fun r => if n ≤ r.n then { r with ok := false } else r)
    let y := { x with
      frameErr := frameErr, inFrame := false, lastFrame := none
      recv := match x.lastFrame with | some n => recv n | none => x.recv }
    (x.ending = false → exec (.incorrectFrameLength p) s = .next (under y s)) ∧
    (x.ending = true → exec (.incorrectFrameLength p) s = .next (off y s))))

/-- R272, R273, R276: the state each carrier period start takes a channel to, no row of R274 having just ended; the first one after
a clear acts as EN = 0 with CLRRES = 0, and resumes from the ramp with CLRRES = 1 and CLEAR_CODE = 1; the clears that were written since
the last one act.

The model's own readings in it: log entry 36. -/
def Obligations.BridgeTransitions : Prop := ∀ (ch : Fin 64) (s : State),
  let c := s.br ch
  let b := ch.val / 8
  let ctl := if ch.val % 8 = 0 then s.reg (0x10071000 + 0x20 * b) else (s.bank b).ctl
  let idle := c.st = .parked ∨ c.st = .trip ∨ c.st = .latched
  let ends := c.ended = true ∧ ¬idle
  ∃ t, exec (.carrierPeriodStart ch) s = .next t ∧
    (c.row.overrides = false → (¬ends ∨ (ctl.bit 1 = true ∧ ctl.bit 0 = false)) → (t.br ch).st = s.brNext ch) ∧
    (ends → ctl.bit 1 = false → (t.br ch).st = (s.setBr ch { c with offByClear := true }).brNext ch ∧ (t.br ch).offByClear = true) ∧
    (ends → ctl.bit 1 = true → ctl.bit 0 = true →
      (t.br ch).st = (match c.st with | .lvlDn => .parked | .cmDn => .parked | .retry => .retry | _ => .cmUp) ∧
      (t.br ch).i = 0 ∧ (t.br ch).lam = 0) ∧ (t.br ch).ended = false ∧
    (t.br ch).limit = (if c.occReq then 0 else c.limit) ∧ (t.br ch).trips = (if c.occReq then 0 else c.trips) ∧
    (t.br ch).ocIdle = (c.ocIdle && !c.idleReq) ∧ (t.br ch).clrReq = false ∧ (t.br ch).occReq = false ∧
    (t.br ch).clipReq = false ∧ (t.br ch).idleReq = false ∧
    (∀ m, m ≠ ch.val → t.br m = s.br m) ∧ t.mem = s.mem ∧ t.regs = s.regs ∧ t.engine.tx = s.engine.tx

/-- R263, R264, R265, R268: a carrier period in RUN: the interpolated sum, the drive, the quantiser with its fifth-order error
feedback, and the two pulse widths; a clamp sets CLIP and counts. -/
def Obligations.BridgeModulation : Prop := ∀ (ch : Fin 64) (s : State), s.brRuns ch →
  let c := s.br ch
  let per := c.per.getD (if c.stagger.getD (ch % 16) < 8 then 1 else 0)
  let hist := if per % 8 = 1 then ((Tbl.getD s.engine.tx (0x10000 + ch.val) []).getD (per / 8) 0 :: c.hist).take 9 else c.hist
  let r := (per + 7) % 8
  let y := sumTo ((65 - r + 7) / 8) (fun m => brTap (8 * m + r) * hist.getD m 0)
  let dmax : Int := 128 - s.fldN 0x10072000 0 5
  let u0 := y * 65536 * (c.fsq / (s.bank (ch / 8)).good : Nat) / 2 ^ 65
  let u := max (-(dmax * 2 ^ 16)) (min (dmax * 2 ^ 16) u0)
  let e := fun (k : Nat) => c.errs.getD k 0
  let v := u - (5 * e 0 - 10 * e 1 + 10 * e 2 - 5 * e 3 + e 4)
  let d0 := (v + 2 ^ 15) / 2 ^ 16
  let d := max (-dmax) (min dmax d0)
  let pulse := fun (w : Int) => if w < s.fldN 0x10072000 0 5 then 0 else w.toNat
  let clamps := decide (u ≠ u0 ∨ d ≠ d0)
  let clip := c.clip && !c.clipReq
  let cnt := if c.clipReq then 0 else c.clipCnt
  let bank := s.bank (ch / 8)
  ∃ t, exec (.carrierPeriodStart ch) s = .next t ∧ (t.br ch).st = .run ∧ (t.br ch).hist = hist ∧ (t.br ch).per = some (per + 1) ∧
    (t.br ch).wA = pulse (128 + d) ∧ (t.br ch).wB = pulse (128 - d) ∧
    (t.br ch).errs = (max (-(2 ^ 16)) (min (2 ^ 16) (d * 2 ^ 16 - v)) :: c.errs).take 5 ∧ (t.br ch).lastY = y ∧
    (t.br ch).clip = (clip || clamps) ∧
    (t.br ch).clipCnt = (if clamps ∧ cnt < 0xFFFFFFFF then cnt + 1 else cnt) ∧
    (t.br ch).runN = c.runN + 1 ∧ SameEvents (s.raiseIf (clamps && !clip) 0x020A (s.ledger 9 ch)) t ∧
    (∀ m, m ≠ ch.val → t.br m = s.br m) ∧ { t.mod with ch := s.mod.ch, banks := s.mod.banks } = s.mod ∧
    (∀ b, t.bank b = if ch.val = 8 * b then { bank with
        ctl := s.reg (0x10071000 + 0x20 * b), window := s.reg (0x10071004 + 0x20 * b)
        okPer := if bank.valid then min 38400 (bank.okPer + 1) else 0 } else s.bank b) ∧
    (∀ m, t.monC m = if m = ch.val ∧ clamps = true ∧ cnt < 0xFFFFFFFF then { s.monC m with clipAdv := true } else s.monC m) ∧
    { t.mon with ch := s.mon.ch } = s.mon ∧ { t.eventsOf s with mod := s.mod, mon := s.mon } = s

/-- R264, R267, R268, R272, R273, R279, R280: the commands and timers of a channel; a clear waits for the next carrier period.

R276, R277: clear pins and their release, which each channel of the bank meets at its next carrier-period start; the clock
monitor's windows.

The model's own readings in it: log entry 36. -/
def Obligations.BridgeCommandsAndClears : Prop :=
  (∀ (ch : Fin 64) (s : State),
  let c := s.br ch
  let ctl := 0x10070000 + 0x40 * ch.val
  let m := s.monC ch
  exec (.bridgeEnable ch) s = .next (let u := s.setFldN ctl 0 1 1
    if s.bitN ctl 0 then u else u.setMonC ch { m with validAt := s.sctr, unmeasured := false }) ∧
  exec (.bridgeDisable ch) s = .next ((s.setFldN ctl 0 1 0).setBr ch { c with offByClear := false }) ∧
  exec (.clipClear ch) s = .next (s.setBr ch { c with clipReq := true }) ∧
  exec (.occntClr ch) s = .next (s.setBr ch { c with occReq := true }) ∧
  (∀ val, exec (.staggerWrite ch val) s = .next (s.setFldN ctl 2 4 val.toNat)) ∧
  (∀ code : BitVec 12, let u := s.setFldN (ctl + 4) 0 12 code.toNat
    (s.fldN (ctl + 4) 0 12 = code.toNat → exec (.rangeChange ch code) s = .next s) ∧
    (s.fldN (ctl + 4) 0 12 ≠ code.toNat → (c.st = .parked ∨ c.st = .trip ∨ c.st = .latched) →
      exec (.rangeChange ch code) s = .next (u.setBr ch { c with fsq := code.toNat * 2 ^ 16, ranging := .idle })) ∧
    (s.fldN (ctl + 4) 0 12 ≠ code.toNat → c.st ≠ .parked → c.st ≠ .trip → c.st ≠ .latched →
      exec (.rangeChange ch code) s = .next (u.setBr ch { c with ranging := .waiting 0 }))) ∧
  exec (.clrLatch ch) s = .next (s.setBr ch { c with clrReq := true }) ∧
  (∀ val : BitVec 2, exec (.verdict ch val) s = .next
    (if (val = 1 ∨ val = 2) ∧ c.st = .retry ∧ c.step = .dwell then s.setBr ch { c with verdict := val.toNat } else s)) ∧
  exec (.retriesReset ch) s = .next (if c.st = .run ∧ 3840000 ≤ c.runN then s.setBr ch { c with retries := 0 } else s)) ∧
  (∀ (s : State),
  (∀ b : Fin 8, let k := s.bank b
    (k.clear = false → exec (.bclrActive b) s = .next ((s.setBank b { k with clear := true }).raise 0x0208 b)) ∧
    (k.clear = true → exec (.bclrActive b) s = .next s) ∧
    (k.clear = false → exec (.bclrRelease b) s = .next s) ∧
    (k.clear = true → ∃ t, exec (.bclrRelease b) s = .next t ∧ { t.eventsOf s with mod := s.mod } = s ∧
        SameEvents (s.raise 0x0209 b) t ∧ { t.mod with ch := s.mod.ch, banks := s.mod.banks } = s.mod ∧
        (∀ m, t.bank m = if m = b.val then { k with clear := false } else s.bank m) ∧
        (∀ n, t.br n = if n / 8 = b.val then { s.br n with ended := true } else s.br n))) ∧
  (∀ count : Nat, let m := { s.mod with clkCount := min 0xFFF count }
    let bad := { m with clkErr := true, clkStopped := false, goodWins := 0,
                        episodes := if m.clkErr then m.episodes else if m.episodes < 0xFFFF then m.episodes + 1 else m.episodes }
    ((count ≤ 2037 ∨ 2059 ≤ count) →
      exec (.clockErrorWindow count) s = .next ({ s with mod := bad }.raiseIf (!m.clkErr) 0x0206 0)) ∧
    (2037 < count → count < 2059 →
      exec (.clockErrorWindow count) s = .next (if !m.clkErr then { s with mod := m }
        else if 480 ≤ m.goodWins + 1 then { s with mod := { m with clkErr := false, goodWins := 0 } }.raise 0x0207 0
        else { s with mod := { m with goodWins := m.goodWins + 1 } }))) ∧
  (∃ t, exec .edgeClockStopped s = .next t ∧ t.mod.clkErr = true ∧ t.mod.clkStopped = true ∧
    SameEvents (s.raiseIf (!s.mod.clkErr) 0x0206 0) t ∧ { t.eventsOf s with mod := s.mod } = s))

/-- R272, R278, R279, R280: overcurrent, trips and retries of a channel whose group's monitor mux no dwell of it holds.

The model's own readings in it: log entry 36. -/
def Obligations.BridgeTrips : Prop := ∀ (ch : Fin 64) (s : State), (s.monG (ch / 4)).owner ≠ some ch.val →
  let c := s.br ch
  let ctl := 0x10070000 + 0x40 * ch.val
  let high := fun (tick : Nat) => (0 < c.wA ∧ 128 - (c.wA + 1) / 2 ≤ tick) ∨ (0 < c.wB ∧ 128 - (c.wB + 1) / 2 ≤ tick) ∨
    (c.modeS = true ∧ c.row = .pattern)
  let seen := ((List.range 8).filter (fun k => c.oc.testBit k)).length
  let cut : Nat → BrCh := fun tick => { c with
    oc := c.oc + 1, limit := (if c.limit < 0xFFFF then c.limit + 1 else c.limit), cut := true, wA := 0, wB := 0
    sCut := if c.modeS then some tick else none }
  (∀ tick : Fin 256, c.oc.testBit 0 = true ∨ tick.val < c.tail → exec (.ocDetect ch tick) s = .next s) ∧
  (∀ tick : Fin 256, c.oc.testBit 0 = false → c.tail ≤ tick.val → ¬high tick → exec (.ocDetect ch tick) s = .next (s.setBr ch { c with ocIdle := true })) ∧
  (∀ tick : Fin 256, c.oc.testBit 0 = false → c.tail ≤ tick.val → c.oc < 256 → high tick → seen < 3 →
    exec (.ocDetect ch tick) s = .next (s.setBr ch (cut tick))) ∧
  (∀ tick : Fin 256, c.oc.testBit 0 = false → c.tail ≤ tick.val → c.oc < 256 → high tick → 3 ≤ seen → c.st = .run →
      c.retries = 0 →
    exec (.ocDetect ch tick) s = .next ((s.setBr ch { cut tick with
      st := .trip, trips := (if c.trips < 0xFF then c.trips + 1 else c.trips), errs := [], tripN := 0, runN := 0 }).raise
        0x0201 (s.ledger 9 ch))) ∧
  (c.st = .trip → 384000 ≤ c.tripN → s.bitN ctl 1 = true → s.bitN ctl 0 = true → c.offByClear = false →
    ∃ t, exec (.tripTimerExpiry ch) s = .next t ∧ { t with mod := s.mod } = s ∧ (t.br ch).st = .retry ∧ (t.br ch).step = .cm ∧
      (t.br ch).i = 0 ∧ (t.br ch).n = max 5 (min 200 (s.fldN ctl 8 8)) * 384 ∧ (t.br ch).retries = c.retries ∧
      (∀ m, m ≠ ch.val → t.br m = s.br m)) ∧
  (c.st = .retry → c.step = .dwell → s.fldN 0x10072000 16 10 * 384 ≤ c.dwellN →
    (c.verdict = 2 → exec (.retryDwellEnd ch) s = .next (failsRetry ch c s)) ∧
    (c.verdict ≠ 2 → ∃ t, exec (.retryDwellEnd ch) s = .next t ∧ SameEvents (s.raise 0x0202 (s.ledger 9 ch)) t ∧
      (t.br ch).st = .lvlUp ∧ (t.br ch).lamTo = 65536 ∧ (t.br ch).lam0 = c.lam ∧ (t.br ch).retries = c.retries)) ∧
  ((c.st ≠ .retry ∨ c.step ≠ .dwell ∨ c.dwellN < s.fldN 0x10072000 16 10 * 384) → exec (.retryDwellEnd ch) s = .next s)

/-- R289, R293, R294, R295: a scan slot moves the muxes and decides the tones; the end of a slot's window latches the sums with
CLASS, VALID and CAUSE, and so does the window of a retry's dwell, once.

R296, R297, R298, R304: Zekor judges a latched window once: the line's and the read-back's runs, their events, and 20 s without
a valid window.

The model's own readings in it: log entries 20, 21, 37. -/
def Obligations.LineSupervision : Prop :=
  (∀ (s : State),
  ((s.sctr % 12000 ≠ 0 ∨ s.mon.slotAt = some (s.sctr / 12000)) → exec .scanSlotStart s = .next s) ∧
  (s.sctr % 12000 = 0 → s.mon.slotAt ≠ some (s.sctr / 12000) → ∃ t, exec .scanSlotStart s = .next t ∧
    t.mon.slotAt = some (s.sctr / 12000) ∧ t.mon.amp = s.reg 0x10080000 ∧
    { t with mon := s.mon, mod := s.mod, fdc := s.fdc } = s ∧
    (∀ j, j < 16 →
      let a := 0x10080100 + 4 * j
      let scan := s.bitN a 0
      let pos := if scan then s.sctr / 12000 % 4 else s.fldN a 1 2
      let g := s.monG j
      t.monG j = { g with scan := scan, pos := s.fldN a 1 2, cur := (if g.owner = none then pos else g.cur) } ∧
      (∀ i, i < 4 →
        let n := 4 * j + i
        let m := s.monC n
        let pms := (s.br n).pms / (2 ^ 30 * 96000)
        let ctl := 0x10081000 + 0x80 * n
        let tone := s.bitN ctl 1 || (s.bitN ctl 0 && (decide (pms < s.regN 0x10080004) || m.lastLow))
        ((scan = false ∨ i ≠ pos) → t.monC n = m ∧ t.br n = { s.br n with pms := 0 }) ∧
        (scan = true → i = pos → t.br n = { s.br n with pms := 0, tone := tone } ∧
          (t.monC n).slotOpen = true ∧ (t.monC n).lost = g.owner.isSome ∧ (t.monC n).pms = pms ∧
          (t.monC n).latched = m.latched ∧ (t.monC n).seq = m.seq ∧
          (g.owner ≠ some n → (t.monC n).sums = [] ∧ (t.monC n).nV = 0 ∧ (t.monC n).nI = 0 ∧ (t.monC n).notRun = false ∧
            (t.monC n).retry = false ∧ (t.monC n).clipAdv = false))))) ∧
  (∀ ch : Fin 64, let m := s.monC ch
    (s.br ch).st = .retry → (s.br ch).step = .dwell → m.dwellDone = false →
      (s.fldN 0x10072000 16 10 - 20) * 384 ≤ (s.br ch).dwellN →
    let runs := fun (c : Nat) => s.chEn c && decide (s.chL c = 16) && !s.chFir c && !s.chErr c
    let cause := if (s.monG (ch / 4)).owner ≠ some ch.val ∨ s.fldN 0x10072000 16 10 < 30 then 3
      else if !(runs (2 * (ch / 4)) && runs (2 * (ch / 4) + 1)) then 4 else 0
    ∃ t, exec (.windowLatch ch) s = .next t ∧ { t with mon := s.mon } = s ∧ { t.mon with ch := s.mon.ch } = s.mon ∧
      (∀ n, n ≠ ch.val → t.monC n = s.monC n) ∧
      t.monC ch = { m with
        latched := (if cause = 3 then m.latched else (List.range 10).map (fun k => wrapS 64 (m.sums.getD k 0 / 2 ^ 24)))
        seq := (m.seq + 1) % 2 ^ 16, valid := cause == 0, cause := cause, cls := (if cause = 0 then 3 else 0)
        endAt := s.sctr, clipped := m.clipAdv, retry := false, dwellDone := true }) ∧
  (∀ ch : Fin 64, let m := s.monC ch
    ((s.br ch).st ≠ .retry ∨ (s.br ch).step ≠ .dwell ∨ m.dwellDone = true ∨
      (s.br ch).dwellN < (s.fldN 0x10072000 16 10 - 20) * 384) →
    let due := s.sctr % 12000 = 11976 ∨ s.slotPos (ch / 4) ≠ ch.val % 4
    ((m.slotOpen = false ∨ ¬due) → exec (.windowLatch ch) s = .next s) ∧
    (m.slotOpen = true → due →
      let cause := s.slotCause ch
      exec (.windowLatch ch) s = .next (s.setMonC ch { m with
        latched := (if cause = 3 then m.latched else (List.range 10).map (fun k => wrapS 64 (m.sums.getD k 0 / 2 ^ 24)))
        seq := (m.seq + 1) % 2 ^ 16, valid := cause == 0, cause := cause
        cls := (if cause = 0 ∨ cause = 2 then (if (s.br ch).tone then 2 else 1) else 0)
        endAt := (s.sctr + 24) / 12000 * 12000 - 1, clipped := m.clipAdv
        slotOpen := false, lost := false, lastLow := cause == 2
        validAt := (if cause = 0 then (s.sctr + 24) / 12000 * 12000 - 1 else m.validAt)
        unmeasured := (m.unmeasured && cause != 0) })))) ∧
  (∀ (ch : Fin 64) (s : State),
  let m := s.monC ch
  let code := s.ledger 9 ch
  let silent := s.bitN (0x10070000 + 0x40 * ch.val) 0 = true ∧ m.unmeasured = false ∧ m.validAt + 960000 ≤ s.sctr
  let thr : Rat := match m.thrW with | none => 1 / 4 | some w => Config.supFrac w
  let line := supLine m
  let read := supRead m ((m.epsilon ch).map (fun e => decide (thr < e)))
  ∃ t, exec (.supEvaluate ch) s = .next t ∧
    ((m.judged = m.seq ∨ m.valid = false) →
      t.monC ch = { m with judged := m.seq, unmeasured := (m.unmeasured || decide silent) } ∧
      (∀ n, n ≠ ch.val → t.monC n = s.monC n) ∧ SameEvents (s.raiseIf (decide silent) 0x0105 code) t ∧
      { t.eventsOf s with mon := s.mon } = s) ∧
    (m.judged ≠ m.seq → m.valid = true → m.cls ≠ 3 →
      (t.monC ch).judged = m.seq ∧ (t.monC ch).lineFault = line.1 ∧ (t.monC ch).runAt = line.2.1 ∧
      (t.monC ch).outFault = read.1 ∧ (t.monC ch).rbRun = read.2.1 ∧ (t.monC ch).zLast = supZ m ∧
      (t.monC ch).seq = m.seq ∧ (t.monC ch).latched = m.latched ∧ (t.monC ch).unmeasured = (m.unmeasured || decide silent) ∧
      (∀ n, n ≠ ch.val → t.monC n = s.monC n) ∧
      SameEvents (((s.raiseIf line.2.2 (if line.1 then 0x0101 else 0x0102) code).raiseIf read.2.2 (if read.1 then 0x0103 else 0x0104)
        code).raiseIf (decide silent) 0x0105 code) t ∧
      { t.eventsOf s with mon := s.mon } = s) ∧
    (m.judged ≠ m.seq → m.valid = true → m.cls = 3 → (s.br ch).st = .retry → (s.br ch).step = .dwell →
      let short := match supZ m, m.zrefT with
        | some z, some r => decide (z < r / 4)
        | _, _ => false
      (t.br ch).verdict = (if short then 2 else 1) ∧ (t.monC ch).runAt = m.runAt ∧ (t.monC ch).lineFault = m.lineFault))

/-- R301, R305, R306: contact inputs with hysteresis and debounce, control inputs with debounce, output levels and pulses. -/
def Obligations.ContactsAndControlLines : Prop := ∀ (s : State),
  (∀ (k : Fin 16) (code : BitVec 12),
    let x := s.sinAt k
    let hys : Int := s.fldN 0x10084000 24 8
    let low := fun (thr : Nat) (st : Nat) => (thr : Int) + (if st = 0 then hys else -hys)
    let c : Int := code.toNat
    let raw := if c < low (s.fldN 0x10084004 0 12) (if x.state = 2 then 0 else 1) then 2
      else if c < low (s.fldN 0x10084004 16 12) (if x.state = 2 ∨ x.state = 1 then 0 else 1) then 1
      else if c ≤ low (s.fldN 0x10084008 0 12) (if x.state = 0 ∨ x.state = 1 ∨ x.state = 2 then 0 else 1) then 0 else 3
    let run := if raw = x.raw then x.run + 1 else 1
    let y : Sin := { x with code := code.toNat, raw := raw, run := run }
    let accepts := max 1 (s.fldN 0x10084000 16 8) ≤ run ∧ raw ≠ x.state
    (s.bitN 0x10084000 k = false → exec (.sinSample k code) s = .next s) ∧
    (s.bitN 0x10084000 k = true → ¬accepts → exec (.sinSample k code) s = .next (s.setSin k y)) ∧
    (s.bitN 0x10084000 k = true → accepts → exec (.sinSample k code) s =
      .next ((audioDone (s.setSin k { y with
          state := raw, changes := (if x.changes < 0xFFFF then x.changes + 1 else x.changes), seen := some s.audioSctr })).raise
        (0x0110 + raw) (s.ledger 11 k)))) ∧
  (∀ (second : Bool) (val : Word), ∃ t, exec (.sinThresholdWrite second val) s = .next t ∧
    (let a := if second then 0x10084008 else 0x10084004
     let mask : Word := if second then 0xFFF else 0x0FFF0FFF
     t.reg a = (s.reg a &&& ~~~mask) ||| (val &&& mask) ∧ (∀ b, b ≠ a → t.reg b = s.reg b)) ∧
    (∀ k, k < 16 → t.sinAt k = { s.sinAt k with run := 0 }) ∧ { t with mon := s.mon, regs := s.regs } = s) ∧
  (∀ (half : Fin 2) (val : Word), ∃ t, exec (.ctlLevelWrite half val) s = .next t ∧ t.reg (0x10160000 + 4 * half.val) = val ∧
    (∀ b, b ≠ 0x10160000 + 4 * half.val → t.reg b = s.reg b) ∧
    (∀ j, t.mon.ctl.written.testBit j = (s.mon.ctl.written.testBit j || decide (j = half.val))) ∧
    { t with mon := s.mon, regs := s.regs } = s ∧ t.mon.ctl.pulse = s.mon.ctl.pulse ∧ t.mon.ctl.latch = s.mon.ctl.latch) ∧
  (∀ (line : Fin 32) (level : Bool),
    let c := s.mon.ctl
    let run := Tbl.getD c.runs line 0 + 1
    let flips := level ≠ c.inLvl.getLsbD line ∧ max 1 (s.fldN 0x10160024 0 8) ≤ run
    ∃ t, exec (.ctlInSample line level) s = .next t ∧
      Tbl.getD t.mon.ctl.runs line 0 = (if level = c.inLvl.getLsbD line ∨ flips then 0 else run) ∧
      (∀ k, k ≠ line.val → Tbl.getD t.mon.ctl.runs k 0 = Tbl.getD c.runs k 0) ∧
      (∀ k, k < 32 → t.mon.ctl.inLvl.getLsbD k = (if k = line.val ∧ flips then level else c.inLvl.getLsbD k) ∧
        t.mon.ctl.chg.getLsbD k = (c.chg.getLsbD k || decide (k = line.val ∧ flips))) ∧
      { t with mon := { t.mon with ctl := c } } = s) ∧
  (∀ (line : Fin 64) (dt : Nat),
    let c := s.mon.ctl
    let due := c.pulse.testBit line = true ∧ Tbl.getD c.pulseTo line 0 ≤ s.tbs.now + dt
    ∃ t, exec (.ctlPulseEnd ⟨line, dt⟩) s = .next t ∧ (∀ m, m < 4 → t.tb m = s.tbAfter dt m) ∧ t.tbs.now = s.tbs.now + dt ∧
      t.mon = { s.mon with ctl := (if due then { c with pulse := c.pulse ^^^ 2 ^ line.val } else c) } ∧
      { t with mon := s.mon, tbs := s.tbs } = s)

/-- R309 to R313: a SAR slot converts the input its schedule names; the charge accumulator, the battery comparator, the thermistor
check and the latch of the drive-power detectors.

R317: mains is lost after 10 samples and restored after 100, with its event; a node that is not seated, or that has neither a
line nor a battery, keeps its state.

The model's own readings in it: log entries 38, 72. -/
def Obligations.ReserveMeasurements : Prop :=
  (∀ (s : State),
  (∀ code : BitVec 12,
    let x := s.sar
    let i := sarSlotInput x
    let old := Tbl.getD x.codes i (0, 0)
    let bad := code.toNat < 16 ∨ 4080 < code.toNat
    (s.bitN 0x10090000 0 = false → exec (.sarSlot code) s = .next s) ∧
    (s.bitN 0x10090000 0 = true → ∃ t, exec (.sarSlot code) s = .next t ∧
      Tbl.getD t.sar.codes i (0, 0) = (code.toNat, (old.2 + 1) % 2 ^ 16) ∧
      (∀ k, k ≠ i → Tbl.getD t.sar.codes k (0, 0) = Tbl.getD x.codes k (0, 0)) ∧
      (x.slot < 7 → t.sar.slot = x.slot + 1 ∧ t.sar.frame = x.frame ∧ t.sar.sup = x.sup) ∧
      (7 ≤ x.slot → x.frame < 124 → t.sar.slot = 0 ∧ t.sar.frame = x.frame + 1 ∧ t.sar.sup = x.sup) ∧
      (7 ≤ x.slot → 124 ≤ x.frame → t.sar.slot = 0 ∧ t.sar.frame = 0 ∧ t.sar.sup = x.sup + 1) ∧
      t.sar.qacc = (if i = 9 ∧ s.bitN 0x10090000 1 = true then
        wrapS 48 (x.qacc + code.toNat - s.fldN 0x10090004 0 12) else x.qacc) ∧
      t.sar.qcnt = (if i = 9 ∧ s.bitN 0x10090000 1 = true then (x.qcnt + 1) % 2 ^ 32 else x.qcnt) ∧
      t.sar.batLow = (x.batLow || decide (i = 8 ∧ code.toNat < s.fldN 0x10090008 0 12)) ∧
      t.sar.thmFlt = (if 10 ≤ i ∧ i < 18 ∧ bad then x.thmFlt ||| BitVec.ofNat 32 (2 ^ (i - 10)) else x.thmFlt) ∧
      SameEvents ((s.raiseIf (decide (i = 8 ∧ code.toNat < s.fldN 0x10090008 0 12)) 0x0306 (s.ledger 0x15 0)).raiseIf
        (decide (10 ≤ i ∧ i < 18 ∧ bad)) 0x0309 (i - 10)) t ∧
      t.mem = s.mem ∧ t.regs = s.regs ∧ (8 ≤ i → t.mod = s.mod))) ∧
  exec .qaccLoRead s = .next { s with sar := { s.sar with
    heldHi := (s.sar.qacc / 2 ^ 32 % 2 ^ 16).toNat, heldCnt := s.sar.qcnt } } ∧
  exec .qclr s = .next { s with sar := { s.sar with qacc := 0, qcnt := 0 } } ∧
  ((s.bitN 0x10090000 2 = false ∨ s.sctr % 48000 ≠ 0 ∨ s.sar.dmsAt = some (s.sctr / 48000)) → exec .dmsLatch s = .next s) ∧
  (s.bitN 0x10090000 2 = true → s.sctr % 48000 = 0 → s.sar.dmsAt ≠ some (s.sctr / 48000) →
    ∃ t, exec .dmsLatch s = .next t ∧ { t with mod := s.mod } = { s with sar := { s.sar with
      dmsSeq := (s.sar.dmsSeq + 1) % 2 ^ 32, dmsAt := some (s.sctr / 48000) } } ∧ { t.mod with ch := s.mod.ch } = s.mod ∧
      (∀ n, n < 64 → t.br n = { s.br n with
        dmsLatched := min 0xFFFFFFFF (roundDiv ((s.br n).dms : Int) (2 ^ 30 * 384000)).toNat, dms := 0 }))) ∧
  (∀ (s : State),
  let r := s.zk.rsv
  let line := s.rsvPar 14
  let wired := 0 ≤ line ∧ line < 32
  let away := if wired then !s.mon.ctl.inLvl.getLsbD line.floor.toNat else decide (s.rsvPar 1 / 200 < -s.amps)
  let due := if r.lost then 100 else 10
  ((s.cus.own ≠ 2 ∨ (¬wired ∧ s.rsvPar 1 = 0)) → exec .mainsSample s = .next s) ∧
  (s.cus.own = 2 → (wired ∨ s.rsvPar 1 ≠ 0) → ∃ t, exec .mainsSample s = .next t ∧
    (away = r.lost → { t with zk := s.zk } = s ∧ t.zk.rsv = { r with mainsRun := 0 }) ∧
    (away ≠ r.lost → r.mainsRun + 1 < due → { t with zk := s.zk } = s ∧ t.zk.rsv = { r with mainsRun := r.mainsRun + 1 }) ∧
    (away ≠ r.lost → due ≤ r.mainsRun + 1 → t.zk.rsv.lost = !r.lost ∧ t.zk.rsv.mainsRun = 0 ∧ t.zk.rsv.st = r.st ∧
      t.zk.rsv.q = r.q ∧ t.zk.rsv.steps = r.steps ∧ t.mem = s.mem ∧
      SameEvents (s.raise (if r.lost then 0x0302 else 0x0301) (s.ledger 0x15 0)) t ∧
      (let far := if s.rsvPar 1 = 0 then r.remote else none
       (match far with | some x => x.1 | none => if s.rsvPar 1 = 0 then 0 else r.st) < 4 →
         (t.reg 0x10090208).getLsbD 2 = (!r.lost || (match far with | some x => x.2.1 | none => false))))))

/-- R314, R315, R316, R318, R319, R320, R322: a second of the Reserve service: charge, margin, state, steps, heat and derating, before
the steps' commit.

The model's own readings in it: log entries 46, 50, 72, 80. -/
def Obligations.ReserveSecondResults : Prop := ∀ (s : State),
  (s.cus.own ≠ 2 → exec .reserveSecond s = .next s) ∧
  (s.cus.own = 2 → ∃ u, exec .reserveSecond s = .next (reserveAct u) ∧
    let r := s.zk.rsv
    let v := u.zk.rsv
    let run := fun (b : Bool) (n : Nat) => if b then n + 1 else 0
    u.mem = s.mem ∧
    (s.rsvPar 1 = 0 → v.q = r.q ∧ v.st = r.st ∧ v.steps = r.steps ∧ v.margin = r.margin ∧ v.lost = r.lost) ∧
    (s.rsvPar 1 ≠ 0 →
      v.lost = r.lost ∧ v.qacc = s.sar.qacc ∧ v.rest = s.restNext ∧
      ((s.restNext = 0 ∨ s.restNext % 1800 ≠ 0 ∨ r.table = []) → v.q = s.chargeNext) ∧
      (s.restNext ≠ 0 → s.restNext % 1800 = 0 → r.table ≠ [] → v.q = max 0 (min (s.rsvPar 1)
        (s.chargeNext + (tableCharge r.table (s.batV * 1000) - s.chargeNext) / 4))) ∧
      v.lostFor = (if r.lost then r.lostFor + 1 else 0) ∧ v.alarmSeen = (r.lost && (r.alarmSeen || s.alarmOn)) ∧
      v.margin = s.marginOf v (v.ps.getD (s.rsvPar 9)) ∧
      v.margin2 = s.marginOf v (v.ps.getD (s.rsvPar 9) + (r.savings.take r.steps).sum) ∧
      (let low := run (below v.margin (s.rsvPar 11)) r.lowRun
       let crit := run (below v.margin 1) r.critRun
       let back := run (if r.st = 1 then atLeast v.margin2 (s.rsvPar 11 + 1 / 20)
         else r.st == 2 && atLeast v.margin2 (21 / 20) && !s.sar.batLow) r.backRun
       v.st = reserveNext r.st low crit back s.sar.batLow) ∧
      (let risen := match v.margin, r.stepM with
         | some m, some m0 => decide (m0 + 1 / 50 ≤ m)
         | none, _ => true
         | some _, none => false
       v.steps = (if r.lost = false then 0
        else if v.st = 2 then max r.steps 3
        else if v.st = 1 then
          (if r.steps = 0 then 1
           else if r.steps = 1 ∧ r.stepFor + 1 = 30 ∧ (r.stepRose || risen) = false then 2
           else if r.steps = 3 ∧ 10 ≤ r.stepFor + 1 then 2 else r.steps)
        else if 0 < r.steps ∧ 10 ≤ r.stepFor + 1 then r.steps - 1 else r.steps))) ∧
    (∀ b, b < 8 →
      let p := s.bankPower b
      let hs := if s.sar.thmFlt.getLsbD b then s.hs b + (s.rsvPar 23 + p * s.rsvPar 21 - s.hs b) * (1 - expNeg (1 / s.rsvPar 22))
        else s.thermistor b
      let st := s.stg b + (hs + p * s.rsvPar 19 - s.stg b) * (1 - expNeg (1 / s.rsvPar 20))
      let h60 := s.ahead b hs
      let any := ∃ j, j < 8 ∧ 0 < s.derateOf (8 * b + j)
      let hot := s.rsvPar 24 < h60 ∨ s.rsvPar 25 < st
      let cool := h60 + 5 ≤ s.rsvPar 24 ∧ st + 5 ≤ s.rsvPar 25
      u.hs b = hs ∧ u.stg b = st ∧
      (∀ j, j < 8 →
        let n := 8 * b + j
        let floor := if s.protected n then 6 else 12
        (hot → u.derateOf n = max (s.derateOf n) (min floor (s.derateOf n + 1))) ∧
        (¬hot → any → cool → 10 ≤ Tbl.getD r.cool b 0 + 1 → u.derateOf n = s.derateOf n - 1) ∧
        (¬hot → (¬any ∨ ¬cool ∨ Tbl.getD r.cool b 0 + 1 < 10) → u.derateOf n = s.derateOf n))))

/-- R329, R330, R333, R334, R340, R343, R345: what a reference event, a loss and a measurement do to a slot's qualification, by the
registers as the last update took them, and the writes of SNAP and REF_FREQ. -/
def Obligations.ReferenceSlots : Prop := ∀ (n : Fin 8) (s : State),
  let x := s.refSlot n
  let win : Int := s.refFld 0x100A0008 0 20
  let hys : Int := min (s.refFld 0x100A000C 0 16 : Int) (win - 1)
  let prove := max 1 (s.refFld 0x100A000C 16 8)
  let dwell := max 1 (s.refFld 0x100A0008 20 8)
  (∀ (raw : Int) (dt : Nat),
    let u := tbRun dt s
    let b := u.tb n
    let past : Nat := b.val % (500000 * 2 ^ 40)
    let tick : Nat := b.inc * 2 ^ 16 + b.incf
    let passes := s.bitN (0x100B0000 + 0x40 * n.val) 0 = true ∧ past < tick
    let at' : Rat := (((u.tbs.now - u.tbs.blkAt : Nat) : Rat) - (past : Rat) / (tick : Rat)) * (32 / 5) *
      (1 + (s.ref.freq : Rat) / 2 ^ 40)
    let falls := fun (t : State) (raw : Int) =>
      let phase := s.slotPhase n raw
      (x.q ≠ 0 → SlotBecomes u t n { x with phase := phase } false 0) ∧
      (x.q = 0 → s.slotDown n → SlotBecomes u t n { x with phase := phase, onTime := 0 } false 0) ∧
      (x.q = 0 → ¬s.slotDown n → x.onTime + 1 < 3 → SlotBecomes u t n { x with phase := phase, onTime := x.onTime + 1 } false 0) ∧
      (x.q = 0 → ¬s.slotDown n → 3 ≤ x.onTime + 1 →
        SlotBecomes u t n { x with phase := phase, q := 1, onTime := 0, count := 0, fresh := true } false 0)
    ∃ t, exec (.referenceEvent n ⟨raw, dt⟩) s = .next t ∧ (4 ≤ n.val → falls t raw) ∧ (n.val < 4 → ¬passes → t = u) ∧
      (n.val < 4 → passes → ∃ d : Int, -7 ≤ d ∧ d ≤ 7 ∧ falls t (at'.floor + d))) ∧
  (∃ t, exec (.slotLost n) s = .next t ∧
    SlotBecomes s t n { x with
      q := 0, onTime := 0, count := 0, fresh := false, leftAt := (if x.q = 2 then s.ref.cnt + 1 else x.leftAt) } (decide (x.q ≠ 0)) 0x0405) ∧
  (∀ m : Int, ∃ t, exec (.slotMeasurement n m) s = .next t ∧
    let f := if x.fresh then m else x.f + (m - x.f) / 2 ^ s.refFld 0x100A0008 28 3
    let y : RefSlot := { x with m := m, f := f, fresh := false }
    let mag : Int := f.natAbs
    (x.q = 0 → SlotBecomes s t n y false 0) ∧
    (x.q = 1 → win - hys < mag → SlotBecomes s t n { y with count := 0 } false 0) ∧
    (x.q = 1 → mag ≤ win - hys → x.count + 1 < prove → SlotBecomes s t n { y with count := x.count + 1 } false 0) ∧
    (x.q = 1 → mag ≤ win - hys → prove ≤ x.count + 1 →
      SlotBecomes s t n { y with q := 2, count := 0, qualAt := s.ref.cnt } true 0x0403) ∧
    (x.q = 2 → mag ≤ win → SlotBecomes s t n { y with count := 0 } false 0) ∧
    (x.q = 2 → win < mag →
      let z := if x.count = 0 then { y with dwellAt := s.ref.cnt } else y
      (x.count + 1 < dwell → SlotBecomes s t n { z with count := x.count + 1 } false 0) ∧
      (dwell ≤ x.count + 1 → SlotBecomes s t n { z with q := 1, count := 0, leftAt := z.dwellAt } true 0x0404))) ∧
  exec .snap s = .next (if s.started then s else { s with ref := { s.ref with snap := true } }) ∧
  (∀ val : Word, exec (.refFreqWrite val) s = .next (if s.bitN 0x100A0000 2
    then { s with ref := { s.ref with freqNext := some val.toInt } } else s))

/-- R348, R349, R350: the time bases run by the ticks a command brings; SET, STEP, SLEW, a write of INC and a read of NS.

R354, R357, R358, R360, R361, R426: comparators arm, fire and are disarmed, and one that a resume restored waits; capture units take edges; a transmit queue's oldest entry
leaves.

The model's own readings in it: log entries 12, 54. -/
def Obligations.TimeBases : Prop :=
  (∀ (n : Fin 4) (k : Nat) (s : State),
  let at' := fun (off : Nat) => 0x100B0000 + 0x40 * n.val + off
  let x := s.tbAfter k n
  let adj := fun (t : State) (v : Word) => t.reg (at' 0x24) = v ∧ ∀ a, a ≠ at' 0x24 → t.reg a = s.reg a
  let steps := fun (t : State) => t.tbs.stepped = (if n.val = 0 then 65 else s.tbs.stepped) ∧ adj t (s.adjAfter k n) ∧
    SameEvents (s.raise 0x0410 (s.ledger 0x0D n)) t ∧ { t.eventsOf s with tbs := s.tbs, regs := s.regs } = s
  (∃ t, exec (.tbsSet n k) s = .next t ∧ steps t ∧
    BasesRun s t k n { x with val := s.timeAt (at' 0x18) (at' 0x1C) (at' 0x20) * 2 ^ 40, slew := 0, adjNew := false }) ∧
  (∃ t, exec (.tbsStep n k) s = .next t ∧ steps t ∧
    BasesRun s t k n { x with val := ((x.val : Int) + (s.adjAfter k n).toInt * 2 ^ 40).toNat, slew := 0, adjNew := false }) ∧
  (x.slew ≠ 0 → x.adjNew = false → ∃ t, exec (.tbsSlew n k) s = .next t ∧ BasesRun s t k n x ∧ { t with tbs := s.tbs } = s) ∧
  ((x.slew = 0 ∨ x.adjNew = true) → ∃ t, exec (.tbsSlew n k) s = .next t ∧
    BasesRun s t k n { x with slew := (s.reg (at' 0x24)).toInt * 2 ^ 24, adjNew := false } ∧ adj t 0 ∧
    { t with tbs := s.tbs, regs := s.regs } = s) ∧
  (∃ t, exec (.slewDone n k) s = .next t ∧ BasesRun s t k n x ∧ { t with tbs := s.tbs } = s) ∧
  (∀ val : Word, ∃ t, exec (.incWrite n val k) s = .next t ∧
    BasesRun s t k n { x with inc := val.toNat, incf := s.fldN (at' 0x28) 0 16 } ∧ t.reg (at' 4) = val ∧
    (∀ a, a ≠ at' 4 → t.reg a = s.reg a) ∧ { t with tbs := s.tbs, regs := s.regs } = s) ∧
  (∀ i : Init, ∃ t, exec (.tbNsRead i n k) s = .next t ∧ BasesRun s t k n x ∧
    (let sec := x.val / 2 ^ 40 / 1000000000
     t.iniReg (at' 0x0C) i = BitVec.ofNat 32 sec ∧ t.iniReg (at' 0x10) i = BitVec.ofNat 32 (sec / 2 ^ 32 % 2 ^ 16) ∧
     t.iniReg (at' 0x14) i = BitVec.ofNat 32 (x.val / 2 ^ 24 % 2 ^ 16)) ∧ { t with tbs := s.tbs, ini := s.ini } = s)) ∧
  (∀ (n : Fin 16) (s : State),
  let ctl := 0x100B1000 + 0x20 * n.val
  let p := s.regN (ctl + 0x10)
  let fires := fun (k : Nat) (y : Trigger) (t : State) =>
    let now := (s.tbAfter k y.base).val / 2 ^ 40
    let commits := s.bitN ctl 4 = true ∧ y.folded = false
    t.trg n = { fired y now p with folded := false } ∧ (∀ m, m ≠ n.val → t.trg m = s.trg m) ∧
    (¬commits → t.engine.cmt = s.engine.cmt ∧
      SameEvents ((s.raiseIf (s.bitN ctl 8) 0x0411 n).raiseIf (decide (p ≠ 0 ∧ y.target + max 1000 p ≤ now)) 0x0412 n) t) ∧
    (commits →
      t.engine.cmt = (cmtArm s.cmtTarget (s.bitN 0x1002C008 0) (s.bitN 0x1002C008 1) s).engine.cmt) ∧
    (∀ m, m < 4 → t.tb m = s.tbAfter k m) ∧
    t.mon.ctl.pulse = (if s.bitN ctl 7 then s.mon.ctl.pulse ||| 2 ^ s.fldN ctl 10 6 else s.mon.ctl.pulse) ∧
    (s.bitN ctl 7 = true → Tbl.find t.mon.ctl.pulseTo (s.fldN ctl 10 6) =
      some (s.tbs.now + k + (max 1 (s.fldN ctl 16 16) * 24576 + 99) / 100)) ∧
    (s.bitN ctl 6 = true → t.sar = { s.sar with sup := 0, frame := 0, slot := 0 }) ∧ (s.bitN ctl 6 = false → t.sar = s.sar) ∧
    (∀ q, q < 16 → t.port q = (if (s.port q).st = .waitStart ∧ s.bitN (0x10060004 + 0x80 * q) 1 = true ∧
      s.fldN (0x10060004 + 0x80 * q) 2 4 = n.val then { s.port q with fired := true } else s.port q)) ∧
    (∀ c, c < 32 → s.bitN ctl 5 = true → s.bitN (ctl + 0x14) c = true → t.chEn c = true ∧ (t.chain c).settling = true) ∧
    t.mem = s.mem
  let quiet := fun (k : Nat) (t : State) => (∀ m, m < 4 → t.tb m = s.tbAfter k m) ∧ { t with tbs := s.tbs } = s
  let due := fun (m k : Nat) => (s.trg m).armed = true ∧ (s.trg m).restored = false ∧
    (s.trg m).target * 2 ^ 40 ≤ (s.tbAfter k (s.trg m).base).val
  ((∀ m, m < 16 → (s.trg m).base < 4) → (∀ k, ∃ t, exec (.triggerArm n k) s = .next t ∧
    let y : Trigger := { s.trg n with
      armed := true, restored := false, folded := false, base := s.fldN ctl 2 2, target := s.timeAt (ctl + 4) (ctl + 8) (ctl + 0xC) }
    let passed := y.target * 2 ^ 40 ≤ (s.tbAfter k y.base).val
    (¬due n k → passed → fires k y t) ∧
    (¬due n k → ¬passed → t.trg n = y ∧ (∀ m, m ≠ n.val → t.trg m = s.trg m) ∧ quiet k t) ∧
    (due n k → ¬passed → ∃ u, fires k (s.trg n) u ∧
      t = u.setTrg n { u.trg n with armed := true, restored := false, folded := false, base := y.base, target := y.target })) ∧
  (∀ k, ∃ t, exec (.triggerFire n k) s = .next t ∧
    (due n k → (∀ m, m < 16 → m ≠ n.val → ¬due m k) → fires k (s.trg n) t) ∧
    (due n k → ∀ m, m < 16 → t.trg m = (if due m k then
      { fired (s.trg m) ((s.tbAfter k (s.trg m).base).val / 2 ^ 40) (s.regN (0x100B1010 + 0x20 * m)) with folded := false }
      else s.trg m)) ∧
    (¬due n k → t.tbs.trg = s.tbs.trg ∧ quiet k t)) ∧
  (¬due n 0 → exec (.triggerDisarm n) s = .next (s.setTrg n { s.trg n with armed := false })) ∧
  (due n 0 → ∃ u, fires 0 (s.trg n) u ∧ exec (.triggerDisarm n) s = .next (u.setTrg n { u.trg n with armed := false }))) ∧
  (∀ (src : Fin 33) (rising : Bool) (k : Nat),
    let c := s.capU n
    let sel := fun (m : Nat) => s.fldN (0x100B2000 + 0x20 * m) 1 6
    let ctl := 0x100B2000 + 0x20 * n.val
    let edge := s.fldN ctl 7 2
    let takes := sel n = src.val ∧ s.bitN ctl 0 = true ∧ (edge = 2 ∨ (edge = 0 ∧ rising = true) ∨ (edge = 1 ∧ rising = false))
    ∃ t, exec (.captureEdge src rising k) s = .next t ∧ (∀ m, m < 4 → t.tb m = s.tbAfter k m) ∧
      { t.eventsOf s with tbs := s.tbs } = s ∧
      t.capU n = (if ¬takes then c else if c.valid then
          { c with ovr := (if c.ovr < 0xFFFF then c.ovr + 1 else c.ovr), told := true }
        else { c with valid := true, val := (s.tbAfter k (s.fldN ctl 9 2)).val }) ∧
      ((∀ m, m < 16 → m ≠ n.val → sel m ≠ src.val) →
        SameEvents (s.raiseIf (decide takes && c.valid && !c.told) 0x0413 n) t)) ∧
  exec (.rel n) s = .next (s.setCap n { s.capU n with valid := false, told := false }) ∧
  (∀ m : Fin 4, exec (.pop m) s = .next (s.setTxq m { s.txq m with entries := (s.txq m).entries.drop 1 })))

/-- R365, R366, R368, R373, R374: received frames: class and counter, the address filter, drops, MAC Control and PAUSE, delivery into a free
buffer, and a drop for want of one.

The model's own readings in it: log entry 55. -/
def Obligations.FramesReceived : Prop := ∀ (m : Fin 4) (f : EthFrame) (s : State),
  let ctl := 0x100C0000 + 0x4000 * m.val
  let n := f.bytes.length
  let k := s.rxCounter m f
  let t := s.counted m k
  let half := s.bitN ctl 7
  let pause := (frameDest f.bytes = 0x0180C2000001 ∨ frameDest f.bytes = s.station m) ∧ b16 f.bytes (l3At f.bytes) = 1
  let none' := fun (u : State) => (u.counted m 5).setMac m { (u.counted m 5).mac m with nobufTold := true }
  (s.bitN ctl 0 = false → exec (.frameReceive m f) s = .next s) ∧
  (s.bitN ctl 0 = true → n < 14 → exec (.frameReceive m f) s = .next (s.counted m 1)) ∧
  (14 ≤ n → ¬s.takesDest m f.bytes → exec (.frameReceive m f) s = .next s) ∧
  (s.bitN ctl 0 = true → 14 ≤ n → s.takesDest m f.bytes → k ≠ 0 → s.bitN ctl 8 = false →
    exec (.frameReceive m f) s = .next t) ∧
  (s.bitN ctl 0 = true → 14 ≤ n → s.takesDest m f.bytes → k = 0 → etherType f.bytes = 0x8808 →
    (half = true → exec (.frameReceive m f) s = .next (t.counted m 6)) ∧
    (half = false → s.bitN ctl 9 = false →
      (¬pause → exec (.frameReceive m f) s = .next (t.counted m 6)) ∧
      (pause → s.bitN ctl 11 = false → exec (.frameReceive m f) s = .next ((t.counted m 6).counted m 11)) ∧
      (pause → s.bitN ctl 11 = true → let y := ((t.counted m 6).counted m 11).mac m
        exec (.frameReceive m f) s = .next (((t.counted m 6).counted m 11).setMac m { y with
          paused := b16 f.bytes (l3At f.bytes + 2) * 512, waking := y.waking || (y.lpi && s.framesWait m) })))) ∧
  (s.toRxq m f → (s.queEsize (s.fldN (ctl + 0x10) 7 7) ≠ 16 ∨ s.queEsize (s.fldN (ctl + 0x10) 0 7) ≠ 32 ∨
      (s.queue (s.fldN (ctl + 0x10) 7 7)).count = 0) →
    exec (.frameReceive m f) s = .next ((none' t).raiseIf (!(s.mac m).nobufTold) 0x0503 (s.ledger 0x0E m))) ∧
  (s.toRxq m f →
    let free := s.fldN (ctl + 0x10) 7 7
    let rxq := s.fldN (ctl + 0x10) 0 7
    let head := s.queHead free
    let buf := (head.getD 0 0).toNat / 64 * 64
    let size := 64 * max 1 (s.fldN (ctl + 0x14) 0 8)
    let entry := s.queEntry rxq (s.queue rxq).wr
    s.queEsize free = 16 → s.queEsize rxq = 32 → rxq ≠ free → 0 < (s.queue free).count → s.memc.ecc = [] → s.queEn rxq = true →
    (s.queue rxq).count < s.queDepth rxq → s.bitN (0x100B080C + 0x20 * m.val) 0 = false →
    (buf + min n size ≤ entry ∨ entry + 32 ≤ buf) →
    ∃ u, exec (.frameReceive m f) s = .next u ∧ (u.queue free).count + 1 = (s.queue free).count ∧
      (u.queue rxq).count = (s.queue rxq).count + 1 ∧ (∀ j, j < min n size → u.byte (buf + j) = f.bytes.getD j 0) ∧
      (∀ a, (a < buf ∨ buf + min n size ≤ a) → (a < entry ∨ entry + 32 ≤ a) → u.byte a = s.byte a) ∧
      u.word (entry + 4) = BitVec.ofNat 32 buf ∧ (u.word entry).toNat % 2 ^ 14 = min 16383 n ∧
      (u.word entry).getLsbD 14 = decide (n < 64) ∧ (u.word entry).getLsbD 15 = decide (s.limitOf m (hasTag f.bytes) < n) ∧
      (u.word entry).getLsbD 16 = (!f.fcsOk || f.rxErr) ∧ (u.word entry).getLsbD 17 = decide (size < n) ∧
      u.word (entry + 20) = BitVec.ofNat 32 m)

/-- R367, R369, R370, R373, R374, R375, R387, R388: what a MAC sends at a frame boundary, collisions, PAUSE, LPI, link events, MDIO and the
counters' clear.

R377, R386, R387: enabling an RX stream, refused with 0x0522; enabling and disabling a TX stream, refused with 0x0530; an RX stream's counters
clear.

The model's own readings in it: log entries 26, 55, 56. -/
def Obligations.MacAndStreamCommands : Prop :=
  (∀ (m : Fin 4) (s : State),
  let ctl := 0x100C0000 + 0x4000 * m.val
  let x := s.mac m
  let half := s.bitN ctl 7
  let txq := s.fldN (ctl + 0x10) 14 7
  let done := s.fldN (ctl + 0x10) 21 7
  let free := x.lpi = false ∧ s.bitN ctl 1 = true ∧ x.backoff = none
  let idle := s.bitN ctl 1 = false ∨ x.backoff ≠ none ∨ ((x.sendPause = false ∨ half = true) ∧
    ((x.paused ≠ 0 ∧ half = false) ∨ (x.ready = [] ∧ ((s.queue txq).count = 0 ∨ s.queEsize txq ≠ 32 ∨ s.queEsize done ≠ 16))))
  ((x.lpi = true ∨ idle) → exec (.frameTransmit m) s = .next s) ∧
  (free → x.sendPause = true → half = false →
    ∃ t, exec (.frameTransmit m) s = .next t ∧ (t.mac m).sendPause = false ∧ (t.mac m).ready = x.ready ∧
      (t.mac m).sent = beBytes 6 0x0180C2000001 ++ beBytes 6 (s.station m) ++ beBytes 2 0x8808 ++ beBytes 2 1 ++
        beBytes 2 (s.fldN (ctl + 0x1C) 0 16) ++ List.replicate 42 0 ∧ { t with eth := s.eth } = s) ∧
  (∀ p rest, free → (x.sendPause = false ∨ half = true) → (x.paused = 0 ∨ half = true) →
    x.ready = p :: rest → x.trying = false → let tooLong := s.limitOf m (hasTag p.bytes) < p.bytes.length + 4
    ∃ t, exec (.frameTransmit m) s = .next t ∧ (t.mac m).ready = rest ∧
      (t.mac m).sent = (if tooLong then x.sent else p.bytes ++ List.replicate (60 - p.bytes.length) 0) ∧ (t.mac m).attempts = 0 ∧
      (t.stx p.stream).sent = (if tooLong then (s.stx p.stream).sent else ((s.stx p.stream).sent + 1) % 65536) ∧
      { t with eth := s.eth } = s) ∧
  (free → (x.sendPause = false ∨ half = true) → (x.paused = 0 ∨ half = true) → x.ready = [] → s.queEsize txq = 32 → s.queEsize done = 16 →
    done ≠ txq → s.queEn txq = true → s.queEn done = true → 0 < (s.queue txq).count → (s.queue done).count < s.queDepth done →
    s.memc.ecc = [] → s.bitN (0x100B080C + 0x20 * m.val) 0 = false →
    let d := s.queHead txq
    let w := d.getD 0 0
    let bs := s.getBytes (d.getD 1 0).toNat (w.fld 0 14)
    let tooLong := s.limitOf m (hasTag bs) < max 60 bs.length + 4
    let entry := s.queEntry done (s.queue done).wr
    w.bit 14 = false → w.bit 15 = false → w.bit 16 = false →
    ∃ t, exec (.frameTransmit m) s = .next t ∧ (t.queue txq).count + 1 = (s.queue txq).count ∧
      (t.queue done).count = (s.queue done).count + 1 ∧ t.word entry = d.getD 3 0 ∧
      t.word (entry + 4) = (if tooLong then 1 else 0) ∧ (t.mac m).attempts = 0 ∧
      (t.mac m).sent = (if tooLong then x.sent else bs ++ List.replicate (60 - bs.length) 0)) ∧
  (s.txChoice m ≠ .none → half = true →
    (x.attempts + 1 < 16 → exec (.collision m false) s = .next (s.setMac m { x with
      attempts := x.attempts + 1, draws := x.draws + 1, trying := s.txChoice m == .desc
      backoff := some (Config.backoffDraw (s.station m) x.draws % 2 ^ min (x.attempts + 1) 10) })) ∧
    (∀ p rest late, x.ready = p :: rest → x.trying = false → (late = true ∨ 16 ≤ x.attempts + 1) →
      let i := if late then 8 else 9
      ∃ t, exec (.collision m late) s = .next t ∧ (t.mac m).ready = rest ∧ (t.mac m).attempts = 0 ∧ (t.mac m).sent = x.sent ∧
        Tbl.getD (t.mac m).cnt i 0 = (let c := Tbl.getD x.cnt i 0; if c < 0xFFFFFFFF then c + 1 else c) ∧ { t with eth := s.eth } = s)) ∧
  ((half = false ∨ s.txChoice m = .none) → ∀ late, exec (.collision m late) s = .next s) ∧
  exec (.backoffExpiry m) s = .next (s.setMac m { x with backoff := none }) ∧
  exec (.pauseTimerExpiry m) s = .next (s.setMac m { x with paused := 0 }) ∧
  exec (.send m) s = .next (if half then s else s.setMac m { x with sendPause := true }) ∧
  (∀ on, exec (.partnerLpi m on) s = .next (s.setMac m { x with lpiRx := on })) ∧
  (let may := s.bitN (ctl + 0x18) 0 = true ∧ s.bitN ctl 1 = true ∧ s.framesWait m = false ∧ s.lpiAllowed m = true ∧
      ∀ n, n < 128 → (s.stxCfg n).en = true → (s.stxCfg n).mac ≠ m.val
   (x.lpi = true → (x.waking = true ∨ ¬may) → exec (.lpiWakeEnd m) s = .next (s.setMac m { x with lpi := false, waking := false })) ∧
   ((x.lpi = false ∨ (x.waking = false ∧ may)) → exec (.lpiWakeEnd m) s = .next s) ∧
   ((x.lpi = true ∨ ¬may) → exec (.lpiEnter m) s = .next s) ∧
   (x.lpi = false → may → exec (.lpiEnter m) s = .next (s.setMac m { x with lpi := true, waking := false }))) ∧
  exec (.macLinkUp m) s = .next ((s.setMac m { x with link := true }).raiseIf (!x.link) 0x0501 (s.ledger 0x0E m)) ∧
  exec (.macLinkDown m) s = .next ((s.setMac m { x with link := false }).raiseIf x.link 0x0502 (s.ledger 0x0E m)) ∧
  exec (.macCounterClr m) s = .next (s.setMac m { x with cnt := [], nobufTold := false }) ∧
  exec .mdioGo s = .next { s with eth := { s.eth with mdio := true } } ∧
  (∀ data : BitVec 16,
    let done : State := { s with eth := { s.eth with mdio := false } }
    exec (.mdioDone data) s = .next (if s.eth.mdio = false then s else if s.bitN 0x100C0024 26
      then done.setReg 0x100C0024 ((s.reg 0x100C0024).setFld 0 16 data.toNat) else done))) ∧
  (∀ (n : Fin 128) (s : State),
  let rx := 0x100C2000 + 0x4000 * (n.val / 32) + 0x40 * (n.val % 32)
  let tx := 0x100C3000 + 0x4000 * (n.val / 32) + 0x40 * (n.val % 32)
  let spp := fun (w : Word) => [6, 12, 16, 48, 192, 0, 0, 0].getD (w.fld 4 3) 0
  let bytes := fun (w : Word) => (w.fld 7 6 + 1) * spp w * (if w.bit 3 then 3 else 2)
  let bad := fun (base : Nat) (w : Word) (vlan : Bool) =>
    5 ≤ w.fld 4 3 ∨ 2048 < w.fld 13 11 + (w.fld 7 6 + 1) ∨ s.limitOf (w.fld 1 2) vlan < bytes w + (if vlan then 62 else 58) ∨
    ∃ k, k < 128 ∧ k ≠ n.val ∧ let v := s.reg (base + 0x4000 * (k / 32) + 0x40 * (k % 32))
      v.bit 0 = true ∧ w.fld 13 11 < v.fld 13 11 + (v.fld 7 6 + 1) ∧ v.fld 13 11 < w.fld 13 11 + (w.fld 7 6 + 1)
  let r := s.reg rx
  let t := s.reg tx
  let x := s.srx n
  let y := s.stx n
  let load := ((s.stxOthers n).filter (fun o => o.mac == t.fld 1 2)).foldl (fun a o => a + wireLoad o) (wireLoad (s.stxCfg n))
  let beyond := 9 * speedBits (s.fldN (0x100C0000 + 0x4000 * t.fld 1 2) 2 3) < 10 * load
  (r.bit 0 = true → exec (.streamRxEnable n) s = .next s) ∧
  (r.bit 0 = false → bad 0x100C2000 r false →
    exec (.streamRxEnable n) s = .next ((s.setSrx n { x with cfgErr := true }).raise 0x0522 (s.ledger 0x0F n))) ∧
  (r.bit 0 = false → ¬bad 0x100C2000 r false → exec (.streamRxEnable n) s = .next ((s.setReg rx (r.setFld 0 1 1)).setSrx n { x with
    st := 1, cfgErr := false, last := none, filled := [], link := min 768 (s.fldN (rx + 0x10) 0 10) })) ∧
  (t.bit 0 = true → exec (.streamTxEnable n) s = .next s) ∧
  (t.bit 0 = false → (bad 0x100C3000 t (t.bit 25) ∨ beyond) →
    exec (.streamTxEnable n) s = .next ((s.setStx n { y with cfgErr := true }).raise 0x0530 (s.ledger 0x0F (128 + n.val)))) ∧
  (t.bit 0 = false → ¬bad 0x100C3000 t (t.bit 25) → ¬beyond →
    ∃ u, exec (.streamTxEnable n) s = .next u ∧ u.regs = (s.setReg tx (t.setFld 0 1 1)).regs ∧ { u with regs := s.regs, eth := s.eth } = s ∧
      (u.stx n).on = true ∧ (u.stx n).cfgErr = false ∧ (u.stx n).stop = none ∧ 
      (u.stx n).buf = (if y.stop = some (u.stx n).start then y.buf else []) ∧ (u.stx n).seq = y.seq ∧
      (u.mac (t.fld 1 2)).waking = (s.mac (t.fld 1 2)).lpi ∧ (∀ k, k ≠ t.fld 1 2 → u.mac k = s.mac k) ∧
      spp t ∣ (u.stx n).start ∧ s.sctr + 24 ≤ (u.stx n).start ∧ (u.stx n).start < s.sctr + 24 + spp t) ∧
  (t.bit 0 = false → exec (.streamTxDisable n) s = .next s) ∧
  (t.bit 0 = true → exec (.streamTxDisable n) s = .next ((s.setReg tx (t.setFld 0 1 0)).setStx n
    (if y.buf = [] then { y with on := false } else { y with stop := some (s.sctr + 24 - y.buf.length + spp t) }))) ∧
  exec (.streamRxCounterClr n) s = .next (s.setSrx n { x with
    late := 0, early := 0, lost := 0, reorder := 0, bad := 0, under := 0, underTold := false }))

/-- R392, R394, R403, R405, R406, R407, R415: lanes gain and lose their locks and their ports follow; a port's EN, ROLE and NODE; the end of a map hold;
a repeated segment; cleared counters.

R396, R398, R399, R400, R403, R404, R406: a port's frame per block, what is accepted of the frames received, and what an accepted or a missing
frame does to the port.

The model's own readings in it: log entry 57. -/
def Obligations.CascadeLinks : Prop :=
  (∀ (s : State),
  (∀ n : Fin 14,
    let l := s.lane n
    let inv := s.bitN (0x100D0000 + 0x40 * n.val) 2
    let head := fun (h : BitVec 2) => if inv then ~~~h else h
    let block := fun (b : BitVec 64) => if inv then ~~~b else b
    let bad := fun (h : BitVec 2) (b : BitVec 64) => h = 0 ∨ h = 3 ∨ (h = 2 ∧ b.toNat % 256 ∉ [0xC5, 0xE1, 0xA7, 0x33])
    let marks := fun (h : BitVec 2) (b : BitVec 64) (k q : Nat) => h = 2 ∧ k < 4 ∧ q < 256 ∧
      b.toNat = 0xA7 + 2 ^ 8 * k + 2 ^ 16 * q + 2 ^ 24 * (255 - q)
    (∃ t, exec (.blockLock n) s = .next t ∧ LaneBecomes s t n { l with lock := true }) ∧
    (l.lock = false → exec (.blockLockLost n) s = .next s ∧ exec (.markerMissed n) s = .next s ∧ ∀ h b, exec (.invalidHeader ⟨n, h, b⟩) s = .next s ∧
      ∀ skew, exec (.markerReceive n h b skew) s = .next s) ∧
    (l.lock = true →
      (∃ t, exec (.blockLockLost n) s = .next t ∧
        LaneBecomes s t n { l with lock := false, marker := false, seen := false, missed := 0, turn := none }) ∧
      (∀ h b, exec (.invalidHeader ⟨n, h, b⟩) s = .next (if bad (head h) (block b)
        then s.setLane n { l with sync := (if l.sync < 0xFFFF then l.sync + 1 else l.sync) } else s)) ∧
      (∀ h b skew k q, marks (head h) (block b) k q → ∃ t, exec (.markerReceive n h b skew) s = .next t ∧ MarkerTurn s t n { l with
        marker := (l.marker || (l.seen && decide (q = (l.seq + 1) % 256))), seen := true, missed := 0
        logical := k, seq := q, skew := min 1023 skew } true) ∧
      (∀ h b skew, (∀ k q, ¬marks (head h) (block b) k q) → exec (.markerReceive n h b skew) s = exec (.markerMissed n) s) ∧
      (∃ t, exec (.markerMissed n) s = .next t ∧ MarkerTurn s t n { l with
        mark := (if l.mark < 0xFFFF then l.mark + 1 else l.mark), missed := l.missed + 1, seen := false
        marker := (l.marker && decide (l.missed + 1 < 2)) } false))) ∧
  (∀ p : Fin 3, let x := s.cp p
    let ctl := 0x100E0100 + 0x40 * p.val
    let port := fun (b : Bool) (t : State) => t.bitN ctl 0 = b ∧ (∀ a, a ≠ ctl → t.reg a = s.reg a) ∧ PortFollows s t p ∧
      (∀ q, q ≠ p.val → t.cp q = s.cp q) ∧ t.csc.lane = s.csc.lane ∧ t.mem = s.mem
    (∃ t, exec (.cascadePortEnable p) s = .next t ∧ port true t) ∧ (∃ t, exec (.cascadePortDisable p) s = .next t ∧ port false t) ∧
    (∃ t, exec (.mapHoldExpiry p) s = .next t ∧ t.cp p = { x with map := x.rxMap } ∧ (∀ q, q ≠ p.val → t.cp q = s.cp q) ∧
      { t.eventsOf s with csc := s.csc } = s ∧ ((∀ k, k < 64 → x.map.testBit k = true → x.rxMap.testBit k = true) → t.evq = s.evq)) ∧
    (∀ g rest b, x.win = g :: rest → g.sentAt = some b → exec (.segmentResend p) s = .next
      (if b + 4 ≤ s.sctr / 24 then s.setCp p { x with sendIdx := 0 } else s)) ∧
    ((x.win = [] ∨ ∃ g rest, x.win = g :: rest ∧ g.sentAt = none) → exec (.segmentResend p) s = .next s)) ∧
  (∀ val : Word, ∃ t, exec (.cascadeRoleWrite val) s = .next t ∧ (∀ a, a ≠ 0x100E0000 → t.reg a = s.reg a) ∧
    t.reg 0x100E0000 = (s.reg 0x100E0000 &&& ~~~0xFF00FF) ||| (val &&& 0xFF00FF) ∧
    t.csc.cfgErr = decide (val.fld 2 6 = 63 ∨ (val.fld 0 2 = 1 ∧ val.fld 2 6 ≠ 0)) ∧
    (∀ p, p < 3 → PortFollows s t p) ∧ t.mem = s.mem) ∧
  (∃ t, exec .cascadeClrcnt s = .next t ∧ { t with csc := s.csc } = s ∧ t.csc.armed = true ∧
    (∀ p, p < 3 → t.cp p = { s.cp p with hcrc := 0, pcrc := 0, poison := 0, lost := 0 }) ∧
    (∀ n, n < 14 → t.lane n = { s.lane n with sync := 0, mark := 0 }))) ∧
  (∀ (p : Fin 3) (s : State),
  let x := s.cp p
  let up := decide (s.cscRole = 2 ∧ p.val = 0)
  let late := fun (j : Nat) => x.st < 2 ∨ s.blockCounted p j
  (let due := match x.sent with | none => True | some f => f.sctr ≠ s.sctr
   ((x.st < 2 ∨ ¬due) → exec (.cascadeFrameSend p) s = .next s) ∧
   (2 ≤ x.st → due → ∃ t f, exec (.cascadeFrameSend p) s = .next t ∧ (t.cp p).sent = some f ∧ f.node = s.node ∧ f.up = up ∧
      f.sctr = s.sctr ∧ f.n = min 8192 (s.fldN (0x100E0100 + 0x40 * p) 1 14) ∧ f.meas = x.own ∧ f.grade = s.outGrade ∧
      f.map = (if up then s.ownMap else 0) ∧ f.mack = x.rxSeq ∧ (x.st = 4 → f.w4 = 0 ∧ f.w5 = 0) ∧ (x.st ≠ 3 → f.msg = none) ∧
      (t.cp p).st = x.st ∧ (∀ q, q ≠ p.val → t.cp q = s.cp q) ∧ { t with csc := s.csc } = s)) ∧
  (late (s.sctr / 24) → exec (.cascadeFrameDeadline p) s = .next s) ∧
  (¬late (s.sctr / 24) →
    ∃ t, exec (.cascadeFrameDeadline p) s = .next t ∧ (t.cp p).handled = some (s.sctr / 24) ∧ (t.cp p).st = missedState x ∧
      (t.cp p).lost = (if x.lost < 0xFF then x.lost + 1 else x.lost) ∧ (t.cp p).hcrc = x.hcrc ∧
      (missedState x = x.st → (t.cp p).missRun = x.missRun + 1 ∧ SameEvents (s.raiseIf s.csc.armed 0x0604 (s.ledger 0x10 p)) t) ∧
      t.csc.armed = false ∧ (∀ q, q ≠ p.val → t.cp q = s.cp q) ∧ t.mem = s.mem ∧ t.regs = s.regs) ∧
  (∀ f : CascadeFrame, let j := s.usedIn p f
    (late j → exec (.cascadeFrameReceive p f) s = .next s) ∧
    (¬late j → ∃ t, exec (.cascadeFrameReceive p f) s = .next t ∧ (t.cp p).handled = some j ∧
      (t.cp p).own = f.t0 % 786432 ∧ (∀ q, q ≠ p.val → t.cp q = s.cp q) ∧ t.mem = s.mem ∧ t.regs = s.regs ∧
      ((f.hcrc = false ∨ ¬s.inPlace p f) → (t.cp p).st = missedState x ∧ (t.cp p).acc = x.acc ∧ (t.cp p).accNext = x.accNext ∧
        (t.cp p).hcrc = (if f.hcrc = false ∧ x.hcrc < 0xFF then x.hcrc + 1 else x.hcrc) ∧
        (t.cp p).lost = (if f.hcrc = true ∧ x.lost < 0xFF then x.lost + 1 else x.lost) ∧
        (missedState x = x.st → SameEvents (s.raiseIf s.csc.armed 0x0604 (s.ledger 0x10 p)) t)) ∧
      (f.hcrc = true → s.inPlace p f →
        let why := s.refuses p f
        let clear := if why = 0 then x.clearRun + 1 else 0
        let st := if x.st = 2 then
            (if x.okRun + 1 < 2 ∨ (s.cscRole = 2 ∧ p.val ≠ 0 ∧ s.csc.cp0Up = false) then 2 else if why = 0 then 3 else 4)
          else if x.st = 4 then (if 2 ≤ clear then 3 else 4) else x.st
        (t.cp p).acc = (if j = s.sctr / 24 then some f else x.acc) ∧
        (t.cp p).accNext = (if j = s.sctr / 24 then x.accNext else some f) ∧ (t.cp p).st = st ∧ (t.cp p).missRun = 0 ∧ (t.cp p).okRun = x.okRun + 1 ∧
        (t.cp p).peer = f.node ∧ (t.cp p).peerDepth = f.depth ∧ (t.cp p).peerN = f.n ∧ (t.cp p).peerMeas = f.meas % 2 ^ 20 ∧
        (st = 4 → x.st = 2 → (t.cp p).reason = why) ∧
        (st = 3 → up = false → (t.cp p).rxMap = f.map ∧ (t.cp p).sub = f.sub ∧ (t.cp p).map = x.map ||| f.map) ∧
        (t.cp p).pcrc = (if f.pcrc = 1 ∧ x.pcrc < 0xFF then x.pcrc + 1 else x.pcrc) ∧
        (t.cp p).poison = (if f.pcrc = 2 ∧ x.poison < 0xFF then x.poison + 1 else x.poison) ∧
        (t.cp p).hcrc = x.hcrc ∧ (t.cp p).lost = x.lost))))

/-- R328, R419, R420, R421, R427, R429: giving up for each cause; a device that is not seated does not; restarts, and the fourth within 600 s.

R419, R422, R424, R425, R548: the custody codes: the guard, the yield, what a partner's code does in each state, presence visits, a wake, and
a resume that starts the engine, 01 following at the next boundary.

The model's own readings in it: log entries 58, 60, 61, 100, 103. -/
def Obligations.CustodyChanges : Prop :=
  (∀ (s : State),
  let seated := s.cus.own = 2
  (seated → (∀ c : BitVec 4, 1 ≤ c.toNat → c.toNat ≤ 9 → ∃ t, exec (.giveUp c) s = .next t ∧
      GivenUp s t c.toNat (if c = 9 then s.fldN 0x100F0000 0 4 else 0)) ∧
    (∃ t, exec .lockstepMismatch s = .next t ∧ GivenUp s t 3 0) ∧ (∃ t, exec .dieLinkFailure s = .next t ∧ GivenUp s t 8 0) ∧
    (∃ t, exec .xoFail s = .next t ∧ GivenUp s t 6 0 ∧ (s.cus.partner ≠ 1 → ∀ p x, (p, x) ∈ s.ports.port → s.bitN (0x10060000 + 0x80 * p) 0 = true →
      ∃ y, (p, y) ∈ t.ports.port ∧ y.st = .off)) ∧
    (∀ fw : BitVec 4, ∃ t, exec (.giveup fw) s = .next t ∧
      GivenUp (s.setFldN 0x100F0000 0 4 fw.toNat) t 9 fw.toNat ∧ t.fldN 0x100F0000 0 4 = fw.toNat)) ∧
  (¬seated → (∀ c, exec (.giveUp c) s = .next s) ∧ exec .lockstepMismatch s = .next s ∧ exec .dieLinkFailure s = .next s ∧
    (∀ fw : BitVec 4, exec (.giveup fw) s = .next (s.setFldN 0x100F0000 0 4 fw.toNat))) ∧
  exec .cntClr s = .next { s with cus := { s.cus with conflicts := 0, visits := 0, giveUps := 0 } } ∧
  (let past := s.cus.restarts.filter (fun t => decide (s.sctr ≤ t + 600 * 48000));
    ((s.cus.own ≠ 3 ∨ s.cus.paired = true) → ∀ v, exec (.selfRestart v) s = .next s) ∧
    (s.cus.own = 3 → s.cus.paired = false → ∀ v, ∃ t, exec (.selfRestart v) s = .next t ∧ IslandsReset s t ∧ t.cus.own = 0 ∧
      t.cus.latch = true ∧ t.cus.held = decide (3 ≤ past.length) ∧ t.pwr.taking = decide (past.length < 3) ∧
      t.pwr.phase = (if 3 ≤ past.length ∨ s.pwr.resetLow = true then .held else .awake) ∧
      t.cus.restarts = (if 3 ≤ past.length then past else s.sctr :: past) ∧
      (t.pwr.phase = .awake → t.pwr.straps = v &&& 0x1F ∧ t.cus.roleB = v.bit 3 ∧ t.cus.paired = v.bit 4))) ∧
  ((s.cus.own ≠ 3 ∨ s.cus.paired = false ∨ s.cus.partner = 1) → exec .partnerAbsentTimeout s = .next s) ∧
  (s.cus.own = 3 → s.cus.paired = true → s.cus.partner ≠ 1 → ∃ t, exec .partnerAbsentTimeout s = .next t ∧ IslandsReset s t ∧
    t.cus.own = 0 ∧ t.cus.latch = true)) ∧
  (∀ (s : State),
  let c := s.cus
  ((c.own ≠ 1 ∨ c.guard = false) → exec .guardExpiry s = .next s) ∧
  (c.own = 1 → c.guard = true → ∃ t, exec .guardExpiry s = .next t ∧ t.cus.own = 2 ∧ t.cus.guard = false ∧ t.cus.latch = false ∧
    t.cus.escDrive = true ∧ t.mem = s.mem ∧ t.esc.image.isSome = true ∧
    ((∀ n, n < 16 → (s.trg n).restored = false) → t.engine = s.engine ∧
      (s.pwr.resume = false → t.esc.journal = s.esc.journal ∧ t.evq = s.evq ∧
        { t with cus := s.cus, esc := s.esc, mon := s.mon, freeCtr := s.freeCtr } = s)) ∧
    (s.pwr.resume = true → t.zk.owner.offer = none ∧ t.zk.owner.maint = false ∧
      s.esc.nextSeq < t.esc.nextSeq)) ∧
  ((c.own ≠ 1 ∨ c.yielding = false) → exec .yieldTimeout s = .next s) ∧
  (c.own = 1 → c.yielding = true → ∃ t, exec .yieldTimeout s = .next t ∧ ToVault s t) ∧
  (∀ code : BitVec 2, let k := code.toNat
    let leave := decide (2 ≤ c.partner ∧ k = 0) || (c.sawLeave && decide (k < 2))
    (c.own = 1 → exec (.cuspChange code) s = .next { s with cus := { c with
      partner := k, sawLeave := leave, guard := decide (k = 0 ∨ (k = 1 ∧ c.roleB = false))
      yielding := decide (k = 2 ∨ (k = 1 ∧ c.roleB = true)), escDrive := c.escDrive && decide (k ≠ 2) } }) ∧
    (c.own = 2 → (k = 0 ∨ (2 ≤ k ∧ c.roleB = false)) →
      exec (.cuspChange code) s = .next { s with cus := { c with partner := k, sawLeave := leave } }) ∧
    (c.own = 2 → k = 1 → c.partner = 1 →
      exec (.cuspChange code) s = .next { s with cus := { c with partner := k, sawLeave := leave } }) ∧
    (c.own = 2 → k = 1 → c.partner ≠ 1 → ∃ t, exec (.cuspChange code) s = .next t ∧ t.cus.own = 2 ∧ t.cus.visits = (c.visits + 1) % 256 ∧ t.cus.visitAt = s.sctr ∧
      t.cus.partner = 1 ∧ t.mem = s.mem ∧ t.engine = s.engine) ∧
    ((c.own = 2 ∨ c.own = 3) → 2 ≤ k → c.roleB = true → ∃ t, exec (.cuspChange code) s = .next t ∧ ToVault s t ∧ t.cus.latch = false ∧
      t.cus.conflictPending = true ∧ t.cus.conflicts = (if c.conflicts < 0xFF then c.conflicts + 1 else c.conflicts) ∧
      t.esc.sealB = s.esc.sealB) ∧
    (c.own = 3 → k = 1 → ∃ t, exec (.cuspChange code) s = .next t ∧ ToVault s t ∧ t.cus.latch = false) ∧
    (c.own = 0 → s.pwr.phase = .vault → s.bitN 0x10150000 5 = true → k ≠ c.partner → ∃ t, exec (.cuspChange code) s = .next t ∧
      t.pwr.phase = .rising ∧ t.pwr.wakeSrc = 2 ∧ t.cus.partner = k ∧ t.cus.wakeAt = some (s.freeCtr, s.tbs.now)) ∧
    (c.own = 0 → s.pwr.phase = .awake → s.pwr.step = 5 → s.started = false → c.paired = true → k ≠ c.partner →
      (k = 3 ∨ (2 ≤ c.partner ∧ k = 0)) → ∃ t, exec (.cuspChange code) s = .next t ∧ t.pwr = { s.pwr with resume := true } ∧
        t.cus.escDrive = true ∧ t.cus.own = 0 ∧ { t with pwr := s.pwr, cus := c } = s)) ∧
  (let stands := s.pwr.phase = .awake ∧ s.pwr.step = 5 ∧ s.started = false
   ((c.own ≠ 0 ∨ c.paired = false ∨ c.partner ≠ 2 ∨ (s.pwr.phase ≠ .vault ∧ ¬stands)) →
     ∀ ws, exec (.presenceVisit ws) s = .next s) ∧
   (c.own = 0 → c.paired = true → c.partner = 2 → (s.pwr.phase = .vault ∨ stands) →
    (∀ ws, ¬Snooped ws → ∃ t, exec (.presenceVisit ws) s = .next t ∧ ToVault s t ∧ t.cus.escFail = true) ∧
    (∀ ws, Snooped ws → ∃ t, exec (.presenceVisit ws) s = .next t ∧ t.cus.own = 1 ∧ t.cus.escFail = false ∧ t.cus.guard = false ∧
      t.cus.yielding = true ∧ t.pwr.phase = .awake ∧ { t with cus := c, pwr := s.pwr, freeCtr := s.freeCtr } = s ∧ (stands → t.pwr = s.pwr) ∧
      (s.pwr.phase = .vault → t.pwr.wakeSrc = 3 ∧ t.pwr.step = 5 ∧ t.cus.wakeAt = some (s.freeCtr, s.tbs.now))))) ∧
  (let missing := c.own = 2 ∧ c.paired = true ∧ s.started = true ∧
      c.visitAt + 2 * max 1 (s.fldN 0x100F0000 8 8) * 3600 * 48000 ≤ s.sctr
   (¬missing → exec .custodyStandbyMissing s = .next s) ∧
   (missing → ∃ t, exec .custodyStandbyMissing s = .next t ∧ t.cus = { c with visitAt := s.sctr } ∧ t.mem = s.mem ∧
     (c.escDrive = false → EventsRaised s t [(0x0705, s.ledger 0x16 0)]) ∧ (c.escDrive = true → s.esc.nextSeq < t.esc.nextSeq))) ∧
  (∀ sig esc, ((s.pwr.phase ≠ .awake ∨ s.pwr.resume = false ∨ s.pwr.step ≠ 5 ∨ s.started = true) →
      exec (.resume sig esc) s = .next s) ∧
    (s.pwr.phase = .awake → s.pwr.resume = true → s.pwr.step = 5 → s.started = false → ∃ t, exec (.resume sig esc) s = .next t ∧
      t.cus.ready = true ∧ t.started = true ∧ t.pwr.step = 7 ∧ t.sctr % 24 = 0 ∧ 1 ≤ t.cus.sctrSrc ∧ t.cus.sctrSrc ≤ 4 ∧
      ((s.record esc).image = none → t.cus.own = c.own) ∧
      (∀ pre v, sig.marks = pre ++ [timeMarkCells v, timeMarkCells (v + 24)] → v % 24 = 0 → v + 24 < 2 ^ 64 →
        t.cus.tmSeen = true ∧ ((s.record esc).image = none → c.paired = true → t.cus.sctrSrc = 1 ∧ t.sctr = v + 48)))) ∧
  ((c.own ≠ 2 ∨ c.escDrive = false) → exec .checkpointSeal s = .next s) ∧
  (c.own = 2 → c.escDrive = true → ∃ t e, exec .checkpointSeal s = .next t ∧ t.esc.covered = s.esc.nextSeq ∧
    t.esc.nextSeq = s.esc.nextSeq + 1 ∧ (∃ n, t.esc.journal = (s.esc.journal ++ [e]).drop n) ∧
    (((s.esc.journal ++ [e]).map (fun a => 48 + 4 * a.args.length)).sum ≤ s.esc.ring → t.esc.journal = s.esc.journal ++ [e]) ∧
    e.kind = 7 ∧ e.source = 15 ∧ e.seq = s.esc.nextSeq ∧ t.esc.sealAt = s.sctr ∧
    (∃ k, k < 2 ∧ Tbl.find t.esc.slots k = some { seq := s.esc.nextSeq, scene := s.zk.sceneRef, good := true } ∧
      (∀ a b, Tbl.find s.esc.slots k = some a → Tbl.find s.esc.slots (1 - k) = some b → a.seq ≤ b.seq)) ∧
    (∃ z : Snapshot, t.esc.image = some z ∧ z.ramps = s.engine.ramps ∧ z.marks = s.marks ∧
      (s.zk.maintCmt = none → z.cmt = s.engine.cmt)) ∧
    t.mem = s.mem ∧ t.regs = s.regs))

/-- R541, R543, R544, R547, R548, R549: supplies, resets, Vault entry and wakes.

The model's own readings in it: log entry 59. -/
def Obligations.PowerAndReset : Prop := ∀ (s : State),
  let p := s.pwr
  (∀ straps, ∃ t, exec (.por straps) s = .next t ∧ NothingKept s t ∧ t.pwr.phase = .rising ∧ t.pwr.good = 0x200 ∧ t.pwr.cause = 1 ∧
    t.pwr.straps = straps &&& 0x1F ∧ t.cus.roleB = straps.bit 3 ∧ t.cus.paired = straps.bit 4) ∧
  (∃ t, exec .vaultSupplyLoss s = .next t ∧ NothingKept s t ∧ t.pwr.phase = .off) ∧
  exec .supplyGood s = .next (if p.phase = .rising
    then { s with pwr := { p with good := 0x3FF, phase := (if s.cus.held || p.resetLow then .held else .awake) } } else s) ∧
  exec .supplyRetry s = .next (if p.phase = .retry then { s with pwr := { p with phase := .rising } } else s) ∧
  (∀ good : Word, (p.phase ≠ .rising ∨ (∀ k, k < 9 → good.bit k = true)) → exec (.supplyRiseTimeout good) s = .next s) ∧
  (∀ good : Word, p.phase = .rising → (∃ k, k < 9 ∧ good.bit k = false) → ∃ t, exec (.supplyRiseTimeout good) s = .next t ∧
    { t with pwr := p } = s ∧ t.pwr.phase = .retry ∧ t.pwr.good = 0x200 ∧
    (∀ k, t.pwr.trip.testBit k = (p.trip.testBit k || decide (k < 9 ∧ good.bit k = false)))) ∧
  exec (.supplyTrip 9) s = .next s ∧
  (∀ k : Fin 10, k ≠ 9 → ∃ t, exec (.supplyTrip k) s = .next t ∧
    (∀ j, t.pwr.trip.testBit j = (p.trip.testBit j || decide (j = k.val))) ∧
    (p.phase ≠ .awake → t.pwr.phase = p.phase ∧ { t with pwr := p } = s) ∧
    (p.phase = .awake → s.started = true → (k = 0 ∨ k = 5 ∨ k = 6) → IslandsReset s t ∧ t.cus.own = 0 ∧ t.pwr.phase = .rising ∧
      t.cus.cause = 7 ∧ t.esc.sealA = s.esc.sealA ∧ t.esc.sealB = s.esc.sealB ∧ (s.cus.own = 2 → t.cus.latch = true)) ∧
    (p.phase = .awake → s.started = true → k ≠ 0 → k ≠ 5 → k ≠ 6 → s.cus.own = 2 → s.cus.partner ≠ 1 → GaveUp s t 7 0) ∧
    (p.phase = .awake → s.started = true → k ≠ 0 → k ≠ 5 → k ≠ 6 → s.cus.own = 2 → s.cus.partner = 1 → LetGo s t 7) ∧
    (p.phase = .awake → s.started = false → IslandsReset s t ∧ t.cus.own = 0 ∧ t.pwr.phase = .rising)) ∧
  (p.phase = .off → exec .pinReset s = .next s) ∧
  ((p.phase = .vault ∨ p.phase = .entering) → exec .pinReset s = .next { s with pwr := { p with resetLow := true } }) ∧
  (p.phase ≠ .off → p.phase ≠ .vault → p.phase ≠ .entering → ∃ t, exec .pinReset s = .next t ∧ IslandsReset s t ∧ t.cus.own = 0 ∧
    t.pwr.resetLow = true ∧ t.pwr.phase = (if p.phase = .rising ∨ p.phase = .retry then p.phase else .held)) ∧
  (∀ straps, p.resetLow = false → exec (.resetRelease straps) s = .next s) ∧
  (∀ straps, p.resetLow = true → ∃ t, exec (.resetRelease straps) s = .next t ∧ t.pwr.resetLow = false ∧
    t.pwr.straps = straps &&& 0x1F ∧ { t with pwr := p, cus := s.cus, freeCtr := s.freeCtr } = s ∧
    t.pwr.phase = (match p.phase with
      | .held => if s.cus.held then .held else .awake
      | .vault => .rising
      | x => x)) ∧
  exec .maintReset s = .next (if p.resetLow then { s with
    pwr := { p with cause := 0, wakeSrc := 0 }, cus := { s.cus with restarts := [], held := false } } else s) ∧
  ((s.cus.own = 2 ∨ s.cus.own = 3) → exec .enter s = .next { s with pwr := { p with err := true } }) ∧
  (s.cus.own ≠ 2 → s.cus.own ≠ 3 → p.phase = .awake → ∃ t, exec .enter s = .next t ∧ IslandsReset s t ∧ t.pwr.phase = .entering ∧
    t.pwr.wakeSeen = none) ∧
  (p.phase ≠ .entering → exec .vaultEntered s = .next s) ∧
  (p.phase = .entering → ∃ t, exec .vaultEntered s = .next t ∧ { t with pwr := p, cus := s.cus, freeCtr := s.freeCtr } = s ∧ t.pwr.good = 0x200 ∧
    (p.wakeSeen = none → t.pwr.phase = .vault ∧ t.cus = s.cus) ∧
    (∀ k, p.wakeSeen = some k → t.pwr.phase = .rising ∧ t.pwr.wakeSrc = k ∧ t.cus.wakeAt = some (s.freeCtr, s.tbs.now))) ∧
  (∀ src : BitVec 3,
    let k := src.toNat
    let on := k = 4 ∨ (k = 1 ∧ s.bitN 0x10150000 4 = true) ∨ (k = 2 ∧ s.bitN 0x10150000 5 = true) ∨
      (k = 3 ∧ s.bitN 0x10150000 6 = true ∧ s.bitN 0x10150000 1 = true)
    let wakes : State := { s with
      pwr := { p with phase := .rising, cause := p.cause ||| 8, wakeSrc := k, wakeSeen := none },
      cus := { s.cus with wakeAt := some (s.freeCtr, s.tbs.now) }, freeCtr := s.freeCtr + 1 }
    ((¬on ∨ (p.phase ≠ .vault ∧ p.phase ≠ .entering)) → exec (.wake src) s = .next s) ∧
    (on → p.phase = .vault → exec (.wake src) s = .next wakes) ∧
    (on → p.phase = .entering → exec (.wake src) s = .next { s with pwr := { p with
      wakeSeen := some (match p.wakeSeen with | some j => min j k | none => k) } })) ∧
  exec .wakeTimerExpiry s = (if s.fldN 0x10150004 0 24 = 0 then .next s else exec (.wake 3) s)

/-- R432, R433, R434, R550, R551, R552, R554: the boot takes the first image it accepts, and goes to 01, to a resume, or, with its partner
seated, no further; a device that has seated starts its engine at a block boundary; a download is taken
word by word; the anti-rollback counter follows the running image.

The model's own readings in it: log entries 43, 61, 92. -/
def Obligations.BootAndImages : Prop := ∀ (s : State),
  let p := s.pwr
  (∀ n ws, imageFail n ws = 0 ↔ ImageGood n ws) ∧
  (∀ selfTest dram marks frame absent, (p.phase ≠ .awake ∨ 1 < p.step ∨ s.started = true) → exec (.boot selfTest dram marks frame absent) s = .next s) ∧
  (∀ (selfTest : Word) (dram : Fin 3) marks frame absent, p.phase = .awake → p.step ≤ 1 → s.started = false →
    ∃ t, exec (.boot selfTest dram marks frame absent) s = .next t ∧
      (s.acceptedImage = none → t.pwr.step = 1 ∧ t.started = false ∧ t.cus = s.cus) ∧
      (∀ index inB dl, s.acceptedImage = some (index, inB, dl) →
        t.pwr.index = index ∧ t.pwr.slotB = inB ∧ t.pwr.download = dl ∧ t.started = false ∧ t.dramSize = dram ∧
        (selfTest.fld 0 4 ≠ 0 → t.pwr.step = 4 ∧ t.pwr.stFail = selfTest.fld 0 4 ∧ t.cus = s.cus) ∧
        (selfTest.fld 0 4 = 0 → t.pwr.step = 5 ∧ t.node = s.zk.nodeCfg % 64 ∧ (t.cus.escDrive = true ↔ s.mayDrive absent) ∧
          (s.cus.partner = 2 → t.cus = { s.cus with escDrive := t.cus.escDrive }) ∧
          (s.cus.partner ≠ 2 → (p.taking = true ∨ s.cus.partner = 3 ∨ s.cus.sawLeave = true) →
            t.pwr.resume = true ∧ t.cus = { s.cus with escDrive := t.cus.escDrive }) ∧
          (s.cus.partner ≠ 2 → p.taking = false → s.cus.partner ≠ 3 → s.cus.sawLeave = false →
            t.cus.own = 1 ∧ t.pwr.start = { marks := marks, frame := frame, absent := absent })))) ∧
  (∀ dt, s.started = false → p.phase = .awake → s.cus.own = 2 → p.step = 5 → p.resume = false →
    let u := tbRun dt s
    ∃ t, exec (.blockBoundary dt) s = .next t ∧ t.started = true ∧ t.pwr.step = 7 ∧
      t.cus = { s.cus with sctrSrc := 0, visitAt := t.sctr, seatAt := t.sctr } ∧
      t.eng = s.live ∧ t.sctr = u.startSctr false (u.sctrSource (u.bitN (tbReg 0 0) 0) p.start) p.start) ∧
  (∀ ws, ∃ t, exec (.downloadFrame ws) s = .next t ∧ { t with pwr := p } = s ∧ t.pwr.phase = p.phase ∧ t.pwr.step = p.step ∧
    ((p.phase ≠ .awake ∨ s.started = true ∨ 1 < p.step ∨ p.straps.fld 0 3 = 0 ∨ 4 ≤ p.straps.fld 0 3 ∨
      (s.cus.partner ≠ 0 ∧ s.cus.paired = true)) → t.pwr = p) ∧
    (p.phase = .awake → s.started = false → p.step ≤ 1 → 1 ≤ p.straps.fld 0 3 → p.straps.fld 0 3 ≤ 3 →
      (s.cus.partner = 0 ∨ s.cus.paired = false) →
      let all := p.dlWords ++ ws
      (p.dlState ≠ 0 → t.pwr.dlState = p.dlState) ∧
      (p.dlState = 0 → t.pwr.dlWords = all ∧
        ((all.length < 64 ∨ all.length < 64 + (all.getD 3 0).toNat / 4) → t.pwr.dlState = 0) ∧
        (64 ≤ all.length → 64 + (all.getD 3 0).toNat / 4 ≤ all.length →
          (ImageGood p.counter all → t.pwr.dlState = 1) ∧ (¬ImageGood p.counter all → t.pwr.dlState = 2))))) ∧
  exec .rollbackBlow s = .next (if s.cus.own = 2 ∧ s.started = true ∧ s.cus.seatAt + 600 * 48000 ≤ s.sctr ∧ s.zk.rollHold = false
    then { s with pwr := { p with counter := max p.counter (min 64 p.index) } } else s)

/-- R436 to R442, R444, R453: SPI transactions, UART frames, datagrams, the responses and events that leave, CLRCNT,
MAINT_n and an offer that lapses.

The model's own readings in it: log entry 62. -/
def Obligations.Windows : Prop := ∀ (s : State),
  (s.cus.own ≠ 2 → ∀ (w : Fin 2) (v : Fin 4) (n : Nat) (op : BitVec 4) (bytes : List Byte) (ws : List Word) (ip : Word) (p : Nat),
    exec (.spiStatus w) s = .next s ∧ exec (.spiPut w n ws) s = .next s ∧ exec (.spiGetRsp w n) s = .next s ∧
    exec (.spiGetEvt w n) s = .next s ∧ exec (.spiBadOp w op) s = .next s ∧ (∀ a b, exec (.w2FrameReceive a bytes b) s = .next s) ∧
    exec (.w3DatagramReceive ip p ws) s = .next s ∧ exec (.responseSend v) s = .next s) ∧
  (s.cus.own = 2 → ∀ w : Fin 2, (s.evQ w).entries.length ≤ 256 →
    let x := s.win w
    let room := (2048 - (x.stream.length + (x.frames.map (fun f => f.2.2.length)).sum)) / 8
    let irq := (x.rsp ≠ [] ∧ s.bitN (0x10100100 + 0x20 * w.val) 0 = true) ∨
      ((s.evQ w).entries ≠ [] ∧ s.bitN (0x10100100 + 0x20 * w.val) 1 = true)
    (s.hirq w = true ↔ irq) ∧
    ∃ st, s.statusWord w st ∧
      exec (.spiStatus w) s = .next (s.setWin w { x with out := [st] }) ∧
      (∀ n ws, n ≤ 8 * room → exec (.spiPut w n ws) s = .next (s.setWin w
        { x with out := st :: List.replicate ws.length 0
                 stream := x.stream ++ ws.take n
                 db := (if ws.take n = [] then x.db else x.db + 1) })) ∧
      (∀ n ws, 8 * room < n → exec (.spiPut w n ws) s = .next (s.setWin w
        { x with out := st :: List.replicate ws.length 0, reqDrop := if x.reqDrop < 0xFFF then x.reqDrop + 1 else x.reqDrop })) ∧
      (∀ n, exec (.spiGetRsp w n) s = .next (s.setWin w
        { x with out := st :: 0 :: (x.rsp.take n ++ List.replicate (n - x.rsp.length) 0), rsp := x.rsp.drop n })) ∧
      (∀ n, ∃ u, exec (.spiGetEvt w n) s = .next u ∧
        let ws := ((s.evQ w).entries.map entryWords).flatten
        u.win w = { x with out := st :: 0 :: (ws.take n ++ List.replicate (n - ws.length) 0) } ∧
        u.evQ w = s.evTaken w (n / 4) ∧
        (∀ v : Nat, v ≠ w.val → u.win v = s.win v ∧ u.evQ v = s.evQ v) ∧
        { u with evq := s.evq, zk := { u.zk with windows := s.zk.windows } } = s) ∧
      (∀ op : BitVec 4, exec (.spiBadOp w op) s = .next (if op.toNat < 4 then s else s.setWin w
        { x with out := [st], badOp := if x.badOp < 0xFF then x.badOp + 1 else x.badOp }))) ∧
  (s.cus.own = 2 →
    let x := s.win 2
    let used := x.stream.length + (x.frames.map (fun f => f.2.2.length)).sum
    let status := fun (u : State) => w2Frame 4 [u.winStatus 2]
    let drops := fun (bytes : List Byte) => exec (.w2FrameReceive 0x7E bytes 0x7E) s = .next (s.setWin 2
      { x with reqDrop := (if x.reqDrop < 0xFFF then x.reqDrop + 1 else x.reqDrop), txd := status s })
    (∀ a b bytes, (a ≠ 0x7E ∨ b ≠ 0x7E) → exec (.w2FrameReceive a bytes b) s = .next s) ∧
    (∀ bytes, let all := unstuff bytes
      (all.length < 3 ∨ all.length % 4 ≠ 3 ∨
        crc16 (all.take (all.length - 2)) ≠ all.getD (all.length - 2) 0 ++ all.getD (all.length - 1) 0) → drops bytes) ∧
    (∀ ty ws bytes, w2Frame ty ws = ([0x7E] : List Byte) ++ bytes ++ [0x7E] →
      (ty = 1 → 2048 < used + ws.length → drops bytes) ∧
      (ty = 1 → used + ws.length ≤ 2048 → exec (.w2FrameReceive 0x7E bytes 0x7E) s = .next (s.setWin 2
        { x with frames := x.frames ++ [(0, 0, ws)], db := x.db + 1 })) ∧
      (ty ≠ 1 → exec (.w2FrameReceive 0x7E bytes 0x7E) s = .next (s.setWin 2
        { x with badOp := if x.badOp < 0xFF then x.badOp + 1 else x.badOp })))) ∧
  (s.cus.own = 2 →
    let x := s.win 3
    let used := x.stream.length + (x.frames.map (fun f => f.2.2.length)).sum
    let on := s.bitN 0x1010000C 31
    (on = false → ∀ ip p ws, exec (.w3DatagramReceive ip p ws) s = .next s) ∧
    (on = true → ∀ ip p ws, ws.head? ≠ some 0x01000000 → exec (.w3DatagramReceive ip p ws) s = .next (s.setWin 3
      { x with badOp := if x.badOp < 0xFF then x.badOp + 1 else x.badOp })) ∧
    (on = true → ∀ ip p ws, used + ws.length ≤ 2048 → ws.length ≤ 367 →
      exec (.w3DatagramReceive ip p ((0x01000000 : Word) :: ws)) s = .next (s.setWin 3
        { x with frames := x.frames ++ [(ip, p % 65536, ws)], db := x.db + 1 })) ∧
    (on = true → ∀ ip p ws, (2048 < used + ws.length ∨ 367 < ws.length) →
      exec (.w3DatagramReceive ip p ((0x01000000 : Word) :: ws)) s = .next (s.setWin 3
        { x with reqDrop := if x.reqDrop < 0xFFF then x.reqDrop + 1 else x.reqDrop }))) ∧
  (∀ x : Window, ((∀ o, x.owed.head? = some o → o.words = none) → Settled 2 x = x) ∧
    (∀ o rest ws, x.owed = o :: rest → o.words = some ws →
      (x.rsp.length + ws.length ≤ 4096 → Settled 2 x = Settled 2 { x with
        owed := rest, rsp := x.rsp ++ ws, rspTo := x.rspTo ++ [(o.ip, o.port)] }) ∧
      (4096 < x.rsp.length + ws.length → Settled 2 x = x))) ∧
  (s.cus.own = 2 → ∀ w : Fin 4,
    let x := s.win w
    let y := Settled w x
    let h := (y.rsp.headD 0).fld 0 16
    let sent := y.rsp.take h
    let rest := { y with rsp := y.rsp.drop h, rspTo := y.rspTo.drop 1 }
    let becomes := fun (u : State) (z : Window) => exec (.responseSend w) s = .next u ∧ WinBecomes s u w z ∧
      { u with evq := s.evq, zk := { u.zk with windows := s.zk.windows } } = s
    (∀ o os ws, w.val < 2 → x.owed = o :: os → o.words = some ws → exec (.responseSend w) s = .next (s.setWin w
      (if x.rsp.length + ws.length ≤ 4096 then { x with owed := os, rsp := x.rsp ++ ws, rspTo := [] } else { x with rspTo := [] }))) ∧
    (w.val < 2 → (∀ o, x.owed.head? = some o → o.words = none) →
      exec (.responseSend w) s = .next (s.setWin w { x with rspTo := [] })) ∧
    (w.val = 3 → s.bitN 0x1010000C 31 = false → exec (.responseSend w) s = .next s) ∧
    (w.val = 2 → y.rsp ≠ [] → ∃ u, becomes u { rest with txd := w2Frame 2 sent } ∧ u.evq = s.evq) ∧
    (w.val = 3 → s.bitN 0x1010000C 31 = true → y.rsp ≠ [] → h ≤ 1101 → ∃ u, ∃ ds : List (List Word),
      becomes u { rest with dgrams := ds.map (fun d => ((y.rspTo.headD (0, 0)).1, (y.rspTo.headD (0, 0)).2, d)) } ∧ u.evq = s.evq ∧
      (ds.map (fun d => d.drop 1)).flatten = sent ∧ ds.length = max 1 ((sent.length + 366) / 367) ∧
      ∀ j d, ds[j]? = some d → d.head? = some (if j = 0 then 0x02000000 else 0x05000000) ∧ d.length ≤ 368) ∧
    (w.val = 2 → y.rsp = [] → (s.evQ 2).entries = [] → ∃ u, becomes u y ∧ u.evq = s.evq) ∧
    (∀ e es, w.val = 2 → y.rsp = [] → (s.evQ 2).entries = e :: es → ∃ u, becomes u { y with txd := w2Frame 3 (entryWords e) } ∧
      ∀ slot, u.evQ slot = if slot = 2 then s.evTaken 2 1 else s.evQ slot) ∧
    (w.val = 3 → s.bitN 0x1010000C 31 = true → y.rsp = [] →
      let goes := fun (k : Nat) => (Tbl.find s.subs k).bind (fun sub => ((s.evQ (3 + k)).entries.head?).map (fun e =>
        (sub.1, sub.2, (0x03000000 : Word) :: entryWords e)))
      ∃ u, becomes u { y with dgrams := (List.range 4).filterMap goes } ∧
        ∀ slot, u.evQ slot = if 3 ≤ slot ∧ slot < 7 ∧ (goes (slot - 3)).isSome then s.evTaken slot 1 else s.evQ slot)) ∧
  (∀ w : Fin 4, exec (.windowClrcnt w) s = .next
    { s.setWin w { s.win w with reqDrop := 0, badOp := 0 } with evtLost := Tbl.set s.evtLost w 0 0 }) ∧
  exec .maintPin s = .next { s with zk := { s.zk with maintPin := true } } ∧
  exec .maintPinHigh s = .next { s with zk := { s.zk with maintPin := false } } ∧
  ((s.cus.own ≠ 2 ∨ s.cscRole = 2 ∨ s.zk.owner.offer = none) → exec .cedeLapse s = .next s) ∧
  (∀ w n, s.cus.own = 2 → s.cscRole ≠ 2 → s.zk.owner.offer = some (w, n) → (s.cus.escDrive = true → s.logRoom 1) →
    ∃ u, exec .cedeLapse s = .next u ∧ u.zk = { s.zk with owner := { s.zk.owner with offer := none } } ∧
      let r := s.raise 0x0905 (n * 256 + w)
      u.evq = r.evq ∧ u.evtLost = r.evtLost ∧ u.msgOut = r.msgOut ∧
      { u with zk := s.zk, evq := s.evq, evtLost := s.evtLost, msgOut := s.msgOut, csc := s.csc, esc := s.esc } = s ∧
      (s.cus.escDrive = true → u.esc.nextSeq = s.esc.nextSeq + 1 ∧ ∃ a, a ∈ u.esc.journal ∧ a.seq = s.esc.nextSeq ∧ a.kind = 3 ∧
        a.op = 0 ∧ a.status = 0))

/-- R452, R456, R461, R476, R477, R480, R485, R487, R489, R493, R495: what each read command of the catalogue answers; a read changes nothing but
the window that asked.

The model's own readings in it: log entries 21, 50, 53, 70, 73, 76. -/
def Obligations.HostReads : Prop := ∀ (q : Req) (s : State), s.calm → s.receives q → q.seq ≠ 0 →
  let a := fun (i : Nat) => q.args.getD i 0
  let u := fun (i : Nat) => unitOf ⟨0, q⟩ (a i)
  let has := fun (n : Nat) => q.args.length = n
  let node := has 3 ∧ lgNode (u 0) = s.node ∧ (a 0) &&& 0x03FFFFFF = 0
  let al := s.zk.alarm
  let plans := al.plan.map (fun e => (e.1 / 1024 * 2 ^ 26 + e.1 % 1024, e.2.active, e.2.silenced))
  let val := fun (live : Bool) (k : Nat) => if live then s.liv k else s.nxt k
  (has 0 →
    Reads s q 0x0101 .sysIdent [0x4810A0C5, Config.dieRevs, 0x00040100, Word.ofNat (s.node + 2 ^ 6 * s.fldN 0x100E0000 0 2)] ∧
    Reads s q 0x0102 .sysStatus [Word.ofNat s.cus.own, s.regVal 0x100A0018, s.regVal 0x10090208, Config.alarmSummary plans,
      Word.ofNat al.faults.length] ∧
    Reads s q 0x0207 .ownQuery [ownWord s.zk.owner] ∧
    (s.cscRole ≠ 2 → Reads s q 0x0505 .sceneStatus ((s.zk.sceneAt.take 340).flatMap (fun e =>
      [Word.ofNat (e.1 * 2 ^ 26 + 0x12 * 2 ^ 20 + e.2.1), Word.ofNat (e.2.2.1 + 2 ^ 8 * e.2.2.2.1), Word.ofNat e.2.2.2.2]))) ∧
    Reads s q 0x0506 .sceneList ((s.zk.scenes.take 510).flatMap (fun e => [Word.ofNat e.1, e.2.crc])) ∧
    Reads s q 0x0604 .msgList ((s.zk.messages.take 340).flatMap (fun e =>
      [Word.ofNat (s.ledger 0x13 e.1), Word.ofNat e.2.dom, Word.ofNat e.2.len])) ∧
    Reads s q 0x0705 .alarmStatus (Config.alarmStatus plans (al.faults.map (fun f => (f.code, f.payload, f.acked)))) ∧
    Reads s q 0x0904 .rsvStatus [Config.rsvReport 0 (some s.zk.rsv.q), Config.rsvReport 1 s.zk.rsv.margin,
      Config.rsvReport 2 s.zk.rsv.margin2, Word.ofNat ((s.regVal 0x10090208).fld 0 2), Word.ofNat ((s.regVal 0x10090208).fld 3 3)] ∧
    Reads s q 0x0A05 .clkStatus [s.regVal 0x100A0018] ∧
    Reads s q 0x0C04 .casTopo ([s.regVal 0x100E0010, s.regVal 0x100E0014] ++
      [0, 1, 2].flatMap (fun p => [s.regVal (0x100E0118 + 0x40 * p), s.regVal (0x100E011C + 0x40 * p)]) ++
      [Word.ofNat ((s.regVal 0x100E0004).fld 3 3)] ++ [0, 1, 2].map (fun p => s.regVal (0x100E0104 + 0x40 * p))) ∧
    Reads s q 0x0D01 .cusStatus [s.regVal 0x100F0004, s.regVal 0x100F0008, s.regVal 0x100F0018]) ∧
  (has 1 → (a 0).toNat ≤ 1 → Reads s q 0x0105 .sysFwCheck [Word.ofNat (s.fwFail ((a 0).bit 0))]) ∧
  (∀ f, f ∈ isFields → f.1 ≠ 15 → has 3 → s.unitHere q 0 [1] → (a 1).toNat = 256 * f.1 + f.2.1 → (a 2 = 2 ∨ a 2 = 3) →
    Reads s q 0x0301 .objGet [Word.ofNat ((val ((a 2).bit 0) (keyIS (lgIdx (u 0)) (4 * f.1))).fld f.2.1 f.2.2.1)]) ∧
  (has 3 → s.unitHere q 0 [5] → a 2 = 0 → (a 1 = 0x7001 → Reads s q 0x0301 .objGet [(s.roll (u 0)).gain]) ∧
    (a 1 = 0x7002 → Reads s q 0x0301 .objGet [if (s.roll (u 0)).mute then 1 else 0])) ∧
  (∀ v, has 3 → s.unitHere q 0 [1, 2, 5, 8, 9, 10] → (a 2) &&& 0xFFFFFFFC = 0 →
    s.getParam (u 0) (a 1).toNat ((a 2).bit 0) ((a 2).bit 1) = some v → Reads s q 0x0301 .objGet [v]) ∧
  (has 2 → s.unitHere q 0 [5] → Reads s q 0x0309 .objMembers
    ((((s.roll (u 0)).members.drop (a 1).toNat).take 1000).map Word.ofNat)) ∧
  (node → 1 ≤ (a 1).toNat → (a 1).toNat ≤ 0x16 → Reads s q 0x030A .objList
    ((((s.existing (a 1).toNat).filter (fun n => decide ((a 2).toNat ≤ n))).take 1021).map Word.ofNat)) ∧
  (∀ n, has 2 → s.unitHere q 0 [3] → s.srcSlots ⟨0x0403, q⟩ (a 1) = .ok [n] →
    let r := lgIdx (u 0)
    let gone := if ∃ b, b ∈ s.amdBeads r ∧ b.supersede = true ∧ b.src = n
      then ((s.mainBeads r).filter (fun b => b.src == n)).length else 0
    ∃ res, Reads s q 0x0403 .routeGet res ∧ res.length = 6 ∧ res.getD 5 0 = Word.ofNat gone ∧
      (s.effBead r n = none → res.take 5 = [0, 0, 0, 0, 0]) ∧
      (∀ k b, s.effBead r n = some (k, b) → res.take 3 = [Word.ofInt b.frm, Word.ofInt b.tgt, Word.ofNat b.ramp] ∧
        res.getD 4 0 = Word.ofNat k ∧ ∀ at', s.engine.shownAt = some at' →
          res.getD 3 0 = Word.ofInt (rampGain b.frm b.tgt (rampVal s.engine.rampsShown b.ramp at')))) ∧
  (has 2 → s.unitHere q 0 [3] → Reads s q 0x0404 .routeList
    ((((s.effBeads (lgIdx (u 0))).drop (a 1).toNat).take 500).flatMap (fun b => [Word.ofNat b.src, Word.ofInt b.tgt]))) ∧
  (has 1 → lgNode (u 0) = s.node → (a 0) &&& 0x03FFFFFF = 0 →
    Reads s q 0x0405 .routeCost [s.regVal 0x10010020, s.regVal 0x10010024, s.regVal 0x10010028, s.regVal 0x10030040]) ∧
  (has 1 → s.unitHere q 0 [6] →
    let x := s.player (lgIdx (u 0))
    let st := s.playerState x s.sctr
    (st = 0 → Reads s q 0x0603 .msgStatus [0, 0, 0, 0]) ∧
    (st ≠ 0 → let at' := s.playAt x (s.playIndex (s.message x.msg).dom x.start s.sctr)
      ∃ done, Reads s q 0x0603 .msgStatus [Word.ofNat st, Word.ofNat (s.ledger 0x13 (at'.2.2.getD (x.msg, 0)).1),
        Word.ofNat (at'.2.1 + done), Word.ofNat (at'.2.2.getD (x.msg, 0)).2] ∧ done ≤ 1 ∧ (at'.1 ≠ 3 → done = 0))) ∧
  (has 1 → lgNode (u 0) = s.node → (a 0) &&& 0x03FFFC00 = 0 → Reads s q 0x0707 .alarmPlanGet
    (Word.ofNat (s.node * 2 ^ 26 + (a 0).toNat % 1024) ::
      (List.range 8).map (fun i => (s.plan (s.node * 1024 + (a 0).toNat % 1024)).defn.getD i 0))) ∧
  (has 1 → s.unitHere q 0 [4] → Reads s q 0x0709 .alarmZoneGet
    (Word.ofNat (u 0) :: (List.range 8).map (fun i => (s.zone (lgIdx (u 0))).defn.getD i 0))) ∧
  (has 1 → s.unitHere q 0 [9] → let m := s.monC (lgIdx (u 0))
    Reads s q 0x0803 .supStatus [Config.supZ (lgIdx (u 0)) m.zLast, Config.supEps m.eLast,
      Config.supRun m.runAt.isSome m.lineFault m.outFault,
      Word.ofNat ((if m.zrefP.isSome then 1 else 0) + (if m.zrefT.isSome then 2 else 0))]) ∧
  (has 1 → 1 ≤ (a 0).toNat → (a 0).toNat ≤ 25 →
    Reads s q 0x0902 .rsvGet [Tbl.getD s.zk.rsv.par (a 0).toNat (Config.rsvWord (a 0).toNat)]) ∧
  (has 1 → s.unitHere q 0 [0x0E] → Reads s q 0x0B04 .netStatus
    ((List.range 12).map (fun i => s.regVal (0x100C0100 + 0x4000 * lgIdx (u 0) + 4 * i)))) ∧
  (has 1 → s.unitHere q 0 [0x0F] → let n := lgIdx (u 0)
    let base := fun (b m : Nat) => b + 0x4000 * (m / 32) + 0x40 * (m % 32)
    (n < 128 → Reads s q 0x0B04 .netStatus ([0x1C, 0x20, 0x24].map (fun o => s.regVal (base 0x100C2000 n + o)))) ∧
    (128 ≤ n → Reads s q 0x0B04 .netStatus [s.regVal (base 0x100C3000 (n - 128) + 0x20)])) ∧
  (node → let n := (a 2).toNat
    1 ≤ n → n ≤ 256 → sharedAt (a 1).toNat (4 * n) → s.memc.ecc = [] →
    Reads s q 0x0E01 .regRead ((List.range n).map (fun i => s.word ((a 1).toNat + 4 * i)))) ∧
  (has 2 → ∃ es, Reads s q 0x0F01 .logRead (Word.ofNat ((s.esc.journal.head?.map (fun e => e.seq)).getD s.esc.nextSeq) :: es) ∧
    let held := (s.esc.journal.filter (fun e => decide ((a 0).toNat ≤ e.seq))).take (a 1).toNat
    ∃ k, es = ((held.take k).flatMap (fun e => auditWords e ++ e.args)) ∧ es.length ≤ 1020 ∧
      (k < held.length → 1020 < ((held.take (k + 1)).flatMap (fun e => auditWords e ++ e.args)).length))

/-- R516, R519, R520, R521, R522, R523, R526: write-backs and the clears of the counters, the background test's regions, repairs and
failures, and the fabric watchdog.

R164, R533, R534, R535, R536: enabling a hardware queue, and the refusal with CFGERR (also of ESIZE = 3, which the model reads into the
reserved code); pushes, drops and their flags and interrupts; pops; OVF.CLR.

The model's own readings in it: log entries 15, 34, 78. -/
def Obligations.MemoryAndQueues : Prop :=
  (∀ (s : State),
  let m := s.memc
  let a := s.engine.abx
  (∀ addr : Word, let k := addr.toNat / 8
    (k ∉ m.writeback → exec (.eccWriteback addr) s = .next s) ∧
    (k ∈ m.writeback → ∃ t, exec (.eccWriteback addr) s = .next t ∧ t.eccAt addr.toNat = none ∧
      (∀ b, b / 8 ≠ k → t.eccAt b = s.eccAt b) ∧ (∀ j, j ∈ t.memc.writeback ↔ j ∈ m.writeback ∧ j ≠ k) ∧
      { t with memc := { t.memc with ecc := m.ecc, writeback := m.writeback } } = s)) ∧
  exec (.eccClr true) s = .next { s with memc := { m with unc := 0 } } ∧
  exec (.eccClr false) s = .next { s with memc := { m with corr := 0, corrArmed := true } } ∧
  exec .fabErrClr s = .next { s with memc := { m with fabErr := 0, fabArmed := true } } ∧
  (s.bitN 0x10130000 1 = false → exec .bgtRegionStart s = .next s) ∧
  (s.bitN 0x10130000 1 = true → ∃ t, exec .bgtRegionStart s = .next t ∧
    t.memc.region = (if m.started then (m.region + 1) % 4096 else 0) ∧
    t.memc.sweeps = (if m.started = true ∧ (m.region + 1) % 4096 = 0 then (m.sweeps + 1) % 65536 else m.sweeps) ∧
    (∀ k, k ∈ t.memc.testing ↔ k < 192 ∧ (128 ≤ k ∨ (k % 64 < 60 ∧ k / 64 ≠ a.mainLive ∧ a.mainOther = .building) ∨
      (60 ≤ k % 64 ∧ k / 64 ≠ a.amdLive ∧ a.amdOther = .building))) ∧
    { t with memc := { t.memc with region := m.region, sweeps := m.sweeps, testing := m.testing, started := m.started } } = s) ∧
  (∀ (bank : Fin 192) (pass : Bool), bank.val ∉ m.testing → exec (.bgtRegionDone bank pass) s = .next s) ∧
  (∀ bank : Fin 192, bank.val ∈ m.testing →
    let left := m.testing.filter (fun k => k ≠ bank.val)
    let spares := (m.repaired.filter (fun e => e / 4096 = bank.val)).length
    let record := fun (n : Nat) => BitVec.ofNat 32 (bank.val + 2 ^ 8 * m.region + n)
    exec (.bgtRegionDone bank true) s = .next { s with memc := { m with testing := left } } ∧
    (spares < 2 → exec (.bgtRegionDone bank false) s = .next ({ s with memc := { m with
      testing := left, repaired := m.repaired ++ [bank.val * 4096 + m.region], fail := record (2 ^ 20 + 2 ^ 31) } }.raise
        0x0803 (bank.val + m.region * 256))) ∧
    (2 ≤ spares → exec (.bgtRegionDone bank false) s = .next ({ s with memc := { m with
      testing := left, fail := record (2 ^ 31) } }.raise 0x0804 (bank.val + m.region * 256)))) ∧
  (∀ i : Init, (s.cus.own ≠ 2 → exec (.fabricWatchdog i) s = .next s) ∧
    (s.cus.own = 2 → ∃ t, exec (.fabricWatchdog i) s = .next t ∧ GivenUp s t 4 0 ∧
      (s.cus.partner ≠ 1 → t.memc = { m with wdogInit := i.val })))) ∧
  (∀ (n : Fin 128) (s : State),
  let q := s.queue n
  let cfg := s.reg (0x10110000 + 0x20 * n.val)
  let thr := s.fldN (0x10110004 + 0x20 * n.val) 0 17
  let depth := 2 ^ cfg.fld 3 5
  let size := 16 * 2 ^ cfg.fld 1 2
  let ring := 0x03000000 + 64 * cfg.fld 8 17
  let ok := 4 ≤ cfg.fld 3 5 ∧ cfg.fld 3 5 ≤ 16 ∧ cfg.fld 1 2 ≠ 3 ∧ ring + depth * size ≤ 0x03800000
  (cfg.bit 0 = true → exec (.queueEnable n) s = .next s) ∧
  (cfg.bit 0 = false → ok → exec (.queueEnable n) s = .next
    ((s.setReg (0x10110000 + 0x20 * n.val) (cfg.setFld 0 1 1)).setQueue n { q with cfgErr := false })) ∧
  (cfg.bit 0 = false → ¬ok → exec (.queueEnable n) s = .next (s.setQueue n { q with cfgErr := true })) ∧
  (∀ ws, cfg.bit 0 = false → exec (.queuePush n ws) s = .next s) ∧
  (∀ ws, cfg.bit 0 = true → depth ≤ q.count → exec (.queuePush n ws) s = .next ((s.setQueue n { q with
    flags := q.flags ||| 4, ovf := (if q.ovf < 0xFFFF then q.ovf + 1 else q.ovf), ovfArmed := false }).raiseIf q.ovfArmed 0x0807 n)) ∧
  (∀ ws, cfg.bit 0 = true → q.count < depth → ∃ t, exec (.queuePush n ws) s = .next t ∧
    Stored s t ((List.range (size / 4)).map (fun k => (ring + q.wr * size + 4 * k, ws.getD k 0))) ∧ OnlyEccEnded s t ∧
    { t.queue n with flags := q.flags } = { q with count := q.count + 1, wr := (q.wr + 1) % depth } ∧
    (∀ j, j < 32 → (t.queue n).flags.bit j = (q.flags.bit j || (decide (j = 0) && decide (q.count = 0)) ||
      (decide (j = 1) && decide (q.count + 1 = depth)) || (decide (j = 3) && decide (q.count + 1 = thr)))) ∧
    (∀ m : Nat, m ≠ n.val → t.queue m = s.queue m) ∧
    (∀ k : Nat, let sel := s.reg (0x10040010 + 0x100 * k)
      t.core k = if k < 64 ∧ sel.bit 31 = true ∧ sel.fld 0 7 = n.val ∧
          ((sel.bit 7 = false ∧ q.count = 0) ∨ (sel.bit 7 = true ∧ q.count + 1 = thr))
        then { s.core k with pend := (s.core k).pend ||| 2 } else s.core k) ∧
    { t with mem := s.mem, memc := s.memc, queues := s.queues, tly := { t.tly with cores := s.tly.cores } } = s) ∧
  (∀ k, exec (.queuePop n k) s = .next (s.setQueue n
    { q with count := q.count - min k q.count, rd := (q.rd + min k q.count) % depth })) ∧
  exec (.queueOvfClr n) s = .next (s.setQueue n { q with ovf := 0, ovfArmed := true }))

/-- R527, R528, R529, R530, R531, R532: a mover channel starts, pauses, aborts and is rung; a descriptor in shared SRAM moves its words, raises its
interrupts and follows its LINK; one that breaks R528 ends in ERROR; a channel drains; and the mover goes on with the lowest channel
that is ready.

The model's own readings in it: log entry 35. -/
def Obligations.MoverChannels : Prop := ∀ (c : Fin 32) (s : State),
  let x := s.dma c
  let ctlReg := 0x10120104 + 0x20 * c.val
  let pause := s.bitN ctlReg 1
  let runs := s.mover.cur = some c.val ∧ x.loaded = true
  let paused := s.setFldN ctlReg 1 1 1
  let free := s.setFldN ctlReg 1 1 0
  let rung := s.setDma c { x with db := (x.db + 1) % 65536 }
  let d := x.last.toNat
  let readable := d % 32 = 0 ∧ sharedAt d 32 ∧ s.memc.ecc = []
  let src := x.src.toNat
  let dst := x.dst.toNat
  let span := fun (fix : Nat) (n : Nat) => if x.ctl.bit fix then 4 else 4 * n
  let room := fun (n : Nat) => s.memc.ecc = [] ∧ sharedAt src (span 0 n) ∧ sharedAt dst (span 1 n) ∧
    (src + span 0 n ≤ dst ∨ dst + span 1 n ≤ src)
  let moved := fun (n : Nat) => { x with
    src := (if x.ctl.bit 0 then x.src else x.src + BitVec.ofNat 32 (4 * n)),
    dst := (if x.ctl.bit 1 then x.dst else x.dst + BitVec.ofNat 32 (4 * n)), remain := x.remain - 4 * n }
  (x.st = .active → MoverAnswers (exec (.dmaStart c) s) s) ∧
  (x.st ≠ .active → MoverAnswers (exec (.dmaStart c) s) (s.setDma c { x with
    st := .active, code := 0, last := s.reg (0x10120100 + 0x20 * c.val), loaded := false, linkPending := false, aborting := false,
    paused := pause })) ∧
  (runs → MoverAnswers (exec (.dmaPause c true) s) paused) ∧
  (¬runs → MoverAnswers (exec (.dmaPause c true) s) (paused.setDma c { x with paused := true })) ∧
  (pause = false → MoverAnswers (exec (.dmaPause c false) s) free) ∧
  (pause = true → (x.st ≠ .active ∨ x.linkPending = false) →
    MoverAnswers (exec (.dmaPause c false) s) (free.setDma c { x with paused := false })) ∧
  (pause = true → x.st = .active → x.linkPending = true → readable →
    MoverAnswers (exec (.dmaPause c false) s) ((free.setDma c { x with paused := false }).linked c)) ∧
  (x.st ≠ .active → MoverAnswers (exec (.dmaAbort c) s) s) ∧
  (x.st = .active → runs → MoverAnswers (exec (.dmaAbort c) s) (s.setDma c { x with aborting := true })) ∧
  (x.st = .active → s.mover.cur ≠ some c.val → MoverAnswers (exec (.dmaAbort c) s) ((s.setDma c
    { x with st := .idle, code := 3, loaded := false, linkPending := false, aborting := false }).moverEnds c)) ∧
  (x.st ≠ .done → MoverAnswers (exec (.dmaAppend c) s) rung) ∧
  (x.st = .done → readable → MoverAnswers (exec (.dmaAppend c) s) (rung.linked c)) ∧
  (¬(runs ∧ pause = false ∧ x.aborting = false) → exec (.descriptorComplete c) s = .next s) ∧
  (runs → pause = false → x.aborting = false → x.st = .active → x.remain % 4 = 0 → readable →
    let n := x.remain / 4
    let link := s.word (d + 16)
    room n → link.fld 0 5 = 0 → (d + 32 ≤ dst ∨ dst + span 1 n ≤ d) →
    ∃ v t, exec (.descriptorComplete c) s = .next t ∧ (v.legible → MoverServes v t) ∧ WordsMoved s v src dst n x.ctl ∧
      MoverBecomes s v c (linkOutcome { moved n with loaded := false } link) (x.ctl.bit 4) none ∧
      (∀ k : Nat, v.core k = if x.ctl.bit 5 = true ∧ k = x.ctl.fld 6 6 then { s.core k with pend := (s.core k).pend ||| 4 } else s.core k) ∧
      { v with mem := s.mem, memc := s.memc, mover := s.mover, tly := { v.tly with cores := s.tly.cores } } = s ∧
      { v.memc with writeback := s.memc.writeback } = s.memc) ∧
  (∀ n, (¬runs ∨ (pause = false ∧ x.aborting = false)) → exec (.dmaDrained c n) s = .next s) ∧
  (∀ n, runs → x.st = .active → (pause = true ∨ x.aborting = true) → n ≤ 16 → 4 * n < x.remain → room n →
    ∃ v t, exec (.dmaDrained c n) s = .next t ∧ (v.legible → MoverServes v t) ∧ WordsMoved s v src dst n x.ctl ∧
      { v with mem := s.mem, memc := s.memc, mover := s.mover } = s ∧
      (x.aborting = true → MoverBecomes s v c { moved n with st := .idle, code := 3, loaded := false, aborting := false } true none) ∧
      (x.aborting = false → MoverBecomes s v c { moved n with paused := true } false none))

/-- R443, R444, R446, R447, R450, R454, R477: the OWN commands: what each makes of the owner record, from whom, and what it answers, journals and
raises.

The model's own readings in it: log entries 74, 76. -/
def Obligations.HostOwnership : Prop := ∀ (q : Req) (s : State), s.calm → s.receives q → s.freshWrite q → s.cscRole ≠ 2 →
  let o := s.zk.owner
  let on3 := fun (w : Word) => if q.win = 3 then w else 0
  let mine : Owner := { owned := true, win := q.win, node := q.node, ip := on3 q.ip, port := if q.win = 3 then q.port else 0 }
  let leaves := if o.maint then [(0x0908, o.node * 256 + o.win)] else []
  let becomes := fun (op : Nat) (row : Req → Instr) (x : Owner) (es : List (Nat × Nat)) =>
    Writes s q op row [ownWord x] (fun t => t.zk.owner = x ∧ EventsRaised s t es ∧
      { t.wroteOf s with zk := { (t.wroteOf s).zk with owner := o }, evq := s.evq, evtLost := s.evtLost, msgOut := s.msgOut,
                         csc := s.csc } = s)
  let no := fun (op : Nat) (row : Req → Instr) (status arg : Nat) => Refuses s q op row status 0 arg [ownWord o]
  let a := q.args.getD 0 0
  let v := a.fld 0 4
  let n := if a.fld 26 6 = 63 then q.node else a.fld 26 6
  (q.args = [] →
    (o.owned = false → s.zk.claimScan ≠ some s.zk.scans → becomes 0x0201 .ownClaim mine [(0x0901, q.node * 256 + q.win)]) ∧
    (o.owned = false → s.zk.claimScan = some s.zk.scans → no 0x0201 .ownClaim 1 0x3FF) ∧
    (s.ownedBy q → becomes 0x0201 .ownClaim o []) ∧
    (o.owned = true → ¬s.ownedBy q → no 0x0201 .ownClaim 1 0x3FF) ∧
    (o.owned = true → o.offer = some (q.win.val, q.node) →
      becomes 0x0203 .ownAccept mine ((0x0904, q.node * 256 + q.win) :: leaves)) ∧
    ((o.owned = false ∨ o.offer ≠ some (q.win.val, q.node)) → no 0x0203 .ownAccept 1 0x3FF) ∧
    (s.ownedBy q → becomes 0x0204 .ownRelease {} ((0x0902, q.node * 256 + q.win) :: leaves)) ∧
    (¬s.ownedBy q → no 0x0204 .ownRelease 1 0x3FF) ∧
    (q.win = 2 → s.zk.maintPin = true → becomes 0x0205 .ownForce mine ((0x0906, q.node * 256 + 2) :: leaves)) ∧
    ((q.win ≠ 2 ∨ s.zk.maintPin = false) → no 0x0205 .ownForce 1 0x3FF)) ∧
  (q.args.length = 1 → a &&& 0x03FFFFF0 = 0 →
    (¬s.ownedBy q → no 0x0202 .ownCede 1 0x3FF) ∧
    (s.ownedBy q → s.nodeState n ≠ 0 → no 0x0202 .ownCede (s.nodeState n) 0) ∧
    (s.ownedBy q → s.nodeState n = 0 → (3 < v ∨ (v = o.win ∧ n = o.node)) → no 0x0202 .ownCede 3 0) ∧
    (s.ownedBy q → s.nodeState n = 0 → v ≤ 3 → (v ≠ o.win ∨ n ≠ o.node) →
      becomes 0x0202 .ownCede { o with offer := some (v, n) } [(0x0903, n * 256 + v)])) ∧
  (q.args.length = 1 →
    (¬s.ownedBy q → no 0x0206 .ownMaint 1 0x3FF) ∧
    (s.ownedBy q → 1 < a.toNat → no 0x0206 .ownMaint 3 0) ∧
    (s.ownedBy q → a.toNat ≤ 1 → a.bit 0 = o.maint → becomes 0x0206 .ownMaint o []) ∧
    (s.ownedBy q → a.toNat ≤ 1 → a.bit 0 ≠ o.maint → becomes 0x0206 .ownMaint { o with maint := a.bit 0 }
      [(if a.bit 0 then 0x0907 else 0x0908, o.node * 256 + o.win)]))

/-- R296, R323, R331, R421, R433, R434, R441, R463, R468, R474, R476, R484, R488 to R495: the write commands that take effect as they execute: what
each sets.

The model's own readings in it: log entries 43, 65, 73, 75, 76, 90. -/
def Obligations.HostSettings : Prop := ∀ (q : Req) (s : State), s.calm → s.receives q → q.seq ≠ 0 →
  let a := fun (i : Nat) => q.args.getD i 0
  let u := fun (i : Nat) => unitOf ⟨0, q⟩ (a i)
  let has := fun (n : Nat) => q.args.length = n
  let here := fun (i : Nat) => lgNode (u i) = s.node ∧ (a i) &&& 0x03FFFFFF = 0
  let al := s.zk.alarm
  let ext := 0x10000000
  let writes := s.freshWrite q ∧ s.ownedBy q
  let maint := writes ∧ s.zk.owner.maint = true
  let only := fun (t v : State) => t.wroteOf s = v
  let alarmOnly := fun (t : State) (x : Alarm) => t.zk.alarm = x ∧ { t.wroteOf s with
    zk := { (t.wroteOf s).zk with alarm := al }, csc := s.csc } = s
  let base := fun (b m : Nat) => b + 0x4000 * (m / 32) + 0x40 * (m % 32)
  let stream := fun (n : Nat) => if n < 128 then base (ext + 0xC2000) n else base (ext + 0xC3000) (n - 128)
  (writes → has 1 → (a 0).toNat ≤ 1 → Writes s q 0x0106 .sysRollbackHold [] (fun t =>
    only t { s with zk := { s.zk with rollHold := (a 0).bit 0 } })) ∧
  (maint → ∀ off ws, q.args = off :: ws → ws ≠ [] → off.toNat % 4 = 0 → off.toNat + 4 * ws.length ≤ 0x01000000 →
    Writes s q 0x0104 .sysFwWrite [] (fun t =>
      Stored s t ((List.range ws.length).map (fun i =>
        ((if s.pwr.slotB then 0xC0000000 else 0xC1000000) + off.toNat + 4 * i, ws.getD i 0))) ∧
      OnlyEccEnded s t ∧ { t.wroteOf s with mem := s.mem, memc := s.memc } = s)) ∧
  (maint → s.cus.partner ≠ 1 → (∀ w, w < 4 → (s.win w).owed = []) → ∀ row fw, (has 0 ∧ row = Instr.sysRestart ∧ fw = 1) ∨
      (has 1 ∧ row = Instr.cusGiveup ∧ fw = (a 0).toNat ∧ 2 ≤ fw ∧ fw ≤ 15) →
    ∃ t, exec (row q) s = .next t ∧ t.cus.own = 3 ∧ t.cus.cause = 9 ∧ t.cus.fwcode = fw ∧ t.cus.latch = true ∧ t.cus.escDrive = false ∧
      t.zk.quit = none ∧ (q.win.val < 2 → (t.win q.win).rsp.length = (s.win q.win).rsp.length + 3)) ∧
  (writes → has 1 → here 0 → Writes s q 0x0304 .objDiscard [Word.ofNat s.zk.staged.length] (fun t =>
    only t { s with zk := { s.zk with staged := [] } })) ∧
  (writes → has 1 → s.objectMemory < 65536 → ∀ k,
    ((lgCls (a 0).toNat = 5 ∧ lgIdx (a 0).toNat < 65536 ∧ k = u 0 ∧ lgNode k = s.node ∧ Tbl.find s.zk.rolls k = none) ∨
      (a 0 = 0xFFFFFFFF ∧ lgNode (u 0) = s.node ∧ ∃ n, n < 65536 ∧ k = s.ledger 5 n ∧ Tbl.find s.zk.rolls k = none ∧
        ∀ m, m < n → Tbl.find s.zk.rolls (s.ledger 5 m) ≠ none)) →
    Writes s q 0x0305 .objRollCreate [Word.ofNat k] (fun t =>
      (∀ j, Tbl.find t.zk.rolls j = if j = k then some {} else Tbl.find s.zk.rolls j) ∧
      { t.wroteOf s with zk := { (t.wroteOf s).zk with rolls := s.zk.rolls }, csc := s.csc } = s)) ∧
  (writes → has 1 → s.cscRole = 0 → lgNode (u 0) = s.node → lgCls (u 0) = 0x12 →
    (∃ x, Tbl.find s.zk.scenes (lgIdx (u 0)) = some x ∧ x.crcOk = true) → Writes s q 0x0503 .sceneAbort [] (fun t =>
      only t { s with zk := { s.zk with sceneAt := s.zk.sceneAt.filter (fun e => e.2.1 ≠ lgIdx (u 0)) } })) ∧
  (writes → has 2 → lgNode (u 0) = s.node → (a 0) &&& 0x03FFFC00 = 0 →
    let k := s.node * 1024 + (a 0).toNat % 1024
    let p := s.plan k
    ((p.w 0).bit 31 = false → Refuses s q 0x0701 .alarmTrigger 3 0 0 []) ∧
    ((p.w 0).bit 31 = true → s.planMine k = true → Writes s q 0x0701 .alarmTrigger [] (fun t =>
      (∃ acc, s.sctr ≤ acc ∧ acc < s.sctr + 24 ∧
        t.plan k = { p with accept := true, origin := a 1, moment := !p.trig, acceptedAt := acc }) ∧ (∀ j, j ≠ k → t.plan j = s.plan j) ∧
      t.zk.alarm = { al with plan := t.zk.alarm.plan } ∧ { t.wroteOf s with
        zk := { (t.wroteOf s).zk with alarm := al }, csc := s.csc
        engine := { t.engine with pos := s.engine.pos }, freeCtr := s.freeCtr } = s))) ∧
  (writes → has 2 → ∀ op row reset, (op = 0x0702 ∧ row = Instr.alarmSilence ∧ reset = false) ∨
      (op = 0x0703 ∧ row = Instr.alarmReset ∧ reset = true) →
    (∀ kind word, (a 0 = 0 ∧ kind = 0 ∧ word = 0) ∨
        (a 0 = 1 ∧ kind = 1 ∧ word = u 1 ∧ s.nodeState (lgNode (u 1)) = 0 ∧ (a 1) &&& 0x03FFFC00 = 0) ∨
        (a 0 = 2 ∧ kind = 2 ∧ word = u 1 ∧ s.unitHere q 1 [4, 5]) →
      Writes s q op row [] (fun t => alarmOnly t { al with asks := al.asks ++ [(kind, word, reset)] }))) ∧
  (writes → has 2 → let hit := fun (f : FaultEntry) => f.code = (a 0).toNat ∧ f.payload = (a 1).toNat
    (s.cscRole ≠ 2 → (∀ f, f ∈ al.faults → ¬hit f) →
      ((∀ e, e ∈ al.others → ((a 0).toNat, (a 1).toNat) ∉ e.2) → Refuses s q 0x0704 .alarmAck 3 0 0 []) ∧
      (∀ n fs, al.others.find? (fun e => e.2.contains ((a 0).toNat, (a 1).toNat)) = some (n, fs) →
        Writes s q 0x0704 .alarmAck [] (fun t => { t.wroteOf s with csc := s.csc } = s ∧
          ∀ p, s.portFor n = some p → t.csc = (cpPost (.ack n (a 0).toNat (a 1).toNat) p s).csc))) ∧
    ((∃ f, f ∈ al.faults ∧ hit f) → s.esc.nextSeq - s.esc.covered < 8190 →
      (s.esc.journal.map auditBytes).sum + 112 ≤ s.esc.ring → Writes s q 0x0704 .alarmAck [] (fun t =>
        EventsRaised s t [(0x0A0C, (a 0).toNat)] ∧
        t.zk.alarm = { al with faults := al.faults.map (fun f =>
          if f.code = (a 0).toNat ∧ f.payload = (a 1).toNat then { f with acked := true } else f) } ∧
        { t.wroteOf s with zk := { (t.wroteOf s).zk with alarm := al }, evq := s.evq, evtLost := s.evtLost, msgOut := s.msgOut } = s))) ∧
  (maint → has 9 → frameBad ⟨0x0706, q⟩ s = none → lgNode (u 0) = s.node → s.unitHere q 4 [4, 5] →
    ((a 1).fld 8 2 = 1 → (a 1).fld 10 5 ≤ 15) →
    let k := s.node * 1024 + (a 0).toNat % 1024
    (s.plan k).active = false → Writes s q 0x0706 .alarmPlanSet [] (fun t =>
      t.plan k = { defn := (q.args.drop 1).set 3 (Word.ofNat (u 4)) } ∧ (∀ j, j ≠ k → t.plan j = s.plan j) ∧
      alarmOnly t { al with plan := t.zk.alarm.plan, dirty := true })) ∧
  (writes → has 9 → frameBad ⟨0x0708, q⟩ s = none → s.unitHere q 0 [4] →
    let n := lgIdx (u 0)
    let z : Zone := { s.zone n with defn := q.args.drop 1 }
    z.winner = none → s.zoneWrong n z = none → Writes s q 0x0708 .alarmZoneSet [] (fun t =>
      t.zone n = z ∧ (∀ j, j ≠ n → t.zone j = s.zone j) ∧
      alarmOnly t { al with zone := t.zk.alarm.zone, dirty := true })) ∧
  (writes → has 2 → (a 1) &&& 0xFFFFFFFC = 0 → s.unitHere q 0 [9] → s.lockedUnit (u 0) = false →
    let n := lgIdx (u 0)
    let m := s.monC n
    Writes s q 0x0801 .supLearn [] (fun t =>
      t.monC n = { m with
        learnP := if (a 1).bit 0 then 10 else m.learnP, sumP := if (a 1).bit 0 then 0 else m.sumP
        learnT := if (a 1).bit 1 then 10 else m.learnT, sumT := if (a 1).bit 1 then 0 else m.sumT
        sumG := if (a 1).bit 1 then 0 else m.sumG } ∧
      (∀ j, j ≠ n → t.monC j = s.monC j) ∧ { t.wroteOf s with mon := { t.mon with ch := s.mon.ch } } = s)) ∧
  (writes → has 2 → 1 ≤ (a 0).toNat → (a 0).toNat ≤ 25 → Writes s q 0x0901 .rsvSet [] (fun t =>
    (∀ n, Tbl.find t.zk.rsv.par n = if n = (a 0).toNat then some (a 1) else Tbl.find s.zk.rsv.par n) ∧
    { t.wroteOf s with regs := s.regs, zk := { (t.wroteOf s).zk with rsv := { t.zk.rsv with par := s.zk.rsv.par } } } = s ∧
    (∀ b, t.reg b = if a 0 = 6 ∧ b = 0x10090004 then rwTakes (s.reg b) (a 1) (Word.ofNat (regMask b)) else s.reg b))) ∧
  (writes → has 32 → Writes s q 0x0903 .rsvTable [] (fun t => only t { s with
    zk := { s.zk with rsv := { s.zk.rsv with table := (List.range 16).map (fun i => (a (2 * i), a (2 * i + 1))) } } })) ∧
  (writes → frameBad ⟨0x0A01, q⟩ s = none → has 2 → (a 0).toNat ≤ 7 → Writes s q 0x0A01 .clkPrioSet [] (fun t =>
    AsWritten s t [(ext + 0xA0040 + 4 * (a 0).toNat, a 1)])) ∧
  (writes → frameBad ⟨0x0A02, q⟩ s = none → has 2 → s.unitHere q 0 [0x0C] → Writes s q 0x0A02 .clkSlotSet [] (fun t =>
    AsWritten s t [(ext + 0xA0100 + 0x20 * lgIdx (u 0), a 1)])) ∧
  (writes → 1 ≤ q.args.length → Writes s q 0x0A03 .clkMapSet [] (fun t =>
    only t { s with zk := { s.zk with gradeMap := some q.args } })) ∧
  (writes → frameBad ⟨0x0A04, q⟩ s = none → ∀ n, has n → 1 ≤ n → n ≤ 4 → Writes s q 0x0A04 .clkLoopSet [] (fun t =>
    AsWritten s t ((List.range n).reverse.map (fun i => (ext + 0xA0004 + 4 * i, a i))))) ∧
  (writes → frameBad ⟨0x0B01, q⟩ s = none → has 2 → s.unitHere q 0 [0x0E] → Writes s q 0x0B01 .netMacSet [] (fun t =>
    AsWritten s t [(ext + 0xC0000 + 0x4000 * lgIdx (u 0), a 1)])) ∧
  (writes → frameBad ⟨0x0B02, q⟩ s = none → ∀ n, has (n + 1) → 1 ≤ n → n ≤ 8 → s.unitHere q 0 [0x0F] → (lgIdx (u 0) < 128 → n ≤ 7) →
    Writes s q 0x0B02 .netStreamSet [] (fun t =>
      AsWritten s t ((List.range n).reverse.map (fun i => (stream (lgIdx (u 0)) + 4 * i, a (i + 1)))))) ∧
  (writes → has 2 → s.unitHere q 0 [0x0F] → (a 1).toNat ≤ 1 → Writes s q 0x0B03 .netStreamEn [] (fun t =>
    AsWritten s t [(stream (lgIdx (u 0)), (s.reg (stream (lgIdx (u 0)))).setBit 0 ((a 1).bit 0))])) ∧
  (writes → has 3 → s.unitHere q 0 [0x10] → (a 1).toNat ≤ 1 → (a 2).toNat ≤ 8192 → Writes s q 0x0C01 .casPortSet [] (fun t =>
    let r := ext + 0xE0100 + 0x40 * lgIdx (u 0)
    AsWritten s t [(r, ((s.reg r).setBit 0 ((a 1).bit 0)).setFld 1 14 (a 2).toNat)])) ∧
  (writes → has 2 → Writes s q 0x0D02 .cusHoldSet [] (fun t => AsWritten s t [(ext + 0xF000C, a 0), (ext + 0xF0010, a 1)])) ∧
  (writes → has 1 → (a 0).toNat ≤ 255 → (s.reg 0x100F0000).bit 4 = false → (s.reg 0x100F0000).bit 31 = false →
    Writes s q 0x0D03 .cusStbySet [] (fun t => AsWritten s t [(ext + 0xF0000, (s.reg 0x100F0000).setFld 8 8 (a 0).toNat)])) ∧
  (maint → lgNode (u 0) = s.node → (a 0) &&& 0x03FFFFFF = 0 → let ws := q.args.drop 2
    ws ≠ [] → sharedAt (a 1).toNat (4 * ws.length) → Writes s q 0x0E02 .regWrite [] (fun t =>
      Stored s t ((List.range ws.length).map (fun i => ((a 1).toNat + 4 * i, ws.getD i 0))) ∧ OnlyEccEnded s t ∧
      { t.wroteOf s with mem := s.mem, memc := s.memc, zk := { (t.wroteOf s).zk with
        maintRegs := s.zk.maintRegs, maintNext := s.zk.maintNext } } = s)) ∧
  (writes → has 0 → (s.esc.journal.map auditBytes).sum + 96 ≤ s.esc.ring → let n := s.esc.nextSeq
    Writes s q 0x0F02 .logCheckpoint [Word.ofNat n] (fun t => t.esc.covered = n + 1 ∧ t.esc.nextSeq = n + 2 ∧
      (∃ e, e ∈ t.esc.journal ∧ e.seq = n + 1 ∧ e.kind = 7) ∧ EventsRaised s t [(0x090A, n % 65536)] ∧
      { t.wroteOf s with evq := s.evq, evtLost := s.evtLost, msgOut := s.msgOut } = s)) ∧
  (let sets := fun (op : Nat) (row : Req → Instr) (t : State) (x : State) =>
      exec (row q) s = .next t ∧ Replied s t q op (frameOf op q.seq 0 0 0x3FF 0 []) ∧
      { t with zk := { t.zk with windows := s.zk.windows, scans := s.zk.scans }, evMask := s.evMask, subs := s.subs, evq := s.evq } = x;
    (has 1 → ∃ t, sets 0x1003 .evtMask t s ∧ t.subs = s.subs ∧ t.evq = s.evq ∧
      ∀ w : Nat, Tbl.getD t.evMask w 0x1FFE = if w = q.win then a 0 else Tbl.getD s.evMask w 0x1FFE) ∧
    (∀ k, q.win = 3 → has 1 → (s.subs.find? (fun e => e.2 = (q.ip, q.port))).map (fun e => e.1) = some k ∨
        ((∀ e, e ∈ s.subs → e.2 ≠ (q.ip, q.port)) ∧ k < 4 ∧ Tbl.find s.subs k = none ∧ ∀ j, j < k → Tbl.find s.subs j ≠ none) →
      ∃ t, sets 0x1001 .evtSubscribe t s ∧ t.evq = s.evq ∧
        (∀ j, Tbl.find t.subs j = if j = k then some (q.ip, q.port) else Tbl.find s.subs j) ∧
        ∀ w : Nat, Tbl.getD t.evMask w 0x1FFE = if w = 3 then a 0 else Tbl.getD s.evMask w 0x1FFE) ∧
    (∀ k, q.win = 3 → q.args.length ≤ 1 → (s.subs.find? (fun e => e.2 = (q.ip, q.port))).map (fun e => e.1) = some k →
      ∃ t, sets 0x1002 .evtUnsubscribe t s ∧ t.evMask = s.evMask ∧
        (∀ j, Tbl.find t.subs j = if j = k then none else Tbl.find s.subs j) ∧
        ∀ j, t.evQ j = if j = 3 + k then {} else s.evQ j))

/-- R31, R435, R436, R443, R455, R456, R457, R458, R471: how Zekor takes requests: SCAN_INTERVAL takes whole frames; malformed frames, repeats, reused
SEQ and requests from others than the owner are answered so; a request of another node's window is answered over the cascade.

The model's own readings in it: log entries 62, 63, 64, 76. -/
def Obligations.HostFrames : Prop := ∀ e, e ∈ hostRows → ∀ (q : Req) (s : State),
  let op := e.1
  let row := e.2
  let n := q.args.length
  let x := s.win q.win
  let own := if 0x0201 ≤ op ∧ op ≤ 0x0207 then [ownWord s.zk.owner] else []
  let plain := fun (status reason arg : Nat) =>
    ∃ t, exec (row q) s = .next t ∧ OnlyReplied s t q op (frameOf op q.seq status reason arg s.node own)
  let clean := ∀ e, e ∈ s.memc.ecc → 8 * e.1 < tellerAt
  let held := fun (a : Audit) => a.kind ≤ 3 ∧ a.source = q.win ∧ a.node = q.node ∧ a.ip = q.ip ∧ a.port = q.port ∧ a.reqSeq = q.seq
  (s.cus.own ≠ 2 → exec (row q) s = .next s ∧ exec .scanInterval s = .next s) ∧
  (q.node = s.node → 3072 < x.rsp.length → exec (row q) s = .next s) ∧
  (s.calm → q.node = s.node → s.rspRoom q.win = true → 1022 < n →
    (2 ≤ q.win.val → (∀ o, o ∈ x.owed → o.words = none → ¬(o.seq = q.seq ∧ o.ip = q.ip ∧ o.port = q.port)) → plain 0x0A 2 0x3FF) ∧
    (q.win.val < 2 → (∀ o, o ∈ x.owed → o.words = none → ¬(o.seq = 0 ∧ o.ip = q.ip ∧ o.port = q.port)) →
      ∃ t, exec (row q) s = .next t ∧ WinsAfter s t q.win { x with
          stream := [],
          owed := x.owed ++ [⟨op, 0, q.ip, q.port, crc32 q.args, some (frameOf op 0 0x0A 3 0x3FF s.node own)⟩] } ∧
        { t with zk := { t.zk with windows := s.zk.windows, scans := s.zk.scans } } = s)) ∧
  (∀ sp : CmdSpec, cmdSpec op = some sp → s.calm → s.receives q →
    let write := sp.kind ≠ .read ∧ sp.kind ≠ .local
    let bad := fun (status reason arg : Nat) => (¬write → plain status reason arg) ∧
      (write → s.cus.escDrive = true → s.logRoom n → Refuses s q op row status reason arg own)
    (q.seq = 0 → bad 0x0A 4 0x3FF) ∧
    (q.seq ≠ 0 → n < sp.least → bad 0x0A 5 n) ∧
    (q.seq ≠ 0 → sp.most < n → bad 0x0A 5 sp.most) ∧
    (q.seq ≠ 0 → sp.least ≤ n → n ≤ sp.most → (n - sp.least) % sp.step ≠ 0 → bad 0x0A 5 (n - (n - sp.least) % sp.step)) ∧
    (q.seq ≠ 0 → (op = 0x1001 ∨ op = 0x1002) → q.win ≠ 3 → sp.countBad n = none → plain 0x0B 0 0x3FF) ∧
    (write → frameBad ⟨op, q⟩ s = none → s.routeTo ⟨op, q⟩ = none →
      (∀ a ws, a ∈ s.esc.journal → held a → (∀ b, b ∈ s.esc.journal → held b → b = a) →
        (a.argCrc = crc32 q.args → a.answer = some ws → ∃ t, exec (row q) s = .next t ∧ OnlyReplied s t q op ws) ∧
        (a.argCrc ≠ crc32 q.args → s.cus.escDrive = true → s.logRoom n → Refuses s q op row 0x0A 1 0x3FF own)) ∧
      ((∀ a, a ∈ s.esc.journal → ¬held a) → s.cus.escDrive = true → s.logRoom n →
        ((sp.kind = .write ∧ ¬s.ownedBy q) ∨ (sp.kind = .maint ∧ (¬s.ownedBy q ∨ s.zk.owner.maint = false))) →
        Refuses s q op row 1 0 0x3FF []))) ∧
  (s.calm → q.node ≠ s.node → q.seq ≠ 0 → n = 0 → ∀ p, s.portFor q.node = some p → ∃ t, exec (.sysIdent q) s = .next t ∧
    (∀ w, w < 4 → t.win w = Settled w (s.win w)) ∧ { t with zk := { t.zk with windows := s.zk.windows, scans := s.zk.scans } } =
      cpPost (.response q.node q (some 0x0101) (frameOf 0x0101 q.seq 0 0 0x3FF 0
        [0x4810A0C5, Config.dieRevs, 0x00040100, Word.ofNat (s.node + 2 ^ 6 * s.fldN 0x100E0000 0 2)])) p s) ∧
  (s.calm → clean → (∀ w, w < 2 → (s.win w).stream = []) → (s.win 2).frames = [] → (s.win 3).frames = [] →
    ∃ t, exec .scanInterval s = .next t ∧ (∀ w, w < 4 → t.win w = Settled w (s.win w)) ∧ t.zk.scans = s.zk.scans + 1 ∧
      { t with zk := { t.zk with windows := s.zk.windows, scans := s.zk.scans } } = s) ∧
  (∀ (h seq ip : Word) (port : Nat) (args : List Word), s.calm → clean → args.length ≤ 1022 → h.fld 0 16 = 2 + args.length → h.fld 16 16 = op →
    let ws := h :: seq :: args
    (∀ w, w < 2 → w ≠ q.win.val → (s.win w).stream = []) → (∀ w, 2 ≤ w → w < 4 → w ≠ q.win.val → (s.win w).frames = []) →
    s.rspRoom q.win = true →
    (q.win.val < 2 → x.stream = ws → exec .scanInterval s =
      exec (row { win := q.win, node := s.node, seq := seq, args := args }) (s.setWin q.win { x with stream := [] })) ∧
    (2 ≤ q.win.val → x.frames = [(ip, port, ws)] → exec .scanInterval s =
      exec (row { win := q.win, node := s.node, ip := ip, port := port, seq := seq, args := args })
        (s.setWin q.win { x with frames := [] })))

/-- R465, R466, R467, R468, R469, R470, R471: a request with a timing block at this node: refused, staged, or built and armed with its C, its slot and
its edits; with NOWAIT it is answered as it is armed.

The model's own readings in it: log entries 67, 68, 76. -/
def Obligations.HostChanges : Prop := ∀ (q : Req) (op : Nat) (row : Req → Instr) (s : State),
  (op, row) ∈ [(0x0302, Instr.objSet), (0x0303, .objApply), (0x0306, .objRollAdd), (0x0307, .objRollRemove), (0x0308, .objRollDelete),
    (0x0401, .routeSet), (0x0402, .routeClear), (0x0601, .msgPlay), (0x0602, .msgStop), (0x0802, .supSet), (0x0C02, .casTransitSet),
    (0x0C03, .casReturnSet)] →
  s.calm → s.receives q → s.freshWrite q → s.ownedBy q →
  let c : Cmd := ⟨op, q⟩
  let t0 := timingOf q.args
  let u := unitOf c (q.args.getD 3 0)
  frameBad c s = none → s.routeTo c = none → s.isSeveral c = false → (op ∈ [0x0303, 0x0601, 0x0602, 0x0C03] → lgNode u = s.node) →
  let jseq := s.esc.nextSeq
  let idle := (s.expandUnit 6 u).all (fun p => !s.playerBusy (lgIdx p))
  let std := fun (at' : Nat) (slot : Nat) =>
    [Word.ofNat at', Word.ofNat (at' / 2 ^ 32), 0xFFFFFFFF, Word.ofNat jseq, Word.ofNat slot]
  (∀ r, s.admits false c = .bad r → r.status ≠ 0 → r.node = none → r.res = [] →
    Refuses s q op row r.status r.reason r.arg []) ∧
  (∀ slot es extra, s.admits false c = .ok (slot, es, extra) →
    (t0.stage = true → op = 0x0303 → Refuses s q op row 3 0 0 []) ∧
    (t0.stage = true → op ≠ 0x0303 → 4096 ≤ s.zk.staged.length → Refuses s q op row 5 0 0x3FF []) ∧
    (t0.stage = true → op ≠ 0x0303 → s.zk.staged.length < 4096 → Writes s q op row (std 0 0 ++ extra) (fun t =>
      t.wroteOf s = { s with zk := { s.zk with staged := s.zk.staged ++ [c] } })) ∧
    (t0.stage = false → op = 0x0602 → idle = true → Writes s q op row (std 0 0) (fun t =>
      t.wroteOf s = s)) ∧
    (t0.stage = false → (op = 0x0602 → idle = false) → s.unitFree none = true →
      s.engine.cmt.armed = none →
      let ed := slotEdits slot t0.cfg ++ es
      let page := !(editBeads ed).isEmpty
      let at' := if t0.asap then max s.soonest (s.stagedFor c) else t0.c
      let w := applyEdits ed s
      let built := buildChange { src := .host, edits := ed } at' s
      (page = true → s.engine.abx.amdOther = .building ∧ s.amendCount (editBeads ed) ≤ 65536) →
      (fadeWaits s w = true → ∃ t, exec (row q) s = .next t ∧ t.engine.cmt.armed = none ∧ t.next = s.next ∧
        ∃ ch, t.zk.change = some ch ∧ ch.phase = 0 ∧ ch.edits = ed) ∧
      (fadeWaits s w = false → overGrows page s built = false → ∃ t, exec (row q) s = .next t ∧
        Owes s t q op (if t0.nowait then some (frameOf op q.seq 0 0 0x3FF 0 (std at' slot ++ extra)) else none) ∧
        t.engine.cmt.armed = some ⟨at', page, false⟩ ∧ t.next = (applyEdits ed s).next ∧ t.live = s.live ∧
        (page = true → t.engine.abx.chkBusy = true ∧ t.engine.abx.chkKind = 1) ∧
        t.reg 0x1002C000 = Word.ofNat at' ∧ t.reg 0x1002C004 = Word.ofNat (at' / 2 ^ 32) ∧
        (∃ ch, t.zk.change = some ch ∧ ch.src = .host ∧ ch.phase = 2 ∧ ch.armedC = at' ∧ ch.edits = ed ∧
          ch.reqs = [⟨c, jseq, slot, extra, t0.nowait⟩]) ∧
        ∃ a, a ∈ t.esc.journal ∧ a.seq = jseq ∧ a.kind = 1 ∧ a.op = op ∧ a.args = q.args)))

/-- R408, R409, R462, R463, R465, R476, R478, R479, R486, R487: what the commands with a timing block change at this node, for one unit each: the
parameter's field, a roll's members, a pair's bead, a player, a supervision parameter, transit and return words.

The model's own readings in it: log entries 47, 67. -/
def Obligations.CommandEdits : Prop := ∀ (q : Req) (slot : Nat) (s : State),
  let a := fun (i : Nat) => q.args.getD i 0
  let t0 := timingOf q.args
  let u := fun (i : Nat) => unitOf ⟨0, q⟩ (a i)
  let i3 := lgIdx (u 3)
  let has := fun (n : Nat) => q.args.length = n
  let gives := fun (op : Nat) (es : List Edit) (res : List Word) => plainEdits ⟨op, q⟩ slot s = .ok (es, res)
  let free := fun (n : Nat) => s.lockedUnit n = false
  let r := s.roll (u 3)
  let n4 := (a 4).toNat
  (∀ f, f ∈ isFields → f.2.2.2 = true → allocated 1 f = false → factored 1 f.1 f.2.1 = false → rampField 1 f.1 f.2.1 = none →
    f.1 ≠ 8 → has 6 → s.unitHere q 3 [1] → free (u 3) → t0.partHeld = false → n4 = 256 * f.1 + f.2.1 → (a 5).toNat < 2 ^ f.2.2.1 →
    gives 0x0302 [.par (keyIS i3 (4 * f.1)) ((a 5) <<< f.2.1) (Word.ofNat ((2 ^ f.2.2.1 - 1) * 2 ^ f.2.1))] []) ∧
  (has 6 → s.unitHere q 3 [1] → free (u 3) → t0.partHeld = false →
    (n4 = 0x0300 → gives 0x0302 [.host (keyIS i3 0xC) (a 5) slot] []) ∧
    (n4 = 0x0200 → gives 0x0302 [.par (keyIS i3 8) (a 5) 0xFFFFFFFF, .par (keyIS i3 0x10) (Word.ofNat slot) 0xFFF] [])) ∧
  (has 6 → s.unitHere q 3 [5] → t0.partHeld = false → t0.fanout = false → free (u 3) →
    (∀ m, m ∈ underRoll s.zk.rolls (u 3) → free m) → n4 = 0x7001 →
    gives 0x0302 [.roll (u 3) (some { r with gain := a 5 }) slot] []) ∧
  (has 5 → s.unitHere q 3 [5] → s.unitHere q 4 [1, 2] → free (u 4) →
    s.objectMemory + ((insertNat (u 4) r.members).length - r.members.length) ≤ 65536 →
    gives 0x0306 [.roll (u 3) (some { r with members := insertNat (u 4) r.members }) slot] [] ∧
    gives 0x0307 [.roll (u 3) (some { r with members := r.members.filter (fun m => m ≠ u 4) }) slot] []) ∧
  (has 4 → s.unitHere q 3 [5] → free (u 3) → (∀ m, m ∈ underRoll s.zk.rolls (u 3) → free m) →
    gives 0x0308 ((s.zk.rolls.filter (fun e => e.2.members.contains (u 3))).map (fun e =>
      .roll e.1 (some { e.2 with members := e.2.members.filter (fun m => m ≠ u 3) }) slot) ++ [.roll (u 3) none slot]) []) ∧
  (∀ n, s.unitHere q 3 [3] → s.srcSlots ⟨0, q⟩ (a 4) = .ok [n] → free (s.ledger 3 i3) →
    (has 6 → (s.liveRod i3).en = true → s.liveSlotDom n = (s.liveRod i3).dom → s.tierBad i3 n = false →
      (s.liveRod i3).count + (s.amendRows [(i3, n, a 5, slot)] 0 i3).length ≤ 16384 →
      gives 0x0401 [.bead i3 n (a 5) slot] [1]) ∧
    (has 5 → s.effBead i3 n ≠ none → gives 0x0402 [.bead i3 n 0 slot] [1]) ∧
    (has 5 → s.effBead i3 n = none → gives 0x0402 [] [0])) ∧
  (has 8 → s.unitHere q 3 [6] → s.unitHere q 4 [0x13] → (a 5).toNat ≤ 65535 → (a 6).toNat ≤ 65535 →
    (t0.asap = true ∨ t0.stage = true ∨ s.stagedAt (lgIdx (u 4)) ≤ t0.c) → s.playerMisread i3 (s.message (lgIdx (u 4))).dom = false →
    free (s.ledger 6 i3) → s.playerBusy i3 = false →
    gives 0x0601 [.play i3 (lgIdx (u 4)) (a 5).toNat (a 6).toNat (a 7) t0.cfg] [Word.ofNat (s.ledger 6 i3)]) ∧
  (has 4 → s.unitHere q 3 [6] → free (u 3) → gives 0x0602 [.stop i3 t0.cfg] []) ∧
  (has 6 → s.unitHere q 3 [9] → free (u 3) → t0.partHeld = false → 1 ≤ n4 → n4 ≤ 3 → (n4 = 3 → (a 5).toNat ≤ 1) → gives 0x0802 [.sup i3 n4 (a 5)] []) ∧
  (has 5 → gives 0x0C02 [.par 0x100E1000 (a 3) (Word.ofNat (regMask 0x100E1000)),
    .par 0x100E1004 (a 4) (Word.ofNat (regMask 0x100E1004))] []) ∧
  (has 5 → s.unitHere q 3 [0x10] → gives 0x0C03
    [.par (0x100E0120 + 0x40 * i3) (a 4) (Word.ofNat (regMask (0x100E0120 + 0x40 * i3)))] []) ∧
  cmdEdits ⟨0x0303, q⟩ slot { s with zk := { s.zk with staged := [] } } = .ok ([.applied 0], [])

/-- R126, R296, R468, R469, R470, R486, R487: the armed change of one request lands as its commit resolves: the request is answered with C, the new
epoch, its journal sequence and its slot; the resolution is journaled; players, supervision parameters and staged changes follow.

The model's own readings in it: log entries 11, 68. -/
def Obligations.HostChangeLands : Prop := ∀ (q : Req) (a : Armed) (ch : Change) (p : Pend) (s : State),
  let c := s.engine.cmt
  let t1 : State := { s with live := s.next }
  s.cus.own = 2 → s.cus.escDrive = true → s.logRoom 0 → s.zk.aside = none → s.zk.alarm.dirty = false → s.csc.tree.mine = false →
  c.armed = some a → a.c / 24 * 24 ≤ s.sctr → c.cancelled = false → a.cond = false → s.nextBadCount = 0 →
  (a.page = true → s.imageReady = true) → (enabledOS s.next).find? (destConf s.next) = none → (∀ k, k ∈ s.marks → k % 4 = 0) →
  t1.transitConf = none →
  s.zk.change = some ch → ch.src = .host → ch.phase = 2 → ch.timer = none → ch.armedC = a.c → ch.scene = none → ch.reqs = [p] → p.cmd.req = q →
  q.node = s.node → p.nowait = false → (∃ o, o ∈ (s.win q.win).owed ∧ o.words = none ∧ o.seq = q.seq ∧ o.ip = q.ip ∧ o.port = q.port ∧ o.crc = crc32 q.args) →
  ∀ es : List Edit, (∃ e, ch.edits = es ++ [e] ∧ e.plain = true ∧ ∀ x, x ∈ es → ∃ k v m, x = .par k v m) →
  ∃ t, exec .commitResolve s = .next t ∧ t.zk.change = none ∧ t.live = s.next ∧ t.marks = [] ∧ t.engine.cmt.armed = none ∧
    t.engine.cmt.epoch = (c.epoch + 1) % 2 ^ 32 ∧ t.engine.cmt.lastC = a.c ∧
    (let ws := frameOf p.cmd.op q.seq 0 0 0x3FF 0 ([Word.ofNat a.c, Word.ofNat (a.c / 2 ^ 32), Word.ofNat ((c.epoch + 1) % 2 ^ 32),
        Word.ofNat p.jseq, Word.ofNat p.slot] ++ p.extra);
      WinBecomes s t q.win { s.win q.win with owed := (s.win q.win).owed.map (fun o =>
        if o.words = none ∧ o.seq = q.seq ∧ o.ip = q.ip ∧ o.port = q.port ∧ o.crc = crc32 q.args then { o with words := some ws } else o) }) ∧
    (∃ e, e ∈ t.esc.journal ∧ e.seq = s.esc.nextSeq ∧ e.kind = 6 ∧ e.status = 0) ∧
    (∀ n msg rep gap level cfg, ch.edits = es ++ [.play n msg rep gap level cfg] → t.player n =
      { st := 1, msg := msg, rep := rep, gap := gap, level := level, start := a.c, cfg := cfg }) ∧
    (∀ n cfg, ch.edits = es ++ [.stop n cfg] → (s.player n).st ≠ 0 → t.player n = { s.player n with stopAt := some (a.c, cfg) }) ∧
    (∀ n v, ch.edits = es ++ [.sup n 1 v] → t.monC n = { s.monC n with winW := some v }) ∧
    (∀ n v, ch.edits = es ++ [.sup n 2 v] → t.monC n = { s.monC n with thrW := some v }) ∧
    (∀ n, ch.edits = es ++ [.applied n] → t.zk.staged = s.zk.staged.drop n)

/-- R413, R481, R482, R483, R484: a lone node's scene requests: PREPARE and RECALL build the scene's page on one slot and start its check; COMMIT and RECALL
keep C and the ramp for the commit; the request waits.

The model's own readings in it: log entries 66, 68, 70, 76. -/
def Obligations.SceneRequests : Prop := ∀ (q : Req) (s : State),
  s.receives q → s.freshWrite q → s.ownedBy q → s.cscRole = 0 → s.zk.tree = none →
  let a := fun (i : Nat) => q.args.getD i 0
  let u := fun (i : Nat) => unitOf ⟨0, q⟩ (a i)
  let tag := s.zk.tagNext
  let t0 := timingOf q.args
  let open' := fun (t : State) (op : Nat) => Owes s t q op none
  let names := fun (i k : Nat) => lgCls (u i) = 0x12 ∧ lgNode (u i) = s.node ∧ lgIdx (u i) = k ∧ lgIdx (a i).toNat = k ∧
    ∃ x, Tbl.find s.zk.scenes k = some x ∧ x.crcOk = true ∧ x.nodes = [s.node]
  let begins := fun (t : State) (kind : Nat) (k : Nat) (c : Option Nat) => ∃ o, t.zk.tree = some o ∧ o.tag = tag ∧ o.kind = kind ∧
    o.scene = some k ∧ o.left = [s.node] ∧ o.bad = none ∧ o.atC = c ∧ t.zk.tagNext = tag % 255 + 1
  let builds := fun (t : State) (k n : Nat) (hard : Bool) (cfg : Word) => t.zk.prepared = some k ∧ t.live = s.live ∧
    t.engine.abx.chkBusy = true ∧ t.engine.abx.chkKind = 0 ∧ ∃ ch, t.zk.change = some ch ∧ ch.src = .scene ∧ ch.scene = some (k, hard) ∧
      ch.tag = some tag ∧ ch.phase = 1 ∧ ch.edits = slotEdits n cfg
  let room := fun (k n : Nat) (hard : Bool) (cfg : Word) => s.sceneFits k hard n cfg ∧ s.freeSlot = some n ∧ s.unitFree (some tag) = true ∧ s.engine.abx.amdOther = .building ∧
    s.engine.abx.mainOther = .building
  let timed := timingFormat q.args = false ∧ timingParam t0 s.leastTree = none ∧ t0.stage = false
  let atC := if t0.asap then none else some t0.c
  (∀ k n, s.calm → q.args.length = 2 → (a 1) &&& 0xFFFFFFFE = 0 → names 0 k → room k n ((a 1).bit 0) 0 →
    ∃ t, exec (.scenePrepare q) s = .next t ∧ open' t 0x0501 ∧ begins t 0 k none ∧ builds t k n ((a 1).bit 0) 0) ∧
  (∀ k n, s.calm → q.args.length = 5 → (a 4) &&& 0xFFFFFFFE = 0 → timed → (t0.len ≠ 0 ∨ (a 4).bit 0 = true) → names 3 k → room k n ((a 4).bit 0) t0.cfg →
    ∃ t, exec (.sceneRecall q) s = .next t ∧ open' t 0x0504 ∧ begins t 1 k atC ∧ builds t k n ((a 4).bit 0) t0.cfg) ∧
  (∀ k hard ch, ({ s with zk := { s.zk with change := none } }).calm → s.zk.change = some ch → ch.scene = some (k, hard) → ch.phase = 3 →
    s.csc.tree.phase = 0 → s.sceneHeld k = false → q.args.length = 4 → timed → (t0.len ≠ 0 ∨ hard = true) → names 3 k →
    ∃ t, exec (.sceneCommit q) s = .next t ∧ open' t 0x0502 ∧ begins t 1 k atC ∧
      t.csc.inbox = [.partDone s.node tag 0 0 0x3FF] ∧ t.live = s.live ∧
      ∃ ch', t.zk.change = some ch' ∧ ch'.tag = some tag ∧ ch'.phase = 3 ∧ ch'.scene = ch.scene ∧
        ch'.edits = slotEdits ((editSlots ch.edits).headD 0) t0.cfg)

/-- R487, R501, R508, R509, R510: a player that has ended falls idle and completes its plan; a plan's message is staged or not; the fault relay
rises; a circuit returns.

The model's own readings in it: log entries 49, 71. -/
def Obligations.AlarmServiceEvents : Prop := ∀ (s : State),
  let al := s.zk.alarm
  let alarmOnly := fun (t : State) (x : Alarm) => t.zk.alarm = x ∧ { t with zk := { t.zk with alarm := al } } = s
  (s.cus.own ≠ 2 → exec .faultRelayRise s = .next s ∧ (∀ n, exec (.messageEnd n) s = .next s) ∧
    (∀ n x, exec (.messageStaging n x) s = .next s) ∧ ∀ z, exec (.rerouteReturn z) s = .next s) ∧
  (s.cus.own = 2 →
    (∀ n : Fin 512, let x := s.player n
      ((x.st = 0 ∨ s.playerState x s.sctr ≠ 0) → exec (.messageEnd n) s = .next s) ∧
      (x.st ≠ 0 → s.playerState x s.sctr = 0 → ∃ t, exec (.messageEnd n) s = .next t ∧
        t.player n = (if s.playerState x s.procBase = 0 then {} else x) ∧ (∀ m : Nat, m ≠ n.val → t.player m = s.player m) ∧
        { t with zk := { t.zk with players := s.zk.players, alarm := al } } = s ∧
        (x.plan = none → t.zk.alarm = al) ∧
        (∀ k, x.plan = some k → (s.plan k).player = some n.val → (s.plan k).sounding = true → (s.plan k).silenced = false → (s.plan k).done = false →
          t.plan k = { s.plan k with done := true } ∧ (∀ j, j ≠ k → t.plan j = s.plan j) ∧
          t.zk.alarm = { al with plan := t.zk.alarm.plan, dirty := true }))) ∧
    (∀ (n : Fin 65536) (second : Bool), let k := n.val
      let p := s.plan k
      let u := k / 1024 * 2 ^ 26 + k % 1024
      let set := fun (b : Bool) => if second then { p with staged2 := b } else { p with staged := b }
      let on := (p.w 0).bit 31 = true ∧ (p.w 1).bit 31 = false ∧ (k / 1024 = s.node ∨ s.ownZones p ≠ []) ∧
        (second = true → p.sounding = true ∧ p.msg2.isSome = true)
      (¬on → ∀ b, exec (.messageStaging n ⟨second, b⟩) s = .next s) ∧
      (on → ∃ t, exec (.messageStaging n ⟨second, true⟩) s = .next t ∧ t.plan k = set true ∧
        (∀ j, j ≠ k → t.plan j = s.plan j) ∧
        alarmOnly t { al with plan := t.zk.alarm.plan, faults := al.faults.filter (fun f => ¬(f.code = 0x0A0D ∧ f.payload = u)) }) ∧
      (on → ∃ t, exec (.messageStaging n ⟨second, false⟩) s = .next t ∧ t.plan k = set false ∧
        (∀ j, j ≠ k → t.plan j = s.plan j) ∧ EventsRaised s t [(0x0A0D, u)] ∧
        (∃ f, f ∈ t.zk.alarm.faults ∧ f.code = 0x0A0D ∧ f.payload = u) ∧
        (∀ f, f ∈ t.zk.alarm.faults ↔ f ∈ al.faults ∨ (f = ⟨0x0A0D, u, false⟩ ∧ ∀ g, g ∈ al.faults → ¬(g.code = 0x0A0D ∧ g.payload = u))) ∧
        { t with evq := s.evq, evtLost := s.evtLost, msgOut := s.msgOut, zk := { t.zk with alarm := al } } = s)) ∧
    (let open' := al.faults.length + (if s.cscRole = 1 then (al.others.map (fun e => e.2.length)).sum else 0)
     let k := al.faultOut % 64
     let r := 0x10160000 + 4 * (k / 32)
     let now := if s.mon.ctl.written.testBit (k / 32) then s.reg r else s.ctlPins (k / 32)
     ((al.relay = true ∨ open' ≠ 0) → exec .faultRelayRise s = .next s) ∧
     (al.relay = false → open' = 0 → ∃ t, exec .faultRelayRise s = .next t ∧ t.zk.alarm = { al with relay := true } ∧
       (t.reg r).bit (k % 32) = (s.reg (0x10160010 + 4 * (k / 32))).bit (k % 32) ∧
       (∀ j, j < 32 → j ≠ k % 32 → (t.reg r).bit j = now.bit j) ∧ (∀ b, b ≠ r → t.reg b = s.reg b) ∧
       EventsRaised s t [(0x0A0A, 0)] ∧
       { t with regs := s.regs, mon := s.mon, freeCtr := s.freeCtr, evq := s.evq, evtLost := s.evtLost, msgOut := s.msgOut, zk := s.zk } = s ∧
       { t.mon with ctl := { t.mon.ctl with written := s.mon.ctl.written } } = s.mon)) ∧
    (∀ z, Tbl.find al.zone z = none → exec (.rerouteReturn z) s = .next s) ∧
    (∀ z, Tbl.find al.zone z ≠ none → (s.cus.escDrive = true → s.logRoom 2) →
      let x := s.zone z
      let fails := fun (ks : List Nat) (stage : Bool) => ∃ n, n ∈ s.stripBridges ks ∧ ∃ f, f ∈ al.faults ∧ f.payload = s.ledger 9 n ∧
        (f.code = 0x0103 ∨ (stage = false ∧ (f.code = 0x0101 ∨ f.code = 0x0201 ∨ f.code = 0x0203)))
      let a := x.stripsA
      let b := x.stripsB
      ∃ t, exec (.rerouteReturn z) s = .next t ∧ (∀ j, j ≠ z → t.zone j = s.zone j) ∧
        { t.zone z with failA := x.failA, failB := x.failB, stageA := x.stageA, stageB := x.stageB, rerouted := x.rerouted, lost := x.lost } = x ∧
        ((t.zone z).failA = true ↔ fails a false) ∧ ((t.zone z).failB = true ↔ fails b false) ∧
        ((t.zone z).stageA = true ↔ fails a true) ∧ ((t.zone z).stageB = true ↔ fails b true) ∧
        ((t.zone z).rerouted = true ↔ (x.mode = 1 ∧ ¬(fails a false ↔ fails b false)) ∨ (x.mode = 2 ∧ fails a false)) ∧
        (let back := (x.rerouted = true ∧ (t.zone z).rerouted = false) ∨ (x.lost = true ∧ (t.zone z).lost = false);
         (back → EventsRaised s t [(0x0A07, s.ledger 4 z)] ∧ (s.cus.escDrive = true → ∃ e, e ∈ t.esc.journal ∧ e.seq = s.esc.nextSeq ∧ e.kind = 5)) ∧
         (¬back → EventsRaised s t [] ∧ t.esc = s.esc))))

/-- R14, R21, R23, R206, R327, R329, R333, R334, R340, R343, R535: what commands of six kinds come to, on conditions of the state and the operands alone: a block boundary of a running engine whose
block was released in time, with no core late, no cascade frame and the alarm service quiet; QPUT into a queue with room; and
the commands of the clock loop.

The model's own readings in it: log entries 5, 44. -/
def Obligations.BoundaryQputAndReferenceResults : Prop :=
  (∀ (dt : Nat) (s : State), s.started = true → s.engine.abx.released = true → s.cus.own ≠ 3 → s.memc.ecc = [] →
    (∀ k, k < 64 → lateCore (s.core k) = false) → (∀ p, p < 3 → (s.cp p).acc = none) →
    (s.cus.own = 2 → s.zk.alarm.plan = [] ∧ s.zk.alarm.zone = [] ∧ s.zk.alarm.asks = [] ∧ s.zk.alarm.dirty = false ∧
      s.zk.players = [] ∧ s.zk.change = none) →
    ∃ t, exec (.blockBoundary dt) s = .next t ∧ t.sctr = s.sctr + 24 ∧ t.started = true ∧ t.engine.tx = s.engine.outs ∧
      t.engine.abx.released = false ∧
      ∀ n, n < 512 → Tbl.getD t.engine.feeds (2048 + n) [] = Tbl.getD s.engine.rx (2048 + n) []) ∧
  (∀ (core : Fin 64) (rq : BitVec 5) (n : BitVec 7) (s : State),
    let q := s.queue n.toNat
    let cfg := s.reg (0x10110000 + 0x20 * n.toNat)
    let size := 16 * 2 ^ cfg.fld 1 2
    let entry := 0x03000000 + 64 * cfg.fld 8 17 + q.wr * size
    canIssue core s = true → rq.toNat % 4 = 0 → cfg.bit 0 = true → q.count < 2 ^ cfg.fld 3 5 →
    ∃ t t0, exec (.nop core) s = .next t0 ∧ exec (.qput core rq n) s = .next t ∧ (t.queue n.toNat).count = q.count + 1 ∧
      Stored t0 t ((List.range (size / 4)).map (fun k =>
        (entry + 4 * k, ((List.range 4).map (fun i => (s.tbank core).dr (rq.toNat + i))).getD k 0)))) ∧
  (∀ (n : Fin 8) (s : State),
    let x := s.refSlot n
    let others := fun (t : State) => (∀ m, m ≠ n.val → t.refSlot m = s.refSlot m) ∧ { t.eventsOf s with ref := s.ref } = s
    (∀ raw dt, let u := tbRun dt s
      let falls := fun (raw : Int) => ∃ t, exec (.referenceEvent n ⟨raw, dt⟩) s = .next t ∧ (t.refSlot n).phase = s.slotPhase n raw ∧
        (∀ m, m ≠ n.val → t.refSlot m = s.refSlot m) ∧ { t.eventsOf u with ref := u.ref } = u
      (4 ≤ n.val → falls raw) ∧
      (∀ c, n.val < 4 → u.baseEvent n = some c → ∃ t, ∃ d : Int, -7 ≤ d ∧ d ≤ 7 ∧ exec (.referenceEvent n ⟨raw, dt⟩) s = .next t ∧
        (t.refSlot n).phase = s.slotPhase n (c + d) ∧
        (∀ m, m ≠ n.val → t.refSlot m = s.refSlot m) ∧ { t.eventsOf u with ref := u.ref } = u)) ∧
    (∃ t, exec (.slotLost n) s = .next t ∧ (t.refSlot n).q = 0 ∧ (t.refSlot n).f = x.f ∧ others t) ∧
    (∀ m, ∃ t, exec (.slotMeasurement n m) s = .next t ∧ (t.refSlot n).m = m ∧
      (t.refSlot n).f = (if x.fresh then m else x.f + (m - x.f) / 2 ^ s.refFld 0x100A0008 28 3) ∧ others t)) ∧
  (∀ s : State, s.started = false → exec .snap s = .next { s with ref := { s.ref with snap := true } }) ∧
  (∀ (val : Word) (s : State), s.bitN 0x100A0000 2 = true →
    exec (.refFreqWrite val) s = .next { s with ref := { s.ref with freqNext := some val.toInt } })
end

