-- ==== Sys2Proof/Laws/State.lean ====
section
/-!
SUPPORT. What each update of the state leaves: one lemma per field and update, all true by unfolding the update, so that no
proof about a command needs to. Fields an update changes are absent here.
-/

namespace Sys2Proof.Machine

open Sys2Proof

variable (s : State)

/-! ## setReg -/

@[simp] theorem State.setReg_pending (a : Nat) (v : Word) : (s.setReg a v).pending = s.pending := rfl
@[simp] theorem State.setReg_mem (a : Nat) (v : Word) : (s.setReg a v).mem = s.mem := rfl
@[simp] theorem State.setReg_next (a : Nat) (v : Word) : (s.setReg a v).next = s.next := rfl
@[simp] theorem State.setReg_live (a : Nat) (v : Word) : (s.setReg a v).live = s.live := rfl
@[simp] theorem State.setReg_marks (a : Nat) (v : Word) : (s.setReg a v).marks = s.marks := rfl
@[simp] theorem State.setReg_ini (a : Nat) (v : Word) : (s.setReg a v).ini = s.ini := rfl
@[simp] theorem State.setReg_freeCtr (a : Nat) (v : Word) : (s.setReg a v).freeCtr = s.freeCtr := rfl
@[simp] theorem State.setReg_sctr (a : Nat) (v : Word) : (s.setReg a v).sctr = s.sctr := rfl
@[simp] theorem State.setReg_started (a : Nat) (v : Word) : (s.setReg a v).started = s.started := rfl
@[simp] theorem State.setReg_sat (a : Nat) (v : Word) : (s.setReg a v).sat = s.sat := rfl
@[simp] theorem State.setReg_tly (a : Nat) (v : Word) : (s.setReg a v).tly = s.tly := rfl
@[simp] theorem State.setReg_memc (a : Nat) (v : Word) : (s.setReg a v).memc = s.memc := rfl
@[simp] theorem State.setReg_mover (a : Nat) (v : Word) : (s.setReg a v).mover = s.mover := rfl
@[simp] theorem State.setReg_queues (a : Nat) (v : Word) : (s.setReg a v).queues = s.queues := rfl
@[simp] theorem State.setReg_cus (a : Nat) (v : Word) : (s.setReg a v).cus = s.cus := rfl
@[simp] theorem State.setReg_evq (a : Nat) (v : Word) : (s.setReg a v).evq = s.evq := rfl
@[simp] theorem State.setReg_evMask (a : Nat) (v : Word) : (s.setReg a v).evMask = s.evMask := rfl
@[simp] theorem State.setReg_subs (a : Nat) (v : Word) : (s.setReg a v).subs = s.subs := rfl
@[simp] theorem State.setReg_evtLost (a : Nat) (v : Word) : (s.setReg a v).evtLost = s.evtLost := rfl
@[simp] theorem State.setReg_msgOut (a : Nat) (v : Word) : (s.setReg a v).msgOut = s.msgOut := rfl
@[simp] theorem State.setReg_eng (a : Nat) (v : Word) : (s.setReg a v).eng = s.eng := rfl
@[simp] theorem State.setReg_engine (a : Nat) (v : Word) : (s.setReg a v).engine = s.engine := rfl
@[simp] theorem State.setReg_fdc (a : Nat) (v : Word) : (s.setReg a v).fdc = s.fdc := rfl
@[simp] theorem State.setReg_mod (a : Nat) (v : Word) : (s.setReg a v).mod = s.mod := rfl
@[simp] theorem State.setReg_mon (a : Nat) (v : Word) : (s.setReg a v).mon = s.mon := rfl
@[simp] theorem State.setReg_sar (a : Nat) (v : Word) : (s.setReg a v).sar = s.sar := rfl
@[simp] theorem State.setReg_ports (a : Nat) (v : Word) : (s.setReg a v).ports = s.ports := rfl
@[simp] theorem State.setReg_ref (a : Nat) (v : Word) : (s.setReg a v).ref = s.ref := rfl
@[simp] theorem State.setReg_tbs (a : Nat) (v : Word) : (s.setReg a v).tbs = s.tbs := rfl
@[simp] theorem State.setReg_eth (a : Nat) (v : Word) : (s.setReg a v).eth = s.eth := rfl
@[simp] theorem State.setReg_csc (a : Nat) (v : Word) : (s.setReg a v).csc = s.csc := rfl
@[simp] theorem State.setReg_zk (a : Nat) (v : Word) : (s.setReg a v).zk = s.zk := rfl
@[simp] theorem State.setReg_esc (a : Nat) (v : Word) : (s.setReg a v).esc = s.esc := rfl
@[simp] theorem State.setReg_pwr (a : Nat) (v : Word) : (s.setReg a v).pwr = s.pwr := rfl

/-! ## setIniReg -/

@[simp] theorem State.setIniReg_pending (a : Nat) (i : Init) (v : Word) : (s.setIniReg a i v).pending = s.pending := rfl
@[simp] theorem State.setIniReg_mem (a : Nat) (i : Init) (v : Word) : (s.setIniReg a i v).mem = s.mem := rfl
@[simp] theorem State.setIniReg_regs (a : Nat) (i : Init) (v : Word) : (s.setIniReg a i v).regs = s.regs := rfl
@[simp] theorem State.setIniReg_next (a : Nat) (i : Init) (v : Word) : (s.setIniReg a i v).next = s.next := rfl
@[simp] theorem State.setIniReg_live (a : Nat) (i : Init) (v : Word) : (s.setIniReg a i v).live = s.live := rfl
@[simp] theorem State.setIniReg_marks (a : Nat) (i : Init) (v : Word) : (s.setIniReg a i v).marks = s.marks := rfl
@[simp] theorem State.setIniReg_freeCtr (a : Nat) (i : Init) (v : Word) : (s.setIniReg a i v).freeCtr = s.freeCtr := rfl
@[simp] theorem State.setIniReg_sctr (a : Nat) (i : Init) (v : Word) : (s.setIniReg a i v).sctr = s.sctr := rfl
@[simp] theorem State.setIniReg_started (a : Nat) (i : Init) (v : Word) : (s.setIniReg a i v).started = s.started := rfl
@[simp] theorem State.setIniReg_sat (a : Nat) (i : Init) (v : Word) : (s.setIniReg a i v).sat = s.sat := rfl
@[simp] theorem State.setIniReg_tly (a : Nat) (i : Init) (v : Word) : (s.setIniReg a i v).tly = s.tly := rfl
@[simp] theorem State.setIniReg_memc (a : Nat) (i : Init) (v : Word) : (s.setIniReg a i v).memc = s.memc := rfl
@[simp] theorem State.setIniReg_mover (a : Nat) (i : Init) (v : Word) : (s.setIniReg a i v).mover = s.mover := rfl
@[simp] theorem State.setIniReg_queues (a : Nat) (i : Init) (v : Word) : (s.setIniReg a i v).queues = s.queues := rfl
@[simp] theorem State.setIniReg_cus (a : Nat) (i : Init) (v : Word) : (s.setIniReg a i v).cus = s.cus := rfl
@[simp] theorem State.setIniReg_evq (a : Nat) (i : Init) (v : Word) : (s.setIniReg a i v).evq = s.evq := rfl
@[simp] theorem State.setIniReg_evMask (a : Nat) (i : Init) (v : Word) : (s.setIniReg a i v).evMask = s.evMask := rfl
@[simp] theorem State.setIniReg_subs (a : Nat) (i : Init) (v : Word) : (s.setIniReg a i v).subs = s.subs := rfl
@[simp] theorem State.setIniReg_evtLost (a : Nat) (i : Init) (v : Word) : (s.setIniReg a i v).evtLost = s.evtLost := rfl
@[simp] theorem State.setIniReg_msgOut (a : Nat) (i : Init) (v : Word) : (s.setIniReg a i v).msgOut = s.msgOut := rfl
@[simp] theorem State.setIniReg_eng (a : Nat) (i : Init) (v : Word) : (s.setIniReg a i v).eng = s.eng := rfl
@[simp] theorem State.setIniReg_engine (a : Nat) (i : Init) (v : Word) : (s.setIniReg a i v).engine = s.engine := rfl
@[simp] theorem State.setIniReg_fdc (a : Nat) (i : Init) (v : Word) : (s.setIniReg a i v).fdc = s.fdc := rfl
@[simp] theorem State.setIniReg_mod (a : Nat) (i : Init) (v : Word) : (s.setIniReg a i v).mod = s.mod := rfl
@[simp] theorem State.setIniReg_mon (a : Nat) (i : Init) (v : Word) : (s.setIniReg a i v).mon = s.mon := rfl
@[simp] theorem State.setIniReg_sar (a : Nat) (i : Init) (v : Word) : (s.setIniReg a i v).sar = s.sar := rfl
@[simp] theorem State.setIniReg_ports (a : Nat) (i : Init) (v : Word) : (s.setIniReg a i v).ports = s.ports := rfl
@[simp] theorem State.setIniReg_ref (a : Nat) (i : Init) (v : Word) : (s.setIniReg a i v).ref = s.ref := rfl
@[simp] theorem State.setIniReg_tbs (a : Nat) (i : Init) (v : Word) : (s.setIniReg a i v).tbs = s.tbs := rfl
@[simp] theorem State.setIniReg_eth (a : Nat) (i : Init) (v : Word) : (s.setIniReg a i v).eth = s.eth := rfl
@[simp] theorem State.setIniReg_csc (a : Nat) (i : Init) (v : Word) : (s.setIniReg a i v).csc = s.csc := rfl
@[simp] theorem State.setIniReg_zk (a : Nat) (i : Init) (v : Word) : (s.setIniReg a i v).zk = s.zk := rfl
@[simp] theorem State.setIniReg_esc (a : Nat) (i : Init) (v : Word) : (s.setIniReg a i v).esc = s.esc := rfl
@[simp] theorem State.setIniReg_pwr (a : Nat) (i : Init) (v : Word) : (s.setIniReg a i v).pwr = s.pwr := rfl

/-! ## setNxt -/

@[simp] theorem State.setNxt_pending (k : Nat) (v : Word) : (s.setNxt k v).pending = s.pending := rfl
@[simp] theorem State.setNxt_mem (k : Nat) (v : Word) : (s.setNxt k v).mem = s.mem := rfl
@[simp] theorem State.setNxt_regs (k : Nat) (v : Word) : (s.setNxt k v).regs = s.regs := rfl
@[simp] theorem State.setNxt_live (k : Nat) (v : Word) : (s.setNxt k v).live = s.live := rfl
@[simp] theorem State.setNxt_ini (k : Nat) (v : Word) : (s.setNxt k v).ini = s.ini := rfl
@[simp] theorem State.setNxt_freeCtr (k : Nat) (v : Word) : (s.setNxt k v).freeCtr = s.freeCtr := rfl
@[simp] theorem State.setNxt_sctr (k : Nat) (v : Word) : (s.setNxt k v).sctr = s.sctr := rfl
@[simp] theorem State.setNxt_started (k : Nat) (v : Word) : (s.setNxt k v).started = s.started := rfl
@[simp] theorem State.setNxt_sat (k : Nat) (v : Word) : (s.setNxt k v).sat = s.sat := rfl
@[simp] theorem State.setNxt_tly (k : Nat) (v : Word) : (s.setNxt k v).tly = s.tly := rfl
@[simp] theorem State.setNxt_memc (k : Nat) (v : Word) : (s.setNxt k v).memc = s.memc := rfl
@[simp] theorem State.setNxt_mover (k : Nat) (v : Word) : (s.setNxt k v).mover = s.mover := rfl
@[simp] theorem State.setNxt_queues (k : Nat) (v : Word) : (s.setNxt k v).queues = s.queues := rfl
@[simp] theorem State.setNxt_cus (k : Nat) (v : Word) : (s.setNxt k v).cus = s.cus := rfl
@[simp] theorem State.setNxt_evq (k : Nat) (v : Word) : (s.setNxt k v).evq = s.evq := rfl
@[simp] theorem State.setNxt_evMask (k : Nat) (v : Word) : (s.setNxt k v).evMask = s.evMask := rfl
@[simp] theorem State.setNxt_subs (k : Nat) (v : Word) : (s.setNxt k v).subs = s.subs := rfl
@[simp] theorem State.setNxt_evtLost (k : Nat) (v : Word) : (s.setNxt k v).evtLost = s.evtLost := rfl
@[simp] theorem State.setNxt_msgOut (k : Nat) (v : Word) : (s.setNxt k v).msgOut = s.msgOut := rfl
@[simp] theorem State.setNxt_eng (k : Nat) (v : Word) : (s.setNxt k v).eng = s.eng := rfl
@[simp] theorem State.setNxt_engine (k : Nat) (v : Word) : (s.setNxt k v).engine = s.engine := rfl
@[simp] theorem State.setNxt_fdc (k : Nat) (v : Word) : (s.setNxt k v).fdc = s.fdc := rfl
@[simp] theorem State.setNxt_mod (k : Nat) (v : Word) : (s.setNxt k v).mod = s.mod := rfl
@[simp] theorem State.setNxt_mon (k : Nat) (v : Word) : (s.setNxt k v).mon = s.mon := rfl
@[simp] theorem State.setNxt_sar (k : Nat) (v : Word) : (s.setNxt k v).sar = s.sar := rfl
@[simp] theorem State.setNxt_ports (k : Nat) (v : Word) : (s.setNxt k v).ports = s.ports := rfl
@[simp] theorem State.setNxt_ref (k : Nat) (v : Word) : (s.setNxt k v).ref = s.ref := rfl
@[simp] theorem State.setNxt_tbs (k : Nat) (v : Word) : (s.setNxt k v).tbs = s.tbs := rfl
@[simp] theorem State.setNxt_eth (k : Nat) (v : Word) : (s.setNxt k v).eth = s.eth := rfl
@[simp] theorem State.setNxt_csc (k : Nat) (v : Word) : (s.setNxt k v).csc = s.csc := rfl
@[simp] theorem State.setNxt_zk (k : Nat) (v : Word) : (s.setNxt k v).zk = s.zk := rfl
@[simp] theorem State.setNxt_esc (k : Nat) (v : Word) : (s.setNxt k v).esc = s.esc := rfl
@[simp] theorem State.setNxt_pwr (k : Nat) (v : Word) : (s.setNxt k v).pwr = s.pwr := rfl

/-! ## setNxtUnmarked -/

@[simp] theorem State.setNxtUnmarked_pending (k : Nat) (v : Word) : (s.setNxtUnmarked k v).pending = s.pending := rfl
@[simp] theorem State.setNxtUnmarked_mem (k : Nat) (v : Word) : (s.setNxtUnmarked k v).mem = s.mem := rfl
@[simp] theorem State.setNxtUnmarked_regs (k : Nat) (v : Word) : (s.setNxtUnmarked k v).regs = s.regs := rfl
@[simp] theorem State.setNxtUnmarked_live (k : Nat) (v : Word) : (s.setNxtUnmarked k v).live = s.live := rfl
@[simp] theorem State.setNxtUnmarked_marks (k : Nat) (v : Word) : (s.setNxtUnmarked k v).marks = s.marks := rfl
@[simp] theorem State.setNxtUnmarked_ini (k : Nat) (v : Word) : (s.setNxtUnmarked k v).ini = s.ini := rfl
@[simp] theorem State.setNxtUnmarked_freeCtr (k : Nat) (v : Word) : (s.setNxtUnmarked k v).freeCtr = s.freeCtr := rfl
@[simp] theorem State.setNxtUnmarked_sctr (k : Nat) (v : Word) : (s.setNxtUnmarked k v).sctr = s.sctr := rfl
@[simp] theorem State.setNxtUnmarked_started (k : Nat) (v : Word) : (s.setNxtUnmarked k v).started = s.started := rfl
@[simp] theorem State.setNxtUnmarked_sat (k : Nat) (v : Word) : (s.setNxtUnmarked k v).sat = s.sat := rfl
@[simp] theorem State.setNxtUnmarked_tly (k : Nat) (v : Word) : (s.setNxtUnmarked k v).tly = s.tly := rfl
@[simp] theorem State.setNxtUnmarked_memc (k : Nat) (v : Word) : (s.setNxtUnmarked k v).memc = s.memc := rfl
@[simp] theorem State.setNxtUnmarked_mover (k : Nat) (v : Word) : (s.setNxtUnmarked k v).mover = s.mover := rfl
@[simp] theorem State.setNxtUnmarked_queues (k : Nat) (v : Word) : (s.setNxtUnmarked k v).queues = s.queues := rfl
@[simp] theorem State.setNxtUnmarked_cus (k : Nat) (v : Word) : (s.setNxtUnmarked k v).cus = s.cus := rfl
@[simp] theorem State.setNxtUnmarked_evq (k : Nat) (v : Word) : (s.setNxtUnmarked k v).evq = s.evq := rfl
@[simp] theorem State.setNxtUnmarked_evMask (k : Nat) (v : Word) : (s.setNxtUnmarked k v).evMask = s.evMask := rfl
@[simp] theorem State.setNxtUnmarked_subs (k : Nat) (v : Word) : (s.setNxtUnmarked k v).subs = s.subs := rfl
@[simp] theorem State.setNxtUnmarked_evtLost (k : Nat) (v : Word) : (s.setNxtUnmarked k v).evtLost = s.evtLost := rfl
@[simp] theorem State.setNxtUnmarked_msgOut (k : Nat) (v : Word) : (s.setNxtUnmarked k v).msgOut = s.msgOut := rfl
@[simp] theorem State.setNxtUnmarked_eng (k : Nat) (v : Word) : (s.setNxtUnmarked k v).eng = s.eng := rfl
@[simp] theorem State.setNxtUnmarked_engine (k : Nat) (v : Word) : (s.setNxtUnmarked k v).engine = s.engine := rfl
@[simp] theorem State.setNxtUnmarked_fdc (k : Nat) (v : Word) : (s.setNxtUnmarked k v).fdc = s.fdc := rfl
@[simp] theorem State.setNxtUnmarked_mod (k : Nat) (v : Word) : (s.setNxtUnmarked k v).mod = s.mod := rfl
@[simp] theorem State.setNxtUnmarked_mon (k : Nat) (v : Word) : (s.setNxtUnmarked k v).mon = s.mon := rfl
@[simp] theorem State.setNxtUnmarked_sar (k : Nat) (v : Word) : (s.setNxtUnmarked k v).sar = s.sar := rfl
@[simp] theorem State.setNxtUnmarked_ports (k : Nat) (v : Word) : (s.setNxtUnmarked k v).ports = s.ports := rfl
@[simp] theorem State.setNxtUnmarked_ref (k : Nat) (v : Word) : (s.setNxtUnmarked k v).ref = s.ref := rfl
@[simp] theorem State.setNxtUnmarked_tbs (k : Nat) (v : Word) : (s.setNxtUnmarked k v).tbs = s.tbs := rfl
@[simp] theorem State.setNxtUnmarked_eth (k : Nat) (v : Word) : (s.setNxtUnmarked k v).eth = s.eth := rfl
@[simp] theorem State.setNxtUnmarked_csc (k : Nat) (v : Word) : (s.setNxtUnmarked k v).csc = s.csc := rfl
@[simp] theorem State.setNxtUnmarked_zk (k : Nat) (v : Word) : (s.setNxtUnmarked k v).zk = s.zk := rfl
@[simp] theorem State.setNxtUnmarked_esc (k : Nat) (v : Word) : (s.setNxtUnmarked k v).esc = s.esc := rfl
@[simp] theorem State.setNxtUnmarked_pwr (k : Nat) (v : Word) : (s.setNxtUnmarked k v).pwr = s.pwr := rfl

/-! ## setLiv -/

@[simp] theorem State.setLiv_pending (k : Nat) (v : Word) : (s.setLiv k v).pending = s.pending := rfl
@[simp] theorem State.setLiv_mem (k : Nat) (v : Word) : (s.setLiv k v).mem = s.mem := rfl
@[simp] theorem State.setLiv_regs (k : Nat) (v : Word) : (s.setLiv k v).regs = s.regs := rfl
@[simp] theorem State.setLiv_next (k : Nat) (v : Word) : (s.setLiv k v).next = s.next := rfl
@[simp] theorem State.setLiv_marks (k : Nat) (v : Word) : (s.setLiv k v).marks = s.marks := rfl
@[simp] theorem State.setLiv_ini (k : Nat) (v : Word) : (s.setLiv k v).ini = s.ini := rfl
@[simp] theorem State.setLiv_freeCtr (k : Nat) (v : Word) : (s.setLiv k v).freeCtr = s.freeCtr := rfl
@[simp] theorem State.setLiv_sctr (k : Nat) (v : Word) : (s.setLiv k v).sctr = s.sctr := rfl
@[simp] theorem State.setLiv_started (k : Nat) (v : Word) : (s.setLiv k v).started = s.started := rfl
@[simp] theorem State.setLiv_sat (k : Nat) (v : Word) : (s.setLiv k v).sat = s.sat := rfl
@[simp] theorem State.setLiv_tly (k : Nat) (v : Word) : (s.setLiv k v).tly = s.tly := rfl
@[simp] theorem State.setLiv_memc (k : Nat) (v : Word) : (s.setLiv k v).memc = s.memc := rfl
@[simp] theorem State.setLiv_mover (k : Nat) (v : Word) : (s.setLiv k v).mover = s.mover := rfl
@[simp] theorem State.setLiv_queues (k : Nat) (v : Word) : (s.setLiv k v).queues = s.queues := rfl
@[simp] theorem State.setLiv_cus (k : Nat) (v : Word) : (s.setLiv k v).cus = s.cus := rfl
@[simp] theorem State.setLiv_evq (k : Nat) (v : Word) : (s.setLiv k v).evq = s.evq := rfl
@[simp] theorem State.setLiv_evMask (k : Nat) (v : Word) : (s.setLiv k v).evMask = s.evMask := rfl
@[simp] theorem State.setLiv_subs (k : Nat) (v : Word) : (s.setLiv k v).subs = s.subs := rfl
@[simp] theorem State.setLiv_evtLost (k : Nat) (v : Word) : (s.setLiv k v).evtLost = s.evtLost := rfl
@[simp] theorem State.setLiv_msgOut (k : Nat) (v : Word) : (s.setLiv k v).msgOut = s.msgOut := rfl
@[simp] theorem State.setLiv_eng (k : Nat) (v : Word) : (s.setLiv k v).eng = s.eng := rfl
@[simp] theorem State.setLiv_engine (k : Nat) (v : Word) : (s.setLiv k v).engine = s.engine := rfl
@[simp] theorem State.setLiv_fdc (k : Nat) (v : Word) : (s.setLiv k v).fdc = s.fdc := rfl
@[simp] theorem State.setLiv_mod (k : Nat) (v : Word) : (s.setLiv k v).mod = s.mod := rfl
@[simp] theorem State.setLiv_mon (k : Nat) (v : Word) : (s.setLiv k v).mon = s.mon := rfl
@[simp] theorem State.setLiv_sar (k : Nat) (v : Word) : (s.setLiv k v).sar = s.sar := rfl
@[simp] theorem State.setLiv_ports (k : Nat) (v : Word) : (s.setLiv k v).ports = s.ports := rfl
@[simp] theorem State.setLiv_ref (k : Nat) (v : Word) : (s.setLiv k v).ref = s.ref := rfl
@[simp] theorem State.setLiv_tbs (k : Nat) (v : Word) : (s.setLiv k v).tbs = s.tbs := rfl
@[simp] theorem State.setLiv_eth (k : Nat) (v : Word) : (s.setLiv k v).eth = s.eth := rfl
@[simp] theorem State.setLiv_csc (k : Nat) (v : Word) : (s.setLiv k v).csc = s.csc := rfl
@[simp] theorem State.setLiv_zk (k : Nat) (v : Word) : (s.setLiv k v).zk = s.zk := rfl
@[simp] theorem State.setLiv_esc (k : Nat) (v : Word) : (s.setLiv k v).esc = s.esc := rfl
@[simp] theorem State.setLiv_pwr (k : Nat) (v : Word) : (s.setLiv k v).pwr = s.pwr := rfl

/-! ## setByte -/

@[simp] theorem State.setByte_pending (a : Nat) (v : Byte) : (s.setByte a v).pending = s.pending := rfl
@[simp] theorem State.setByte_regs (a : Nat) (v : Byte) : (s.setByte a v).regs = s.regs := rfl
@[simp] theorem State.setByte_next (a : Nat) (v : Byte) : (s.setByte a v).next = s.next := rfl
@[simp] theorem State.setByte_live (a : Nat) (v : Byte) : (s.setByte a v).live = s.live := rfl
@[simp] theorem State.setByte_marks (a : Nat) (v : Byte) : (s.setByte a v).marks = s.marks := rfl
@[simp] theorem State.setByte_ini (a : Nat) (v : Byte) : (s.setByte a v).ini = s.ini := rfl
@[simp] theorem State.setByte_freeCtr (a : Nat) (v : Byte) : (s.setByte a v).freeCtr = s.freeCtr := rfl
@[simp] theorem State.setByte_sctr (a : Nat) (v : Byte) : (s.setByte a v).sctr = s.sctr := rfl
@[simp] theorem State.setByte_started (a : Nat) (v : Byte) : (s.setByte a v).started = s.started := rfl
@[simp] theorem State.setByte_sat (a : Nat) (v : Byte) : (s.setByte a v).sat = s.sat := rfl
@[simp] theorem State.setByte_tly (a : Nat) (v : Byte) : (s.setByte a v).tly = s.tly := rfl
@[simp] theorem State.setByte_memc (a : Nat) (v : Byte) : (s.setByte a v).memc = s.memc := rfl
@[simp] theorem State.setByte_mover (a : Nat) (v : Byte) : (s.setByte a v).mover = s.mover := rfl
@[simp] theorem State.setByte_queues (a : Nat) (v : Byte) : (s.setByte a v).queues = s.queues := rfl
@[simp] theorem State.setByte_cus (a : Nat) (v : Byte) : (s.setByte a v).cus = s.cus := rfl
@[simp] theorem State.setByte_evq (a : Nat) (v : Byte) : (s.setByte a v).evq = s.evq := rfl
@[simp] theorem State.setByte_evMask (a : Nat) (v : Byte) : (s.setByte a v).evMask = s.evMask := rfl
@[simp] theorem State.setByte_subs (a : Nat) (v : Byte) : (s.setByte a v).subs = s.subs := rfl
@[simp] theorem State.setByte_evtLost (a : Nat) (v : Byte) : (s.setByte a v).evtLost = s.evtLost := rfl
@[simp] theorem State.setByte_msgOut (a : Nat) (v : Byte) : (s.setByte a v).msgOut = s.msgOut := rfl
@[simp] theorem State.setByte_eng (a : Nat) (v : Byte) : (s.setByte a v).eng = s.eng := rfl
@[simp] theorem State.setByte_engine (a : Nat) (v : Byte) : (s.setByte a v).engine = s.engine := rfl
@[simp] theorem State.setByte_fdc (a : Nat) (v : Byte) : (s.setByte a v).fdc = s.fdc := rfl
@[simp] theorem State.setByte_mod (a : Nat) (v : Byte) : (s.setByte a v).mod = s.mod := rfl
@[simp] theorem State.setByte_mon (a : Nat) (v : Byte) : (s.setByte a v).mon = s.mon := rfl
@[simp] theorem State.setByte_sar (a : Nat) (v : Byte) : (s.setByte a v).sar = s.sar := rfl
@[simp] theorem State.setByte_ports (a : Nat) (v : Byte) : (s.setByte a v).ports = s.ports := rfl
@[simp] theorem State.setByte_ref (a : Nat) (v : Byte) : (s.setByte a v).ref = s.ref := rfl
@[simp] theorem State.setByte_tbs (a : Nat) (v : Byte) : (s.setByte a v).tbs = s.tbs := rfl
@[simp] theorem State.setByte_eth (a : Nat) (v : Byte) : (s.setByte a v).eth = s.eth := rfl
@[simp] theorem State.setByte_csc (a : Nat) (v : Byte) : (s.setByte a v).csc = s.csc := rfl
@[simp] theorem State.setByte_zk (a : Nat) (v : Byte) : (s.setByte a v).zk = s.zk := rfl
@[simp] theorem State.setByte_esc (a : Nat) (v : Byte) : (s.setByte a v).esc = s.esc := rfl
@[simp] theorem State.setByte_pwr (a : Nat) (v : Byte) : (s.setByte a v).pwr = s.pwr := rfl

/-! ## setWord -/

@[simp] theorem State.setWord_pending (a : Nat) (w : Word) : (s.setWord a w).pending = s.pending := rfl
@[simp] theorem State.setWord_regs (a : Nat) (w : Word) : (s.setWord a w).regs = s.regs := rfl
@[simp] theorem State.setWord_next (a : Nat) (w : Word) : (s.setWord a w).next = s.next := rfl
@[simp] theorem State.setWord_live (a : Nat) (w : Word) : (s.setWord a w).live = s.live := rfl
@[simp] theorem State.setWord_marks (a : Nat) (w : Word) : (s.setWord a w).marks = s.marks := rfl
@[simp] theorem State.setWord_ini (a : Nat) (w : Word) : (s.setWord a w).ini = s.ini := rfl
@[simp] theorem State.setWord_freeCtr (a : Nat) (w : Word) : (s.setWord a w).freeCtr = s.freeCtr := rfl
@[simp] theorem State.setWord_sctr (a : Nat) (w : Word) : (s.setWord a w).sctr = s.sctr := rfl
@[simp] theorem State.setWord_started (a : Nat) (w : Word) : (s.setWord a w).started = s.started := rfl
@[simp] theorem State.setWord_sat (a : Nat) (w : Word) : (s.setWord a w).sat = s.sat := rfl
@[simp] theorem State.setWord_tly (a : Nat) (w : Word) : (s.setWord a w).tly = s.tly := rfl
@[simp] theorem State.setWord_memc (a : Nat) (w : Word) : (s.setWord a w).memc = s.memc := rfl
@[simp] theorem State.setWord_mover (a : Nat) (w : Word) : (s.setWord a w).mover = s.mover := rfl
@[simp] theorem State.setWord_queues (a : Nat) (w : Word) : (s.setWord a w).queues = s.queues := rfl
@[simp] theorem State.setWord_cus (a : Nat) (w : Word) : (s.setWord a w).cus = s.cus := rfl
@[simp] theorem State.setWord_evq (a : Nat) (w : Word) : (s.setWord a w).evq = s.evq := rfl
@[simp] theorem State.setWord_evMask (a : Nat) (w : Word) : (s.setWord a w).evMask = s.evMask := rfl
@[simp] theorem State.setWord_subs (a : Nat) (w : Word) : (s.setWord a w).subs = s.subs := rfl
@[simp] theorem State.setWord_evtLost (a : Nat) (w : Word) : (s.setWord a w).evtLost = s.evtLost := rfl
@[simp] theorem State.setWord_msgOut (a : Nat) (w : Word) : (s.setWord a w).msgOut = s.msgOut := rfl
@[simp] theorem State.setWord_eng (a : Nat) (w : Word) : (s.setWord a w).eng = s.eng := rfl
@[simp] theorem State.setWord_engine (a : Nat) (w : Word) : (s.setWord a w).engine = s.engine := rfl
@[simp] theorem State.setWord_fdc (a : Nat) (w : Word) : (s.setWord a w).fdc = s.fdc := rfl
@[simp] theorem State.setWord_mod (a : Nat) (w : Word) : (s.setWord a w).mod = s.mod := rfl
@[simp] theorem State.setWord_mon (a : Nat) (w : Word) : (s.setWord a w).mon = s.mon := rfl
@[simp] theorem State.setWord_sar (a : Nat) (w : Word) : (s.setWord a w).sar = s.sar := rfl
@[simp] theorem State.setWord_ports (a : Nat) (w : Word) : (s.setWord a w).ports = s.ports := rfl
@[simp] theorem State.setWord_ref (a : Nat) (w : Word) : (s.setWord a w).ref = s.ref := rfl
@[simp] theorem State.setWord_tbs (a : Nat) (w : Word) : (s.setWord a w).tbs = s.tbs := rfl
@[simp] theorem State.setWord_eth (a : Nat) (w : Word) : (s.setWord a w).eth = s.eth := rfl
@[simp] theorem State.setWord_csc (a : Nat) (w : Word) : (s.setWord a w).csc = s.csc := rfl
@[simp] theorem State.setWord_zk (a : Nat) (w : Word) : (s.setWord a w).zk = s.zk := rfl
@[simp] theorem State.setWord_esc (a : Nat) (w : Word) : (s.setWord a w).esc = s.esc := rfl
@[simp] theorem State.setWord_pwr (a : Nat) (w : Word) : (s.setWord a w).pwr = s.pwr := rfl

/-! ## putWord -/

@[simp] theorem State.putWord_pending (a : Nat) (w : Word) : (s.putWord a w).pending = s.pending := rfl
@[simp] theorem State.putWord_regs (a : Nat) (w : Word) : (s.putWord a w).regs = s.regs := rfl
@[simp] theorem State.putWord_next (a : Nat) (w : Word) : (s.putWord a w).next = s.next := rfl
@[simp] theorem State.putWord_live (a : Nat) (w : Word) : (s.putWord a w).live = s.live := rfl
@[simp] theorem State.putWord_marks (a : Nat) (w : Word) : (s.putWord a w).marks = s.marks := rfl
@[simp] theorem State.putWord_ini (a : Nat) (w : Word) : (s.putWord a w).ini = s.ini := rfl
@[simp] theorem State.putWord_freeCtr (a : Nat) (w : Word) : (s.putWord a w).freeCtr = s.freeCtr := rfl
@[simp] theorem State.putWord_sctr (a : Nat) (w : Word) : (s.putWord a w).sctr = s.sctr := rfl
@[simp] theorem State.putWord_started (a : Nat) (w : Word) : (s.putWord a w).started = s.started := rfl
@[simp] theorem State.putWord_sat (a : Nat) (w : Word) : (s.putWord a w).sat = s.sat := rfl
@[simp] theorem State.putWord_tly (a : Nat) (w : Word) : (s.putWord a w).tly = s.tly := rfl
@[simp] theorem State.putWord_mover (a : Nat) (w : Word) : (s.putWord a w).mover = s.mover := rfl
@[simp] theorem State.putWord_queues (a : Nat) (w : Word) : (s.putWord a w).queues = s.queues := rfl
@[simp] theorem State.putWord_cus (a : Nat) (w : Word) : (s.putWord a w).cus = s.cus := rfl
@[simp] theorem State.putWord_evq (a : Nat) (w : Word) : (s.putWord a w).evq = s.evq := rfl
@[simp] theorem State.putWord_evMask (a : Nat) (w : Word) : (s.putWord a w).evMask = s.evMask := rfl
@[simp] theorem State.putWord_subs (a : Nat) (w : Word) : (s.putWord a w).subs = s.subs := rfl
@[simp] theorem State.putWord_evtLost (a : Nat) (w : Word) : (s.putWord a w).evtLost = s.evtLost := rfl
@[simp] theorem State.putWord_msgOut (a : Nat) (w : Word) : (s.putWord a w).msgOut = s.msgOut := rfl
@[simp] theorem State.putWord_eng (a : Nat) (w : Word) : (s.putWord a w).eng = s.eng := rfl
@[simp] theorem State.putWord_engine (a : Nat) (w : Word) : (s.putWord a w).engine = s.engine := rfl
@[simp] theorem State.putWord_fdc (a : Nat) (w : Word) : (s.putWord a w).fdc = s.fdc := rfl
@[simp] theorem State.putWord_mod (a : Nat) (w : Word) : (s.putWord a w).mod = s.mod := rfl
@[simp] theorem State.putWord_mon (a : Nat) (w : Word) : (s.putWord a w).mon = s.mon := rfl
@[simp] theorem State.putWord_sar (a : Nat) (w : Word) : (s.putWord a w).sar = s.sar := rfl
@[simp] theorem State.putWord_ports (a : Nat) (w : Word) : (s.putWord a w).ports = s.ports := rfl
@[simp] theorem State.putWord_ref (a : Nat) (w : Word) : (s.putWord a w).ref = s.ref := rfl
@[simp] theorem State.putWord_tbs (a : Nat) (w : Word) : (s.putWord a w).tbs = s.tbs := rfl
@[simp] theorem State.putWord_eth (a : Nat) (w : Word) : (s.putWord a w).eth = s.eth := rfl
@[simp] theorem State.putWord_csc (a : Nat) (w : Word) : (s.putWord a w).csc = s.csc := rfl
@[simp] theorem State.putWord_zk (a : Nat) (w : Word) : (s.putWord a w).zk = s.zk := rfl
@[simp] theorem State.putWord_esc (a : Nat) (w : Word) : (s.putWord a w).esc = s.esc := rfl
@[simp] theorem State.putWord_pwr (a : Nat) (w : Word) : (s.putWord a w).pwr = s.pwr := rfl

/-! ## tickFree -/

@[simp] theorem State.tickFree_pending : s.tickFree.pending = s.pending := rfl
@[simp] theorem State.tickFree_mem : s.tickFree.mem = s.mem := rfl
@[simp] theorem State.tickFree_regs : s.tickFree.regs = s.regs := rfl
@[simp] theorem State.tickFree_next : s.tickFree.next = s.next := rfl
@[simp] theorem State.tickFree_live : s.tickFree.live = s.live := rfl
@[simp] theorem State.tickFree_marks : s.tickFree.marks = s.marks := rfl
@[simp] theorem State.tickFree_ini : s.tickFree.ini = s.ini := rfl
@[simp] theorem State.tickFree_sctr : s.tickFree.sctr = s.sctr := rfl
@[simp] theorem State.tickFree_started : s.tickFree.started = s.started := rfl
@[simp] theorem State.tickFree_sat : s.tickFree.sat = s.sat := rfl
@[simp] theorem State.tickFree_tly : s.tickFree.tly = s.tly := rfl
@[simp] theorem State.tickFree_memc : s.tickFree.memc = s.memc := rfl
@[simp] theorem State.tickFree_mover : s.tickFree.mover = s.mover := rfl
@[simp] theorem State.tickFree_queues : s.tickFree.queues = s.queues := rfl
@[simp] theorem State.tickFree_cus : s.tickFree.cus = s.cus := rfl
@[simp] theorem State.tickFree_evq : s.tickFree.evq = s.evq := rfl
@[simp] theorem State.tickFree_evMask : s.tickFree.evMask = s.evMask := rfl
@[simp] theorem State.tickFree_subs : s.tickFree.subs = s.subs := rfl
@[simp] theorem State.tickFree_evtLost : s.tickFree.evtLost = s.evtLost := rfl
@[simp] theorem State.tickFree_msgOut : s.tickFree.msgOut = s.msgOut := rfl
@[simp] theorem State.tickFree_eng : s.tickFree.eng = s.eng := rfl
@[simp] theorem State.tickFree_engine : s.tickFree.engine = s.engine := rfl
@[simp] theorem State.tickFree_fdc : s.tickFree.fdc = s.fdc := rfl
@[simp] theorem State.tickFree_mod : s.tickFree.mod = s.mod := rfl
@[simp] theorem State.tickFree_mon : s.tickFree.mon = s.mon := rfl
@[simp] theorem State.tickFree_sar : s.tickFree.sar = s.sar := rfl
@[simp] theorem State.tickFree_ports : s.tickFree.ports = s.ports := rfl
@[simp] theorem State.tickFree_ref : s.tickFree.ref = s.ref := rfl
@[simp] theorem State.tickFree_tbs : s.tickFree.tbs = s.tbs := rfl
@[simp] theorem State.tickFree_eth : s.tickFree.eth = s.eth := rfl
@[simp] theorem State.tickFree_csc : s.tickFree.csc = s.csc := rfl
@[simp] theorem State.tickFree_zk : s.tickFree.zk = s.zk := rfl
@[simp] theorem State.tickFree_esc : s.tickFree.esc = s.esc := rfl
@[simp] theorem State.tickFree_pwr : s.tickFree.pwr = s.pwr := rfl

/-! ## setCore -/

@[simp] theorem State.setCore_pending (k : Nat) (c : TCore) : (s.setCore k c).pending = s.pending := rfl
@[simp] theorem State.setCore_mem (k : Nat) (c : TCore) : (s.setCore k c).mem = s.mem := rfl
@[simp] theorem State.setCore_regs (k : Nat) (c : TCore) : (s.setCore k c).regs = s.regs := rfl
@[simp] theorem State.setCore_next (k : Nat) (c : TCore) : (s.setCore k c).next = s.next := rfl
@[simp] theorem State.setCore_live (k : Nat) (c : TCore) : (s.setCore k c).live = s.live := rfl
@[simp] theorem State.setCore_marks (k : Nat) (c : TCore) : (s.setCore k c).marks = s.marks := rfl
@[simp] theorem State.setCore_ini (k : Nat) (c : TCore) : (s.setCore k c).ini = s.ini := rfl
@[simp] theorem State.setCore_freeCtr (k : Nat) (c : TCore) : (s.setCore k c).freeCtr = s.freeCtr := rfl
@[simp] theorem State.setCore_sctr (k : Nat) (c : TCore) : (s.setCore k c).sctr = s.sctr := rfl
@[simp] theorem State.setCore_started (k : Nat) (c : TCore) : (s.setCore k c).started = s.started := rfl
@[simp] theorem State.setCore_sat (k : Nat) (c : TCore) : (s.setCore k c).sat = s.sat := rfl
@[simp] theorem State.setCore_memc (k : Nat) (c : TCore) : (s.setCore k c).memc = s.memc := rfl
@[simp] theorem State.setCore_mover (k : Nat) (c : TCore) : (s.setCore k c).mover = s.mover := rfl
@[simp] theorem State.setCore_queues (k : Nat) (c : TCore) : (s.setCore k c).queues = s.queues := rfl
@[simp] theorem State.setCore_cus (k : Nat) (c : TCore) : (s.setCore k c).cus = s.cus := rfl
@[simp] theorem State.setCore_evq (k : Nat) (c : TCore) : (s.setCore k c).evq = s.evq := rfl
@[simp] theorem State.setCore_evMask (k : Nat) (c : TCore) : (s.setCore k c).evMask = s.evMask := rfl
@[simp] theorem State.setCore_subs (k : Nat) (c : TCore) : (s.setCore k c).subs = s.subs := rfl
@[simp] theorem State.setCore_evtLost (k : Nat) (c : TCore) : (s.setCore k c).evtLost = s.evtLost := rfl
@[simp] theorem State.setCore_msgOut (k : Nat) (c : TCore) : (s.setCore k c).msgOut = s.msgOut := rfl
@[simp] theorem State.setCore_eng (k : Nat) (c : TCore) : (s.setCore k c).eng = s.eng := rfl
@[simp] theorem State.setCore_engine (k : Nat) (c : TCore) : (s.setCore k c).engine = s.engine := rfl
@[simp] theorem State.setCore_fdc (k : Nat) (c : TCore) : (s.setCore k c).fdc = s.fdc := rfl
@[simp] theorem State.setCore_mod (k : Nat) (c : TCore) : (s.setCore k c).mod = s.mod := rfl
@[simp] theorem State.setCore_mon (k : Nat) (c : TCore) : (s.setCore k c).mon = s.mon := rfl
@[simp] theorem State.setCore_sar (k : Nat) (c : TCore) : (s.setCore k c).sar = s.sar := rfl
@[simp] theorem State.setCore_ports (k : Nat) (c : TCore) : (s.setCore k c).ports = s.ports := rfl
@[simp] theorem State.setCore_ref (k : Nat) (c : TCore) : (s.setCore k c).ref = s.ref := rfl
@[simp] theorem State.setCore_tbs (k : Nat) (c : TCore) : (s.setCore k c).tbs = s.tbs := rfl
@[simp] theorem State.setCore_eth (k : Nat) (c : TCore) : (s.setCore k c).eth = s.eth := rfl
@[simp] theorem State.setCore_csc (k : Nat) (c : TCore) : (s.setCore k c).csc = s.csc := rfl
@[simp] theorem State.setCore_zk (k : Nat) (c : TCore) : (s.setCore k c).zk = s.zk := rfl
@[simp] theorem State.setCore_esc (k : Nat) (c : TCore) : (s.setCore k c).esc = s.esc := rfl
@[simp] theorem State.setCore_pwr (k : Nat) (c : TCore) : (s.setCore k c).pwr = s.pwr := rfl

/-! ## setQueue -/

@[simp] theorem State.setQueue_pending (n : Nat) (q : Queue) : (s.setQueue n q).pending = s.pending := rfl
@[simp] theorem State.setQueue_mem (n : Nat) (q : Queue) : (s.setQueue n q).mem = s.mem := rfl
@[simp] theorem State.setQueue_regs (n : Nat) (q : Queue) : (s.setQueue n q).regs = s.regs := rfl
@[simp] theorem State.setQueue_next (n : Nat) (q : Queue) : (s.setQueue n q).next = s.next := rfl
@[simp] theorem State.setQueue_live (n : Nat) (q : Queue) : (s.setQueue n q).live = s.live := rfl
@[simp] theorem State.setQueue_marks (n : Nat) (q : Queue) : (s.setQueue n q).marks = s.marks := rfl
@[simp] theorem State.setQueue_ini (n : Nat) (q : Queue) : (s.setQueue n q).ini = s.ini := rfl
@[simp] theorem State.setQueue_freeCtr (n : Nat) (q : Queue) : (s.setQueue n q).freeCtr = s.freeCtr := rfl
@[simp] theorem State.setQueue_sctr (n : Nat) (q : Queue) : (s.setQueue n q).sctr = s.sctr := rfl
@[simp] theorem State.setQueue_started (n : Nat) (q : Queue) : (s.setQueue n q).started = s.started := rfl
@[simp] theorem State.setQueue_sat (n : Nat) (q : Queue) : (s.setQueue n q).sat = s.sat := rfl
@[simp] theorem State.setQueue_tly (n : Nat) (q : Queue) : (s.setQueue n q).tly = s.tly := rfl
@[simp] theorem State.setQueue_memc (n : Nat) (q : Queue) : (s.setQueue n q).memc = s.memc := rfl
@[simp] theorem State.setQueue_mover (n : Nat) (q : Queue) : (s.setQueue n q).mover = s.mover := rfl
@[simp] theorem State.setQueue_cus (n : Nat) (q : Queue) : (s.setQueue n q).cus = s.cus := rfl
@[simp] theorem State.setQueue_evq (n : Nat) (q : Queue) : (s.setQueue n q).evq = s.evq := rfl
@[simp] theorem State.setQueue_evMask (n : Nat) (q : Queue) : (s.setQueue n q).evMask = s.evMask := rfl
@[simp] theorem State.setQueue_subs (n : Nat) (q : Queue) : (s.setQueue n q).subs = s.subs := rfl
@[simp] theorem State.setQueue_evtLost (n : Nat) (q : Queue) : (s.setQueue n q).evtLost = s.evtLost := rfl
@[simp] theorem State.setQueue_msgOut (n : Nat) (q : Queue) : (s.setQueue n q).msgOut = s.msgOut := rfl
@[simp] theorem State.setQueue_eng (n : Nat) (q : Queue) : (s.setQueue n q).eng = s.eng := rfl
@[simp] theorem State.setQueue_engine (n : Nat) (q : Queue) : (s.setQueue n q).engine = s.engine := rfl
@[simp] theorem State.setQueue_fdc (n : Nat) (q : Queue) : (s.setQueue n q).fdc = s.fdc := rfl
@[simp] theorem State.setQueue_mod (n : Nat) (q : Queue) : (s.setQueue n q).mod = s.mod := rfl
@[simp] theorem State.setQueue_mon (n : Nat) (q : Queue) : (s.setQueue n q).mon = s.mon := rfl
@[simp] theorem State.setQueue_sar (n : Nat) (q : Queue) : (s.setQueue n q).sar = s.sar := rfl
@[simp] theorem State.setQueue_ports (n : Nat) (q : Queue) : (s.setQueue n q).ports = s.ports := rfl
@[simp] theorem State.setQueue_ref (n : Nat) (q : Queue) : (s.setQueue n q).ref = s.ref := rfl
@[simp] theorem State.setQueue_tbs (n : Nat) (q : Queue) : (s.setQueue n q).tbs = s.tbs := rfl
@[simp] theorem State.setQueue_eth (n : Nat) (q : Queue) : (s.setQueue n q).eth = s.eth := rfl
@[simp] theorem State.setQueue_csc (n : Nat) (q : Queue) : (s.setQueue n q).csc = s.csc := rfl
@[simp] theorem State.setQueue_zk (n : Nat) (q : Queue) : (s.setQueue n q).zk = s.zk := rfl
@[simp] theorem State.setQueue_esc (n : Nat) (q : Queue) : (s.setQueue n q).esc = s.esc := rfl
@[simp] theorem State.setQueue_pwr (n : Nat) (q : Queue) : (s.setQueue n q).pwr = s.pwr := rfl

/-! ## withCus -/

@[simp] theorem State.withCus_pending (x : Custody) : (s.withCus x).pending = s.pending := rfl
@[simp] theorem State.withCus_mem (x : Custody) : (s.withCus x).mem = s.mem := rfl
@[simp] theorem State.withCus_regs (x : Custody) : (s.withCus x).regs = s.regs := rfl
@[simp] theorem State.withCus_next (x : Custody) : (s.withCus x).next = s.next := rfl
@[simp] theorem State.withCus_live (x : Custody) : (s.withCus x).live = s.live := rfl
@[simp] theorem State.withCus_marks (x : Custody) : (s.withCus x).marks = s.marks := rfl
@[simp] theorem State.withCus_ini (x : Custody) : (s.withCus x).ini = s.ini := rfl
@[simp] theorem State.withCus_freeCtr (x : Custody) : (s.withCus x).freeCtr = s.freeCtr := rfl
@[simp] theorem State.withCus_sctr (x : Custody) : (s.withCus x).sctr = s.sctr := rfl
@[simp] theorem State.withCus_started (x : Custody) : (s.withCus x).started = s.started := rfl
@[simp] theorem State.withCus_sat (x : Custody) : (s.withCus x).sat = s.sat := rfl
@[simp] theorem State.withCus_tly (x : Custody) : (s.withCus x).tly = s.tly := rfl
@[simp] theorem State.withCus_memc (x : Custody) : (s.withCus x).memc = s.memc := rfl
@[simp] theorem State.withCus_mover (x : Custody) : (s.withCus x).mover = s.mover := rfl
@[simp] theorem State.withCus_queues (x : Custody) : (s.withCus x).queues = s.queues := rfl
@[simp] theorem State.withCus_evq (x : Custody) : (s.withCus x).evq = s.evq := rfl
@[simp] theorem State.withCus_evMask (x : Custody) : (s.withCus x).evMask = s.evMask := rfl
@[simp] theorem State.withCus_subs (x : Custody) : (s.withCus x).subs = s.subs := rfl
@[simp] theorem State.withCus_evtLost (x : Custody) : (s.withCus x).evtLost = s.evtLost := rfl
@[simp] theorem State.withCus_msgOut (x : Custody) : (s.withCus x).msgOut = s.msgOut := rfl
@[simp] theorem State.withCus_eng (x : Custody) : (s.withCus x).eng = s.eng := rfl
@[simp] theorem State.withCus_engine (x : Custody) : (s.withCus x).engine = s.engine := rfl
@[simp] theorem State.withCus_fdc (x : Custody) : (s.withCus x).fdc = s.fdc := rfl
@[simp] theorem State.withCus_mod (x : Custody) : (s.withCus x).mod = s.mod := rfl
@[simp] theorem State.withCus_mon (x : Custody) : (s.withCus x).mon = s.mon := rfl
@[simp] theorem State.withCus_sar (x : Custody) : (s.withCus x).sar = s.sar := rfl
@[simp] theorem State.withCus_ports (x : Custody) : (s.withCus x).ports = s.ports := rfl
@[simp] theorem State.withCus_ref (x : Custody) : (s.withCus x).ref = s.ref := rfl
@[simp] theorem State.withCus_tbs (x : Custody) : (s.withCus x).tbs = s.tbs := rfl
@[simp] theorem State.withCus_eth (x : Custody) : (s.withCus x).eth = s.eth := rfl
@[simp] theorem State.withCus_csc (x : Custody) : (s.withCus x).csc = s.csc := rfl
@[simp] theorem State.withCus_zk (x : Custody) : (s.withCus x).zk = s.zk := rfl
@[simp] theorem State.withCus_esc (x : Custody) : (s.withCus x).esc = s.esc := rfl
@[simp] theorem State.withCus_pwr (x : Custody) : (s.withCus x).pwr = s.pwr := rfl

/-! ## withZk -/

@[simp] theorem State.withZk_pending (x : Zekor) : (s.withZk x).pending = s.pending := rfl
@[simp] theorem State.withZk_mem (x : Zekor) : (s.withZk x).mem = s.mem := rfl
@[simp] theorem State.withZk_regs (x : Zekor) : (s.withZk x).regs = s.regs := rfl
@[simp] theorem State.withZk_next (x : Zekor) : (s.withZk x).next = s.next := rfl
@[simp] theorem State.withZk_live (x : Zekor) : (s.withZk x).live = s.live := rfl
@[simp] theorem State.withZk_marks (x : Zekor) : (s.withZk x).marks = s.marks := rfl
@[simp] theorem State.withZk_ini (x : Zekor) : (s.withZk x).ini = s.ini := rfl
@[simp] theorem State.withZk_freeCtr (x : Zekor) : (s.withZk x).freeCtr = s.freeCtr := rfl
@[simp] theorem State.withZk_sctr (x : Zekor) : (s.withZk x).sctr = s.sctr := rfl
@[simp] theorem State.withZk_started (x : Zekor) : (s.withZk x).started = s.started := rfl
@[simp] theorem State.withZk_sat (x : Zekor) : (s.withZk x).sat = s.sat := rfl
@[simp] theorem State.withZk_tly (x : Zekor) : (s.withZk x).tly = s.tly := rfl
@[simp] theorem State.withZk_memc (x : Zekor) : (s.withZk x).memc = s.memc := rfl
@[simp] theorem State.withZk_mover (x : Zekor) : (s.withZk x).mover = s.mover := rfl
@[simp] theorem State.withZk_queues (x : Zekor) : (s.withZk x).queues = s.queues := rfl
@[simp] theorem State.withZk_cus (x : Zekor) : (s.withZk x).cus = s.cus := rfl
@[simp] theorem State.withZk_evq (x : Zekor) : (s.withZk x).evq = s.evq := rfl
@[simp] theorem State.withZk_evMask (x : Zekor) : (s.withZk x).evMask = s.evMask := rfl
@[simp] theorem State.withZk_subs (x : Zekor) : (s.withZk x).subs = s.subs := rfl
@[simp] theorem State.withZk_evtLost (x : Zekor) : (s.withZk x).evtLost = s.evtLost := rfl
@[simp] theorem State.withZk_msgOut (x : Zekor) : (s.withZk x).msgOut = s.msgOut := rfl
@[simp] theorem State.withZk_eng (x : Zekor) : (s.withZk x).eng = s.eng := rfl
@[simp] theorem State.withZk_engine (x : Zekor) : (s.withZk x).engine = s.engine := rfl
@[simp] theorem State.withZk_fdc (x : Zekor) : (s.withZk x).fdc = s.fdc := rfl
@[simp] theorem State.withZk_mod (x : Zekor) : (s.withZk x).mod = s.mod := rfl
@[simp] theorem State.withZk_mon (x : Zekor) : (s.withZk x).mon = s.mon := rfl
@[simp] theorem State.withZk_sar (x : Zekor) : (s.withZk x).sar = s.sar := rfl
@[simp] theorem State.withZk_ports (x : Zekor) : (s.withZk x).ports = s.ports := rfl
@[simp] theorem State.withZk_ref (x : Zekor) : (s.withZk x).ref = s.ref := rfl
@[simp] theorem State.withZk_tbs (x : Zekor) : (s.withZk x).tbs = s.tbs := rfl
@[simp] theorem State.withZk_eth (x : Zekor) : (s.withZk x).eth = s.eth := rfl
@[simp] theorem State.withZk_csc (x : Zekor) : (s.withZk x).csc = s.csc := rfl
@[simp] theorem State.withZk_esc (x : Zekor) : (s.withZk x).esc = s.esc := rfl
@[simp] theorem State.withZk_pwr (x : Zekor) : (s.withZk x).pwr = s.pwr := rfl

/-! ## setPlayer -/

@[simp] theorem State.setPlayer_pending (p : Nat) (x : Player) : (s.setPlayer p x).pending = s.pending := rfl
@[simp] theorem State.setPlayer_mem (p : Nat) (x : Player) : (s.setPlayer p x).mem = s.mem := rfl
@[simp] theorem State.setPlayer_regs (p : Nat) (x : Player) : (s.setPlayer p x).regs = s.regs := rfl
@[simp] theorem State.setPlayer_next (p : Nat) (x : Player) : (s.setPlayer p x).next = s.next := rfl
@[simp] theorem State.setPlayer_live (p : Nat) (x : Player) : (s.setPlayer p x).live = s.live := rfl
@[simp] theorem State.setPlayer_marks (p : Nat) (x : Player) : (s.setPlayer p x).marks = s.marks := rfl
@[simp] theorem State.setPlayer_ini (p : Nat) (x : Player) : (s.setPlayer p x).ini = s.ini := rfl
@[simp] theorem State.setPlayer_freeCtr (p : Nat) (x : Player) : (s.setPlayer p x).freeCtr = s.freeCtr := rfl
@[simp] theorem State.setPlayer_sctr (p : Nat) (x : Player) : (s.setPlayer p x).sctr = s.sctr := rfl
@[simp] theorem State.setPlayer_started (p : Nat) (x : Player) : (s.setPlayer p x).started = s.started := rfl
@[simp] theorem State.setPlayer_sat (p : Nat) (x : Player) : (s.setPlayer p x).sat = s.sat := rfl
@[simp] theorem State.setPlayer_tly (p : Nat) (x : Player) : (s.setPlayer p x).tly = s.tly := rfl
@[simp] theorem State.setPlayer_memc (p : Nat) (x : Player) : (s.setPlayer p x).memc = s.memc := rfl
@[simp] theorem State.setPlayer_mover (p : Nat) (x : Player) : (s.setPlayer p x).mover = s.mover := rfl
@[simp] theorem State.setPlayer_queues (p : Nat) (x : Player) : (s.setPlayer p x).queues = s.queues := rfl
@[simp] theorem State.setPlayer_cus (p : Nat) (x : Player) : (s.setPlayer p x).cus = s.cus := rfl
@[simp] theorem State.setPlayer_evq (p : Nat) (x : Player) : (s.setPlayer p x).evq = s.evq := rfl
@[simp] theorem State.setPlayer_evMask (p : Nat) (x : Player) : (s.setPlayer p x).evMask = s.evMask := rfl
@[simp] theorem State.setPlayer_subs (p : Nat) (x : Player) : (s.setPlayer p x).subs = s.subs := rfl
@[simp] theorem State.setPlayer_evtLost (p : Nat) (x : Player) : (s.setPlayer p x).evtLost = s.evtLost := rfl
@[simp] theorem State.setPlayer_msgOut (p : Nat) (x : Player) : (s.setPlayer p x).msgOut = s.msgOut := rfl
@[simp] theorem State.setPlayer_eng (p : Nat) (x : Player) : (s.setPlayer p x).eng = s.eng := rfl
@[simp] theorem State.setPlayer_engine (p : Nat) (x : Player) : (s.setPlayer p x).engine = s.engine := rfl
@[simp] theorem State.setPlayer_fdc (p : Nat) (x : Player) : (s.setPlayer p x).fdc = s.fdc := rfl
@[simp] theorem State.setPlayer_mod (p : Nat) (x : Player) : (s.setPlayer p x).mod = s.mod := rfl
@[simp] theorem State.setPlayer_mon (p : Nat) (x : Player) : (s.setPlayer p x).mon = s.mon := rfl
@[simp] theorem State.setPlayer_sar (p : Nat) (x : Player) : (s.setPlayer p x).sar = s.sar := rfl
@[simp] theorem State.setPlayer_ports (p : Nat) (x : Player) : (s.setPlayer p x).ports = s.ports := rfl
@[simp] theorem State.setPlayer_ref (p : Nat) (x : Player) : (s.setPlayer p x).ref = s.ref := rfl
@[simp] theorem State.setPlayer_tbs (p : Nat) (x : Player) : (s.setPlayer p x).tbs = s.tbs := rfl
@[simp] theorem State.setPlayer_eth (p : Nat) (x : Player) : (s.setPlayer p x).eth = s.eth := rfl
@[simp] theorem State.setPlayer_csc (p : Nat) (x : Player) : (s.setPlayer p x).csc = s.csc := rfl
@[simp] theorem State.setPlayer_esc (p : Nat) (x : Player) : (s.setPlayer p x).esc = s.esc := rfl
@[simp] theorem State.setPlayer_pwr (p : Nat) (x : Player) : (s.setPlayer p x).pwr = s.pwr := rfl

/-! ## setSecs -/

@[simp] theorem State.setSecs_pending (x : Sections) : (s.setSecs x).pending = s.pending := rfl
@[simp] theorem State.setSecs_mem (x : Sections) : (s.setSecs x).mem = s.mem := rfl
@[simp] theorem State.setSecs_regs (x : Sections) : (s.setSecs x).regs = s.regs := rfl
@[simp] theorem State.setSecs_next (x : Sections) : (s.setSecs x).next = s.next := rfl
@[simp] theorem State.setSecs_live (x : Sections) : (s.setSecs x).live = s.live := rfl
@[simp] theorem State.setSecs_marks (x : Sections) : (s.setSecs x).marks = s.marks := rfl
@[simp] theorem State.setSecs_ini (x : Sections) : (s.setSecs x).ini = s.ini := rfl
@[simp] theorem State.setSecs_freeCtr (x : Sections) : (s.setSecs x).freeCtr = s.freeCtr := rfl
@[simp] theorem State.setSecs_sctr (x : Sections) : (s.setSecs x).sctr = s.sctr := rfl
@[simp] theorem State.setSecs_started (x : Sections) : (s.setSecs x).started = s.started := rfl
@[simp] theorem State.setSecs_sat (x : Sections) : (s.setSecs x).sat = s.sat := rfl
@[simp] theorem State.setSecs_tly (x : Sections) : (s.setSecs x).tly = s.tly := rfl
@[simp] theorem State.setSecs_memc (x : Sections) : (s.setSecs x).memc = s.memc := rfl
@[simp] theorem State.setSecs_mover (x : Sections) : (s.setSecs x).mover = s.mover := rfl
@[simp] theorem State.setSecs_queues (x : Sections) : (s.setSecs x).queues = s.queues := rfl
@[simp] theorem State.setSecs_cus (x : Sections) : (s.setSecs x).cus = s.cus := rfl
@[simp] theorem State.setSecs_evq (x : Sections) : (s.setSecs x).evq = s.evq := rfl
@[simp] theorem State.setSecs_evMask (x : Sections) : (s.setSecs x).evMask = s.evMask := rfl
@[simp] theorem State.setSecs_subs (x : Sections) : (s.setSecs x).subs = s.subs := rfl
@[simp] theorem State.setSecs_evtLost (x : Sections) : (s.setSecs x).evtLost = s.evtLost := rfl
@[simp] theorem State.setSecs_msgOut (x : Sections) : (s.setSecs x).msgOut = s.msgOut := rfl
@[simp] theorem State.setSecs_eng (x : Sections) : (s.setSecs x).eng = s.eng := rfl
@[simp] theorem State.setSecs_fdc (x : Sections) : (s.setSecs x).fdc = s.fdc := rfl
@[simp] theorem State.setSecs_mod (x : Sections) : (s.setSecs x).mod = s.mod := rfl
@[simp] theorem State.setSecs_mon (x : Sections) : (s.setSecs x).mon = s.mon := rfl
@[simp] theorem State.setSecs_sar (x : Sections) : (s.setSecs x).sar = s.sar := rfl
@[simp] theorem State.setSecs_ports (x : Sections) : (s.setSecs x).ports = s.ports := rfl
@[simp] theorem State.setSecs_ref (x : Sections) : (s.setSecs x).ref = s.ref := rfl
@[simp] theorem State.setSecs_tbs (x : Sections) : (s.setSecs x).tbs = s.tbs := rfl
@[simp] theorem State.setSecs_eth (x : Sections) : (s.setSecs x).eth = s.eth := rfl
@[simp] theorem State.setSecs_csc (x : Sections) : (s.setSecs x).csc = s.csc := rfl
@[simp] theorem State.setSecs_zk (x : Sections) : (s.setSecs x).zk = s.zk := rfl
@[simp] theorem State.setSecs_esc (x : Sections) : (s.setSecs x).esc = s.esc := rfl
@[simp] theorem State.setSecs_pwr (x : Sections) : (s.setSecs x).pwr = s.pwr := rfl

/-! ## setInS -/

@[simp] theorem State.setInS_pending (i : Nat) (x : InStrip) : (s.setInS i x).pending = s.pending := rfl
@[simp] theorem State.setInS_mem (i : Nat) (x : InStrip) : (s.setInS i x).mem = s.mem := rfl
@[simp] theorem State.setInS_regs (i : Nat) (x : InStrip) : (s.setInS i x).regs = s.regs := rfl
@[simp] theorem State.setInS_next (i : Nat) (x : InStrip) : (s.setInS i x).next = s.next := rfl
@[simp] theorem State.setInS_live (i : Nat) (x : InStrip) : (s.setInS i x).live = s.live := rfl
@[simp] theorem State.setInS_marks (i : Nat) (x : InStrip) : (s.setInS i x).marks = s.marks := rfl
@[simp] theorem State.setInS_ini (i : Nat) (x : InStrip) : (s.setInS i x).ini = s.ini := rfl
@[simp] theorem State.setInS_freeCtr (i : Nat) (x : InStrip) : (s.setInS i x).freeCtr = s.freeCtr := rfl
@[simp] theorem State.setInS_sctr (i : Nat) (x : InStrip) : (s.setInS i x).sctr = s.sctr := rfl
@[simp] theorem State.setInS_started (i : Nat) (x : InStrip) : (s.setInS i x).started = s.started := rfl
@[simp] theorem State.setInS_sat (i : Nat) (x : InStrip) : (s.setInS i x).sat = s.sat := rfl
@[simp] theorem State.setInS_tly (i : Nat) (x : InStrip) : (s.setInS i x).tly = s.tly := rfl
@[simp] theorem State.setInS_memc (i : Nat) (x : InStrip) : (s.setInS i x).memc = s.memc := rfl
@[simp] theorem State.setInS_mover (i : Nat) (x : InStrip) : (s.setInS i x).mover = s.mover := rfl
@[simp] theorem State.setInS_queues (i : Nat) (x : InStrip) : (s.setInS i x).queues = s.queues := rfl
@[simp] theorem State.setInS_cus (i : Nat) (x : InStrip) : (s.setInS i x).cus = s.cus := rfl
@[simp] theorem State.setInS_evq (i : Nat) (x : InStrip) : (s.setInS i x).evq = s.evq := rfl
@[simp] theorem State.setInS_evMask (i : Nat) (x : InStrip) : (s.setInS i x).evMask = s.evMask := rfl
@[simp] theorem State.setInS_subs (i : Nat) (x : InStrip) : (s.setInS i x).subs = s.subs := rfl
@[simp] theorem State.setInS_evtLost (i : Nat) (x : InStrip) : (s.setInS i x).evtLost = s.evtLost := rfl
@[simp] theorem State.setInS_msgOut (i : Nat) (x : InStrip) : (s.setInS i x).msgOut = s.msgOut := rfl
@[simp] theorem State.setInS_eng (i : Nat) (x : InStrip) : (s.setInS i x).eng = s.eng := rfl
@[simp] theorem State.setInS_fdc (i : Nat) (x : InStrip) : (s.setInS i x).fdc = s.fdc := rfl
@[simp] theorem State.setInS_mod (i : Nat) (x : InStrip) : (s.setInS i x).mod = s.mod := rfl
@[simp] theorem State.setInS_mon (i : Nat) (x : InStrip) : (s.setInS i x).mon = s.mon := rfl
@[simp] theorem State.setInS_sar (i : Nat) (x : InStrip) : (s.setInS i x).sar = s.sar := rfl
@[simp] theorem State.setInS_ports (i : Nat) (x : InStrip) : (s.setInS i x).ports = s.ports := rfl
@[simp] theorem State.setInS_ref (i : Nat) (x : InStrip) : (s.setInS i x).ref = s.ref := rfl
@[simp] theorem State.setInS_tbs (i : Nat) (x : InStrip) : (s.setInS i x).tbs = s.tbs := rfl
@[simp] theorem State.setInS_eth (i : Nat) (x : InStrip) : (s.setInS i x).eth = s.eth := rfl
@[simp] theorem State.setInS_csc (i : Nat) (x : InStrip) : (s.setInS i x).csc = s.csc := rfl
@[simp] theorem State.setInS_zk (i : Nat) (x : InStrip) : (s.setInS i x).zk = s.zk := rfl
@[simp] theorem State.setInS_esc (i : Nat) (x : InStrip) : (s.setInS i x).esc = s.esc := rfl
@[simp] theorem State.setInS_pwr (i : Nat) (x : InStrip) : (s.setInS i x).pwr = s.pwr := rfl

/-! ## setOuS -/

@[simp] theorem State.setOuS_pending (i : Nat) (x : OutStrip) : (s.setOuS i x).pending = s.pending := rfl
@[simp] theorem State.setOuS_mem (i : Nat) (x : OutStrip) : (s.setOuS i x).mem = s.mem := rfl
@[simp] theorem State.setOuS_regs (i : Nat) (x : OutStrip) : (s.setOuS i x).regs = s.regs := rfl
@[simp] theorem State.setOuS_next (i : Nat) (x : OutStrip) : (s.setOuS i x).next = s.next := rfl
@[simp] theorem State.setOuS_live (i : Nat) (x : OutStrip) : (s.setOuS i x).live = s.live := rfl
@[simp] theorem State.setOuS_marks (i : Nat) (x : OutStrip) : (s.setOuS i x).marks = s.marks := rfl
@[simp] theorem State.setOuS_ini (i : Nat) (x : OutStrip) : (s.setOuS i x).ini = s.ini := rfl
@[simp] theorem State.setOuS_freeCtr (i : Nat) (x : OutStrip) : (s.setOuS i x).freeCtr = s.freeCtr := rfl
@[simp] theorem State.setOuS_sctr (i : Nat) (x : OutStrip) : (s.setOuS i x).sctr = s.sctr := rfl
@[simp] theorem State.setOuS_started (i : Nat) (x : OutStrip) : (s.setOuS i x).started = s.started := rfl
@[simp] theorem State.setOuS_sat (i : Nat) (x : OutStrip) : (s.setOuS i x).sat = s.sat := rfl
@[simp] theorem State.setOuS_tly (i : Nat) (x : OutStrip) : (s.setOuS i x).tly = s.tly := rfl
@[simp] theorem State.setOuS_memc (i : Nat) (x : OutStrip) : (s.setOuS i x).memc = s.memc := rfl
@[simp] theorem State.setOuS_mover (i : Nat) (x : OutStrip) : (s.setOuS i x).mover = s.mover := rfl
@[simp] theorem State.setOuS_queues (i : Nat) (x : OutStrip) : (s.setOuS i x).queues = s.queues := rfl
@[simp] theorem State.setOuS_cus (i : Nat) (x : OutStrip) : (s.setOuS i x).cus = s.cus := rfl
@[simp] theorem State.setOuS_evq (i : Nat) (x : OutStrip) : (s.setOuS i x).evq = s.evq := rfl
@[simp] theorem State.setOuS_evMask (i : Nat) (x : OutStrip) : (s.setOuS i x).evMask = s.evMask := rfl
@[simp] theorem State.setOuS_subs (i : Nat) (x : OutStrip) : (s.setOuS i x).subs = s.subs := rfl
@[simp] theorem State.setOuS_evtLost (i : Nat) (x : OutStrip) : (s.setOuS i x).evtLost = s.evtLost := rfl
@[simp] theorem State.setOuS_msgOut (i : Nat) (x : OutStrip) : (s.setOuS i x).msgOut = s.msgOut := rfl
@[simp] theorem State.setOuS_eng (i : Nat) (x : OutStrip) : (s.setOuS i x).eng = s.eng := rfl
@[simp] theorem State.setOuS_fdc (i : Nat) (x : OutStrip) : (s.setOuS i x).fdc = s.fdc := rfl
@[simp] theorem State.setOuS_mod (i : Nat) (x : OutStrip) : (s.setOuS i x).mod = s.mod := rfl
@[simp] theorem State.setOuS_mon (i : Nat) (x : OutStrip) : (s.setOuS i x).mon = s.mon := rfl
@[simp] theorem State.setOuS_sar (i : Nat) (x : OutStrip) : (s.setOuS i x).sar = s.sar := rfl
@[simp] theorem State.setOuS_ports (i : Nat) (x : OutStrip) : (s.setOuS i x).ports = s.ports := rfl
@[simp] theorem State.setOuS_ref (i : Nat) (x : OutStrip) : (s.setOuS i x).ref = s.ref := rfl
@[simp] theorem State.setOuS_tbs (i : Nat) (x : OutStrip) : (s.setOuS i x).tbs = s.tbs := rfl
@[simp] theorem State.setOuS_eth (i : Nat) (x : OutStrip) : (s.setOuS i x).eth = s.eth := rfl
@[simp] theorem State.setOuS_csc (i : Nat) (x : OutStrip) : (s.setOuS i x).csc = s.csc := rfl
@[simp] theorem State.setOuS_zk (i : Nat) (x : OutStrip) : (s.setOuS i x).zk = s.zk := rfl
@[simp] theorem State.setOuS_esc (i : Nat) (x : OutStrip) : (s.setOuS i x).esc = s.esc := rfl
@[simp] theorem State.setOuS_pwr (i : Nat) (x : OutStrip) : (s.setOuS i x).pwr = s.pwr := rfl

/-! ## setAbx -/

@[simp] theorem State.setAbx_pending (x : Abacus) : (s.setAbx x).pending = s.pending := rfl
@[simp] theorem State.setAbx_mem (x : Abacus) : (s.setAbx x).mem = s.mem := rfl
@[simp] theorem State.setAbx_regs (x : Abacus) : (s.setAbx x).regs = s.regs := rfl
@[simp] theorem State.setAbx_next (x : Abacus) : (s.setAbx x).next = s.next := rfl
@[simp] theorem State.setAbx_live (x : Abacus) : (s.setAbx x).live = s.live := rfl
@[simp] theorem State.setAbx_marks (x : Abacus) : (s.setAbx x).marks = s.marks := rfl
@[simp] theorem State.setAbx_ini (x : Abacus) : (s.setAbx x).ini = s.ini := rfl
@[simp] theorem State.setAbx_freeCtr (x : Abacus) : (s.setAbx x).freeCtr = s.freeCtr := rfl
@[simp] theorem State.setAbx_sctr (x : Abacus) : (s.setAbx x).sctr = s.sctr := rfl
@[simp] theorem State.setAbx_started (x : Abacus) : (s.setAbx x).started = s.started := rfl
@[simp] theorem State.setAbx_sat (x : Abacus) : (s.setAbx x).sat = s.sat := rfl
@[simp] theorem State.setAbx_tly (x : Abacus) : (s.setAbx x).tly = s.tly := rfl
@[simp] theorem State.setAbx_memc (x : Abacus) : (s.setAbx x).memc = s.memc := rfl
@[simp] theorem State.setAbx_mover (x : Abacus) : (s.setAbx x).mover = s.mover := rfl
@[simp] theorem State.setAbx_queues (x : Abacus) : (s.setAbx x).queues = s.queues := rfl
@[simp] theorem State.setAbx_cus (x : Abacus) : (s.setAbx x).cus = s.cus := rfl
@[simp] theorem State.setAbx_evq (x : Abacus) : (s.setAbx x).evq = s.evq := rfl
@[simp] theorem State.setAbx_evMask (x : Abacus) : (s.setAbx x).evMask = s.evMask := rfl
@[simp] theorem State.setAbx_subs (x : Abacus) : (s.setAbx x).subs = s.subs := rfl
@[simp] theorem State.setAbx_evtLost (x : Abacus) : (s.setAbx x).evtLost = s.evtLost := rfl
@[simp] theorem State.setAbx_msgOut (x : Abacus) : (s.setAbx x).msgOut = s.msgOut := rfl
@[simp] theorem State.setAbx_eng (x : Abacus) : (s.setAbx x).eng = s.eng := rfl
@[simp] theorem State.setAbx_fdc (x : Abacus) : (s.setAbx x).fdc = s.fdc := rfl
@[simp] theorem State.setAbx_mod (x : Abacus) : (s.setAbx x).mod = s.mod := rfl
@[simp] theorem State.setAbx_mon (x : Abacus) : (s.setAbx x).mon = s.mon := rfl
@[simp] theorem State.setAbx_sar (x : Abacus) : (s.setAbx x).sar = s.sar := rfl
@[simp] theorem State.setAbx_ports (x : Abacus) : (s.setAbx x).ports = s.ports := rfl
@[simp] theorem State.setAbx_ref (x : Abacus) : (s.setAbx x).ref = s.ref := rfl
@[simp] theorem State.setAbx_tbs (x : Abacus) : (s.setAbx x).tbs = s.tbs := rfl
@[simp] theorem State.setAbx_eth (x : Abacus) : (s.setAbx x).eth = s.eth := rfl
@[simp] theorem State.setAbx_csc (x : Abacus) : (s.setAbx x).csc = s.csc := rfl
@[simp] theorem State.setAbx_zk (x : Abacus) : (s.setAbx x).zk = s.zk := rfl
@[simp] theorem State.setAbx_esc (x : Abacus) : (s.setAbx x).esc = s.esc := rfl
@[simp] theorem State.setAbx_pwr (x : Abacus) : (s.setAbx x).pwr = s.pwr := rfl

/-! ## setCmt -/

@[simp] theorem State.setCmt_pending (x : Commit) : (s.setCmt x).pending = s.pending := rfl
@[simp] theorem State.setCmt_mem (x : Commit) : (s.setCmt x).mem = s.mem := rfl
@[simp] theorem State.setCmt_regs (x : Commit) : (s.setCmt x).regs = s.regs := rfl
@[simp] theorem State.setCmt_next (x : Commit) : (s.setCmt x).next = s.next := rfl
@[simp] theorem State.setCmt_live (x : Commit) : (s.setCmt x).live = s.live := rfl
@[simp] theorem State.setCmt_marks (x : Commit) : (s.setCmt x).marks = s.marks := rfl
@[simp] theorem State.setCmt_ini (x : Commit) : (s.setCmt x).ini = s.ini := rfl
@[simp] theorem State.setCmt_freeCtr (x : Commit) : (s.setCmt x).freeCtr = s.freeCtr := rfl
@[simp] theorem State.setCmt_sctr (x : Commit) : (s.setCmt x).sctr = s.sctr := rfl
@[simp] theorem State.setCmt_started (x : Commit) : (s.setCmt x).started = s.started := rfl
@[simp] theorem State.setCmt_sat (x : Commit) : (s.setCmt x).sat = s.sat := rfl
@[simp] theorem State.setCmt_tly (x : Commit) : (s.setCmt x).tly = s.tly := rfl
@[simp] theorem State.setCmt_memc (x : Commit) : (s.setCmt x).memc = s.memc := rfl
@[simp] theorem State.setCmt_mover (x : Commit) : (s.setCmt x).mover = s.mover := rfl
@[simp] theorem State.setCmt_queues (x : Commit) : (s.setCmt x).queues = s.queues := rfl
@[simp] theorem State.setCmt_cus (x : Commit) : (s.setCmt x).cus = s.cus := rfl
@[simp] theorem State.setCmt_evq (x : Commit) : (s.setCmt x).evq = s.evq := rfl
@[simp] theorem State.setCmt_evMask (x : Commit) : (s.setCmt x).evMask = s.evMask := rfl
@[simp] theorem State.setCmt_subs (x : Commit) : (s.setCmt x).subs = s.subs := rfl
@[simp] theorem State.setCmt_evtLost (x : Commit) : (s.setCmt x).evtLost = s.evtLost := rfl
@[simp] theorem State.setCmt_msgOut (x : Commit) : (s.setCmt x).msgOut = s.msgOut := rfl
@[simp] theorem State.setCmt_eng (x : Commit) : (s.setCmt x).eng = s.eng := rfl
@[simp] theorem State.setCmt_fdc (x : Commit) : (s.setCmt x).fdc = s.fdc := rfl
@[simp] theorem State.setCmt_mod (x : Commit) : (s.setCmt x).mod = s.mod := rfl
@[simp] theorem State.setCmt_mon (x : Commit) : (s.setCmt x).mon = s.mon := rfl
@[simp] theorem State.setCmt_sar (x : Commit) : (s.setCmt x).sar = s.sar := rfl
@[simp] theorem State.setCmt_ports (x : Commit) : (s.setCmt x).ports = s.ports := rfl
@[simp] theorem State.setCmt_ref (x : Commit) : (s.setCmt x).ref = s.ref := rfl
@[simp] theorem State.setCmt_tbs (x : Commit) : (s.setCmt x).tbs = s.tbs := rfl
@[simp] theorem State.setCmt_eth (x : Commit) : (s.setCmt x).eth = s.eth := rfl
@[simp] theorem State.setCmt_csc (x : Commit) : (s.setCmt x).csc = s.csc := rfl
@[simp] theorem State.setCmt_zk (x : Commit) : (s.setCmt x).zk = s.zk := rfl
@[simp] theorem State.setCmt_esc (x : Commit) : (s.setCmt x).esc = s.esc := rfl
@[simp] theorem State.setCmt_pwr (x : Commit) : (s.setCmt x).pwr = s.pwr := rfl

/-! ## setChain -/

@[simp] theorem State.setChain_pending (c : Nat) (x : Chain) : (s.setChain c x).pending = s.pending := rfl
@[simp] theorem State.setChain_mem (c : Nat) (x : Chain) : (s.setChain c x).mem = s.mem := rfl
@[simp] theorem State.setChain_regs (c : Nat) (x : Chain) : (s.setChain c x).regs = s.regs := rfl
@[simp] theorem State.setChain_next (c : Nat) (x : Chain) : (s.setChain c x).next = s.next := rfl
@[simp] theorem State.setChain_live (c : Nat) (x : Chain) : (s.setChain c x).live = s.live := rfl
@[simp] theorem State.setChain_marks (c : Nat) (x : Chain) : (s.setChain c x).marks = s.marks := rfl
@[simp] theorem State.setChain_ini (c : Nat) (x : Chain) : (s.setChain c x).ini = s.ini := rfl
@[simp] theorem State.setChain_freeCtr (c : Nat) (x : Chain) : (s.setChain c x).freeCtr = s.freeCtr := rfl
@[simp] theorem State.setChain_sctr (c : Nat) (x : Chain) : (s.setChain c x).sctr = s.sctr := rfl
@[simp] theorem State.setChain_started (c : Nat) (x : Chain) : (s.setChain c x).started = s.started := rfl
@[simp] theorem State.setChain_sat (c : Nat) (x : Chain) : (s.setChain c x).sat = s.sat := rfl
@[simp] theorem State.setChain_tly (c : Nat) (x : Chain) : (s.setChain c x).tly = s.tly := rfl
@[simp] theorem State.setChain_memc (c : Nat) (x : Chain) : (s.setChain c x).memc = s.memc := rfl
@[simp] theorem State.setChain_mover (c : Nat) (x : Chain) : (s.setChain c x).mover = s.mover := rfl
@[simp] theorem State.setChain_queues (c : Nat) (x : Chain) : (s.setChain c x).queues = s.queues := rfl
@[simp] theorem State.setChain_cus (c : Nat) (x : Chain) : (s.setChain c x).cus = s.cus := rfl
@[simp] theorem State.setChain_evq (c : Nat) (x : Chain) : (s.setChain c x).evq = s.evq := rfl
@[simp] theorem State.setChain_evMask (c : Nat) (x : Chain) : (s.setChain c x).evMask = s.evMask := rfl
@[simp] theorem State.setChain_subs (c : Nat) (x : Chain) : (s.setChain c x).subs = s.subs := rfl
@[simp] theorem State.setChain_evtLost (c : Nat) (x : Chain) : (s.setChain c x).evtLost = s.evtLost := rfl
@[simp] theorem State.setChain_msgOut (c : Nat) (x : Chain) : (s.setChain c x).msgOut = s.msgOut := rfl
@[simp] theorem State.setChain_eng (c : Nat) (x : Chain) : (s.setChain c x).eng = s.eng := rfl
@[simp] theorem State.setChain_engine (c : Nat) (x : Chain) : (s.setChain c x).engine = s.engine := rfl
@[simp] theorem State.setChain_mod (c : Nat) (x : Chain) : (s.setChain c x).mod = s.mod := rfl
@[simp] theorem State.setChain_mon (c : Nat) (x : Chain) : (s.setChain c x).mon = s.mon := rfl
@[simp] theorem State.setChain_sar (c : Nat) (x : Chain) : (s.setChain c x).sar = s.sar := rfl
@[simp] theorem State.setChain_ports (c : Nat) (x : Chain) : (s.setChain c x).ports = s.ports := rfl
@[simp] theorem State.setChain_ref (c : Nat) (x : Chain) : (s.setChain c x).ref = s.ref := rfl
@[simp] theorem State.setChain_tbs (c : Nat) (x : Chain) : (s.setChain c x).tbs = s.tbs := rfl
@[simp] theorem State.setChain_eth (c : Nat) (x : Chain) : (s.setChain c x).eth = s.eth := rfl
@[simp] theorem State.setChain_csc (c : Nat) (x : Chain) : (s.setChain c x).csc = s.csc := rfl
@[simp] theorem State.setChain_zk (c : Nat) (x : Chain) : (s.setChain c x).zk = s.zk := rfl
@[simp] theorem State.setChain_esc (c : Nat) (x : Chain) : (s.setChain c x).esc = s.esc := rfl
@[simp] theorem State.setChain_pwr (c : Nat) (x : Chain) : (s.setChain c x).pwr = s.pwr := rfl

/-! ## setBr -/

@[simp] theorem State.setBr_pending (n : Nat) (x : BrCh) : (s.setBr n x).pending = s.pending := rfl
@[simp] theorem State.setBr_mem (n : Nat) (x : BrCh) : (s.setBr n x).mem = s.mem := rfl
@[simp] theorem State.setBr_regs (n : Nat) (x : BrCh) : (s.setBr n x).regs = s.regs := rfl
@[simp] theorem State.setBr_next (n : Nat) (x : BrCh) : (s.setBr n x).next = s.next := rfl
@[simp] theorem State.setBr_live (n : Nat) (x : BrCh) : (s.setBr n x).live = s.live := rfl
@[simp] theorem State.setBr_marks (n : Nat) (x : BrCh) : (s.setBr n x).marks = s.marks := rfl
@[simp] theorem State.setBr_ini (n : Nat) (x : BrCh) : (s.setBr n x).ini = s.ini := rfl
@[simp] theorem State.setBr_freeCtr (n : Nat) (x : BrCh) : (s.setBr n x).freeCtr = s.freeCtr := rfl
@[simp] theorem State.setBr_sctr (n : Nat) (x : BrCh) : (s.setBr n x).sctr = s.sctr := rfl
@[simp] theorem State.setBr_started (n : Nat) (x : BrCh) : (s.setBr n x).started = s.started := rfl
@[simp] theorem State.setBr_sat (n : Nat) (x : BrCh) : (s.setBr n x).sat = s.sat := rfl
@[simp] theorem State.setBr_tly (n : Nat) (x : BrCh) : (s.setBr n x).tly = s.tly := rfl
@[simp] theorem State.setBr_memc (n : Nat) (x : BrCh) : (s.setBr n x).memc = s.memc := rfl
@[simp] theorem State.setBr_mover (n : Nat) (x : BrCh) : (s.setBr n x).mover = s.mover := rfl
@[simp] theorem State.setBr_queues (n : Nat) (x : BrCh) : (s.setBr n x).queues = s.queues := rfl
@[simp] theorem State.setBr_cus (n : Nat) (x : BrCh) : (s.setBr n x).cus = s.cus := rfl
@[simp] theorem State.setBr_evq (n : Nat) (x : BrCh) : (s.setBr n x).evq = s.evq := rfl
@[simp] theorem State.setBr_evMask (n : Nat) (x : BrCh) : (s.setBr n x).evMask = s.evMask := rfl
@[simp] theorem State.setBr_subs (n : Nat) (x : BrCh) : (s.setBr n x).subs = s.subs := rfl
@[simp] theorem State.setBr_evtLost (n : Nat) (x : BrCh) : (s.setBr n x).evtLost = s.evtLost := rfl
@[simp] theorem State.setBr_msgOut (n : Nat) (x : BrCh) : (s.setBr n x).msgOut = s.msgOut := rfl
@[simp] theorem State.setBr_eng (n : Nat) (x : BrCh) : (s.setBr n x).eng = s.eng := rfl
@[simp] theorem State.setBr_engine (n : Nat) (x : BrCh) : (s.setBr n x).engine = s.engine := rfl
@[simp] theorem State.setBr_fdc (n : Nat) (x : BrCh) : (s.setBr n x).fdc = s.fdc := rfl
@[simp] theorem State.setBr_mon (n : Nat) (x : BrCh) : (s.setBr n x).mon = s.mon := rfl
@[simp] theorem State.setBr_sar (n : Nat) (x : BrCh) : (s.setBr n x).sar = s.sar := rfl
@[simp] theorem State.setBr_ports (n : Nat) (x : BrCh) : (s.setBr n x).ports = s.ports := rfl
@[simp] theorem State.setBr_ref (n : Nat) (x : BrCh) : (s.setBr n x).ref = s.ref := rfl
@[simp] theorem State.setBr_tbs (n : Nat) (x : BrCh) : (s.setBr n x).tbs = s.tbs := rfl
@[simp] theorem State.setBr_eth (n : Nat) (x : BrCh) : (s.setBr n x).eth = s.eth := rfl
@[simp] theorem State.setBr_csc (n : Nat) (x : BrCh) : (s.setBr n x).csc = s.csc := rfl
@[simp] theorem State.setBr_zk (n : Nat) (x : BrCh) : (s.setBr n x).zk = s.zk := rfl
@[simp] theorem State.setBr_esc (n : Nat) (x : BrCh) : (s.setBr n x).esc = s.esc := rfl
@[simp] theorem State.setBr_pwr (n : Nat) (x : BrCh) : (s.setBr n x).pwr = s.pwr := rfl

/-! ## setBank -/

@[simp] theorem State.setBank_pending (n : Nat) (x : Bank) : (s.setBank n x).pending = s.pending := rfl
@[simp] theorem State.setBank_mem (n : Nat) (x : Bank) : (s.setBank n x).mem = s.mem := rfl
@[simp] theorem State.setBank_regs (n : Nat) (x : Bank) : (s.setBank n x).regs = s.regs := rfl
@[simp] theorem State.setBank_next (n : Nat) (x : Bank) : (s.setBank n x).next = s.next := rfl
@[simp] theorem State.setBank_live (n : Nat) (x : Bank) : (s.setBank n x).live = s.live := rfl
@[simp] theorem State.setBank_marks (n : Nat) (x : Bank) : (s.setBank n x).marks = s.marks := rfl
@[simp] theorem State.setBank_ini (n : Nat) (x : Bank) : (s.setBank n x).ini = s.ini := rfl
@[simp] theorem State.setBank_freeCtr (n : Nat) (x : Bank) : (s.setBank n x).freeCtr = s.freeCtr := rfl
@[simp] theorem State.setBank_sctr (n : Nat) (x : Bank) : (s.setBank n x).sctr = s.sctr := rfl
@[simp] theorem State.setBank_started (n : Nat) (x : Bank) : (s.setBank n x).started = s.started := rfl
@[simp] theorem State.setBank_sat (n : Nat) (x : Bank) : (s.setBank n x).sat = s.sat := rfl
@[simp] theorem State.setBank_tly (n : Nat) (x : Bank) : (s.setBank n x).tly = s.tly := rfl
@[simp] theorem State.setBank_memc (n : Nat) (x : Bank) : (s.setBank n x).memc = s.memc := rfl
@[simp] theorem State.setBank_mover (n : Nat) (x : Bank) : (s.setBank n x).mover = s.mover := rfl
@[simp] theorem State.setBank_queues (n : Nat) (x : Bank) : (s.setBank n x).queues = s.queues := rfl
@[simp] theorem State.setBank_cus (n : Nat) (x : Bank) : (s.setBank n x).cus = s.cus := rfl
@[simp] theorem State.setBank_evq (n : Nat) (x : Bank) : (s.setBank n x).evq = s.evq := rfl
@[simp] theorem State.setBank_evMask (n : Nat) (x : Bank) : (s.setBank n x).evMask = s.evMask := rfl
@[simp] theorem State.setBank_subs (n : Nat) (x : Bank) : (s.setBank n x).subs = s.subs := rfl
@[simp] theorem State.setBank_evtLost (n : Nat) (x : Bank) : (s.setBank n x).evtLost = s.evtLost := rfl
@[simp] theorem State.setBank_msgOut (n : Nat) (x : Bank) : (s.setBank n x).msgOut = s.msgOut := rfl
@[simp] theorem State.setBank_eng (n : Nat) (x : Bank) : (s.setBank n x).eng = s.eng := rfl
@[simp] theorem State.setBank_engine (n : Nat) (x : Bank) : (s.setBank n x).engine = s.engine := rfl
@[simp] theorem State.setBank_fdc (n : Nat) (x : Bank) : (s.setBank n x).fdc = s.fdc := rfl
@[simp] theorem State.setBank_mon (n : Nat) (x : Bank) : (s.setBank n x).mon = s.mon := rfl
@[simp] theorem State.setBank_sar (n : Nat) (x : Bank) : (s.setBank n x).sar = s.sar := rfl
@[simp] theorem State.setBank_ports (n : Nat) (x : Bank) : (s.setBank n x).ports = s.ports := rfl
@[simp] theorem State.setBank_ref (n : Nat) (x : Bank) : (s.setBank n x).ref = s.ref := rfl
@[simp] theorem State.setBank_tbs (n : Nat) (x : Bank) : (s.setBank n x).tbs = s.tbs := rfl
@[simp] theorem State.setBank_eth (n : Nat) (x : Bank) : (s.setBank n x).eth = s.eth := rfl
@[simp] theorem State.setBank_csc (n : Nat) (x : Bank) : (s.setBank n x).csc = s.csc := rfl
@[simp] theorem State.setBank_zk (n : Nat) (x : Bank) : (s.setBank n x).zk = s.zk := rfl
@[simp] theorem State.setBank_esc (n : Nat) (x : Bank) : (s.setBank n x).esc = s.esc := rfl
@[simp] theorem State.setBank_pwr (n : Nat) (x : Bank) : (s.setBank n x).pwr = s.pwr := rfl

/-! ## setMonG -/

@[simp] theorem State.setMonG_pending (n : Nat) (x : MonGroup) : (s.setMonG n x).pending = s.pending := rfl
@[simp] theorem State.setMonG_mem (n : Nat) (x : MonGroup) : (s.setMonG n x).mem = s.mem := rfl
@[simp] theorem State.setMonG_regs (n : Nat) (x : MonGroup) : (s.setMonG n x).regs = s.regs := rfl
@[simp] theorem State.setMonG_next (n : Nat) (x : MonGroup) : (s.setMonG n x).next = s.next := rfl
@[simp] theorem State.setMonG_live (n : Nat) (x : MonGroup) : (s.setMonG n x).live = s.live := rfl
@[simp] theorem State.setMonG_marks (n : Nat) (x : MonGroup) : (s.setMonG n x).marks = s.marks := rfl
@[simp] theorem State.setMonG_ini (n : Nat) (x : MonGroup) : (s.setMonG n x).ini = s.ini := rfl
@[simp] theorem State.setMonG_freeCtr (n : Nat) (x : MonGroup) : (s.setMonG n x).freeCtr = s.freeCtr := rfl
@[simp] theorem State.setMonG_sctr (n : Nat) (x : MonGroup) : (s.setMonG n x).sctr = s.sctr := rfl
@[simp] theorem State.setMonG_started (n : Nat) (x : MonGroup) : (s.setMonG n x).started = s.started := rfl
@[simp] theorem State.setMonG_sat (n : Nat) (x : MonGroup) : (s.setMonG n x).sat = s.sat := rfl
@[simp] theorem State.setMonG_tly (n : Nat) (x : MonGroup) : (s.setMonG n x).tly = s.tly := rfl
@[simp] theorem State.setMonG_memc (n : Nat) (x : MonGroup) : (s.setMonG n x).memc = s.memc := rfl
@[simp] theorem State.setMonG_mover (n : Nat) (x : MonGroup) : (s.setMonG n x).mover = s.mover := rfl
@[simp] theorem State.setMonG_queues (n : Nat) (x : MonGroup) : (s.setMonG n x).queues = s.queues := rfl
@[simp] theorem State.setMonG_cus (n : Nat) (x : MonGroup) : (s.setMonG n x).cus = s.cus := rfl
@[simp] theorem State.setMonG_evq (n : Nat) (x : MonGroup) : (s.setMonG n x).evq = s.evq := rfl
@[simp] theorem State.setMonG_evMask (n : Nat) (x : MonGroup) : (s.setMonG n x).evMask = s.evMask := rfl
@[simp] theorem State.setMonG_subs (n : Nat) (x : MonGroup) : (s.setMonG n x).subs = s.subs := rfl
@[simp] theorem State.setMonG_evtLost (n : Nat) (x : MonGroup) : (s.setMonG n x).evtLost = s.evtLost := rfl
@[simp] theorem State.setMonG_msgOut (n : Nat) (x : MonGroup) : (s.setMonG n x).msgOut = s.msgOut := rfl
@[simp] theorem State.setMonG_eng (n : Nat) (x : MonGroup) : (s.setMonG n x).eng = s.eng := rfl
@[simp] theorem State.setMonG_engine (n : Nat) (x : MonGroup) : (s.setMonG n x).engine = s.engine := rfl
@[simp] theorem State.setMonG_fdc (n : Nat) (x : MonGroup) : (s.setMonG n x).fdc = s.fdc := rfl
@[simp] theorem State.setMonG_mod (n : Nat) (x : MonGroup) : (s.setMonG n x).mod = s.mod := rfl
@[simp] theorem State.setMonG_sar (n : Nat) (x : MonGroup) : (s.setMonG n x).sar = s.sar := rfl
@[simp] theorem State.setMonG_ports (n : Nat) (x : MonGroup) : (s.setMonG n x).ports = s.ports := rfl
@[simp] theorem State.setMonG_ref (n : Nat) (x : MonGroup) : (s.setMonG n x).ref = s.ref := rfl
@[simp] theorem State.setMonG_tbs (n : Nat) (x : MonGroup) : (s.setMonG n x).tbs = s.tbs := rfl
@[simp] theorem State.setMonG_eth (n : Nat) (x : MonGroup) : (s.setMonG n x).eth = s.eth := rfl
@[simp] theorem State.setMonG_csc (n : Nat) (x : MonGroup) : (s.setMonG n x).csc = s.csc := rfl
@[simp] theorem State.setMonG_zk (n : Nat) (x : MonGroup) : (s.setMonG n x).zk = s.zk := rfl
@[simp] theorem State.setMonG_esc (n : Nat) (x : MonGroup) : (s.setMonG n x).esc = s.esc := rfl
@[simp] theorem State.setMonG_pwr (n : Nat) (x : MonGroup) : (s.setMonG n x).pwr = s.pwr := rfl

/-! ## setMonC -/

@[simp] theorem State.setMonC_pending (n : Nat) (x : MonCh) : (s.setMonC n x).pending = s.pending := rfl
@[simp] theorem State.setMonC_mem (n : Nat) (x : MonCh) : (s.setMonC n x).mem = s.mem := rfl
@[simp] theorem State.setMonC_regs (n : Nat) (x : MonCh) : (s.setMonC n x).regs = s.regs := rfl
@[simp] theorem State.setMonC_next (n : Nat) (x : MonCh) : (s.setMonC n x).next = s.next := rfl
@[simp] theorem State.setMonC_live (n : Nat) (x : MonCh) : (s.setMonC n x).live = s.live := rfl
@[simp] theorem State.setMonC_marks (n : Nat) (x : MonCh) : (s.setMonC n x).marks = s.marks := rfl
@[simp] theorem State.setMonC_ini (n : Nat) (x : MonCh) : (s.setMonC n x).ini = s.ini := rfl
@[simp] theorem State.setMonC_freeCtr (n : Nat) (x : MonCh) : (s.setMonC n x).freeCtr = s.freeCtr := rfl
@[simp] theorem State.setMonC_sctr (n : Nat) (x : MonCh) : (s.setMonC n x).sctr = s.sctr := rfl
@[simp] theorem State.setMonC_started (n : Nat) (x : MonCh) : (s.setMonC n x).started = s.started := rfl
@[simp] theorem State.setMonC_sat (n : Nat) (x : MonCh) : (s.setMonC n x).sat = s.sat := rfl
@[simp] theorem State.setMonC_tly (n : Nat) (x : MonCh) : (s.setMonC n x).tly = s.tly := rfl
@[simp] theorem State.setMonC_memc (n : Nat) (x : MonCh) : (s.setMonC n x).memc = s.memc := rfl
@[simp] theorem State.setMonC_mover (n : Nat) (x : MonCh) : (s.setMonC n x).mover = s.mover := rfl
@[simp] theorem State.setMonC_queues (n : Nat) (x : MonCh) : (s.setMonC n x).queues = s.queues := rfl
@[simp] theorem State.setMonC_cus (n : Nat) (x : MonCh) : (s.setMonC n x).cus = s.cus := rfl
@[simp] theorem State.setMonC_evq (n : Nat) (x : MonCh) : (s.setMonC n x).evq = s.evq := rfl
@[simp] theorem State.setMonC_evMask (n : Nat) (x : MonCh) : (s.setMonC n x).evMask = s.evMask := rfl
@[simp] theorem State.setMonC_subs (n : Nat) (x : MonCh) : (s.setMonC n x).subs = s.subs := rfl
@[simp] theorem State.setMonC_evtLost (n : Nat) (x : MonCh) : (s.setMonC n x).evtLost = s.evtLost := rfl
@[simp] theorem State.setMonC_msgOut (n : Nat) (x : MonCh) : (s.setMonC n x).msgOut = s.msgOut := rfl
@[simp] theorem State.setMonC_eng (n : Nat) (x : MonCh) : (s.setMonC n x).eng = s.eng := rfl
@[simp] theorem State.setMonC_engine (n : Nat) (x : MonCh) : (s.setMonC n x).engine = s.engine := rfl
@[simp] theorem State.setMonC_fdc (n : Nat) (x : MonCh) : (s.setMonC n x).fdc = s.fdc := rfl
@[simp] theorem State.setMonC_mod (n : Nat) (x : MonCh) : (s.setMonC n x).mod = s.mod := rfl
@[simp] theorem State.setMonC_sar (n : Nat) (x : MonCh) : (s.setMonC n x).sar = s.sar := rfl
@[simp] theorem State.setMonC_ports (n : Nat) (x : MonCh) : (s.setMonC n x).ports = s.ports := rfl
@[simp] theorem State.setMonC_ref (n : Nat) (x : MonCh) : (s.setMonC n x).ref = s.ref := rfl
@[simp] theorem State.setMonC_tbs (n : Nat) (x : MonCh) : (s.setMonC n x).tbs = s.tbs := rfl
@[simp] theorem State.setMonC_eth (n : Nat) (x : MonCh) : (s.setMonC n x).eth = s.eth := rfl
@[simp] theorem State.setMonC_csc (n : Nat) (x : MonCh) : (s.setMonC n x).csc = s.csc := rfl
@[simp] theorem State.setMonC_zk (n : Nat) (x : MonCh) : (s.setMonC n x).zk = s.zk := rfl
@[simp] theorem State.setMonC_esc (n : Nat) (x : MonCh) : (s.setMonC n x).esc = s.esc := rfl
@[simp] theorem State.setMonC_pwr (n : Nat) (x : MonCh) : (s.setMonC n x).pwr = s.pwr := rfl

/-! ## setSin -/

@[simp] theorem State.setSin_pending (n : Nat) (x : Sin) : (s.setSin n x).pending = s.pending := rfl
@[simp] theorem State.setSin_mem (n : Nat) (x : Sin) : (s.setSin n x).mem = s.mem := rfl
@[simp] theorem State.setSin_regs (n : Nat) (x : Sin) : (s.setSin n x).regs = s.regs := rfl
@[simp] theorem State.setSin_next (n : Nat) (x : Sin) : (s.setSin n x).next = s.next := rfl
@[simp] theorem State.setSin_live (n : Nat) (x : Sin) : (s.setSin n x).live = s.live := rfl
@[simp] theorem State.setSin_marks (n : Nat) (x : Sin) : (s.setSin n x).marks = s.marks := rfl
@[simp] theorem State.setSin_ini (n : Nat) (x : Sin) : (s.setSin n x).ini = s.ini := rfl
@[simp] theorem State.setSin_freeCtr (n : Nat) (x : Sin) : (s.setSin n x).freeCtr = s.freeCtr := rfl
@[simp] theorem State.setSin_sctr (n : Nat) (x : Sin) : (s.setSin n x).sctr = s.sctr := rfl
@[simp] theorem State.setSin_started (n : Nat) (x : Sin) : (s.setSin n x).started = s.started := rfl
@[simp] theorem State.setSin_sat (n : Nat) (x : Sin) : (s.setSin n x).sat = s.sat := rfl
@[simp] theorem State.setSin_tly (n : Nat) (x : Sin) : (s.setSin n x).tly = s.tly := rfl
@[simp] theorem State.setSin_memc (n : Nat) (x : Sin) : (s.setSin n x).memc = s.memc := rfl
@[simp] theorem State.setSin_mover (n : Nat) (x : Sin) : (s.setSin n x).mover = s.mover := rfl
@[simp] theorem State.setSin_queues (n : Nat) (x : Sin) : (s.setSin n x).queues = s.queues := rfl
@[simp] theorem State.setSin_cus (n : Nat) (x : Sin) : (s.setSin n x).cus = s.cus := rfl
@[simp] theorem State.setSin_evq (n : Nat) (x : Sin) : (s.setSin n x).evq = s.evq := rfl
@[simp] theorem State.setSin_evMask (n : Nat) (x : Sin) : (s.setSin n x).evMask = s.evMask := rfl
@[simp] theorem State.setSin_subs (n : Nat) (x : Sin) : (s.setSin n x).subs = s.subs := rfl
@[simp] theorem State.setSin_evtLost (n : Nat) (x : Sin) : (s.setSin n x).evtLost = s.evtLost := rfl
@[simp] theorem State.setSin_msgOut (n : Nat) (x : Sin) : (s.setSin n x).msgOut = s.msgOut := rfl
@[simp] theorem State.setSin_eng (n : Nat) (x : Sin) : (s.setSin n x).eng = s.eng := rfl
@[simp] theorem State.setSin_engine (n : Nat) (x : Sin) : (s.setSin n x).engine = s.engine := rfl
@[simp] theorem State.setSin_fdc (n : Nat) (x : Sin) : (s.setSin n x).fdc = s.fdc := rfl
@[simp] theorem State.setSin_mod (n : Nat) (x : Sin) : (s.setSin n x).mod = s.mod := rfl
@[simp] theorem State.setSin_sar (n : Nat) (x : Sin) : (s.setSin n x).sar = s.sar := rfl
@[simp] theorem State.setSin_ports (n : Nat) (x : Sin) : (s.setSin n x).ports = s.ports := rfl
@[simp] theorem State.setSin_ref (n : Nat) (x : Sin) : (s.setSin n x).ref = s.ref := rfl
@[simp] theorem State.setSin_tbs (n : Nat) (x : Sin) : (s.setSin n x).tbs = s.tbs := rfl
@[simp] theorem State.setSin_eth (n : Nat) (x : Sin) : (s.setSin n x).eth = s.eth := rfl
@[simp] theorem State.setSin_csc (n : Nat) (x : Sin) : (s.setSin n x).csc = s.csc := rfl
@[simp] theorem State.setSin_zk (n : Nat) (x : Sin) : (s.setSin n x).zk = s.zk := rfl
@[simp] theorem State.setSin_esc (n : Nat) (x : Sin) : (s.setSin n x).esc = s.esc := rfl
@[simp] theorem State.setSin_pwr (n : Nat) (x : Sin) : (s.setSin n x).pwr = s.pwr := rfl

/-! ## withSar -/

@[simp] theorem State.withSar_pending (x : Sar) : (s.withSar x).pending = s.pending := rfl
@[simp] theorem State.withSar_mem (x : Sar) : (s.withSar x).mem = s.mem := rfl
@[simp] theorem State.withSar_regs (x : Sar) : (s.withSar x).regs = s.regs := rfl
@[simp] theorem State.withSar_next (x : Sar) : (s.withSar x).next = s.next := rfl
@[simp] theorem State.withSar_live (x : Sar) : (s.withSar x).live = s.live := rfl
@[simp] theorem State.withSar_marks (x : Sar) : (s.withSar x).marks = s.marks := rfl
@[simp] theorem State.withSar_ini (x : Sar) : (s.withSar x).ini = s.ini := rfl
@[simp] theorem State.withSar_freeCtr (x : Sar) : (s.withSar x).freeCtr = s.freeCtr := rfl
@[simp] theorem State.withSar_sctr (x : Sar) : (s.withSar x).sctr = s.sctr := rfl
@[simp] theorem State.withSar_started (x : Sar) : (s.withSar x).started = s.started := rfl
@[simp] theorem State.withSar_sat (x : Sar) : (s.withSar x).sat = s.sat := rfl
@[simp] theorem State.withSar_tly (x : Sar) : (s.withSar x).tly = s.tly := rfl
@[simp] theorem State.withSar_memc (x : Sar) : (s.withSar x).memc = s.memc := rfl
@[simp] theorem State.withSar_mover (x : Sar) : (s.withSar x).mover = s.mover := rfl
@[simp] theorem State.withSar_queues (x : Sar) : (s.withSar x).queues = s.queues := rfl
@[simp] theorem State.withSar_cus (x : Sar) : (s.withSar x).cus = s.cus := rfl
@[simp] theorem State.withSar_evq (x : Sar) : (s.withSar x).evq = s.evq := rfl
@[simp] theorem State.withSar_evMask (x : Sar) : (s.withSar x).evMask = s.evMask := rfl
@[simp] theorem State.withSar_subs (x : Sar) : (s.withSar x).subs = s.subs := rfl
@[simp] theorem State.withSar_evtLost (x : Sar) : (s.withSar x).evtLost = s.evtLost := rfl
@[simp] theorem State.withSar_msgOut (x : Sar) : (s.withSar x).msgOut = s.msgOut := rfl
@[simp] theorem State.withSar_eng (x : Sar) : (s.withSar x).eng = s.eng := rfl
@[simp] theorem State.withSar_engine (x : Sar) : (s.withSar x).engine = s.engine := rfl
@[simp] theorem State.withSar_fdc (x : Sar) : (s.withSar x).fdc = s.fdc := rfl
@[simp] theorem State.withSar_mod (x : Sar) : (s.withSar x).mod = s.mod := rfl
@[simp] theorem State.withSar_mon (x : Sar) : (s.withSar x).mon = s.mon := rfl
@[simp] theorem State.withSar_ports (x : Sar) : (s.withSar x).ports = s.ports := rfl
@[simp] theorem State.withSar_ref (x : Sar) : (s.withSar x).ref = s.ref := rfl
@[simp] theorem State.withSar_tbs (x : Sar) : (s.withSar x).tbs = s.tbs := rfl
@[simp] theorem State.withSar_eth (x : Sar) : (s.withSar x).eth = s.eth := rfl
@[simp] theorem State.withSar_csc (x : Sar) : (s.withSar x).csc = s.csc := rfl
@[simp] theorem State.withSar_zk (x : Sar) : (s.withSar x).zk = s.zk := rfl
@[simp] theorem State.withSar_esc (x : Sar) : (s.withSar x).esc = s.esc := rfl
@[simp] theorem State.withSar_pwr (x : Sar) : (s.withSar x).pwr = s.pwr := rfl

/-! ## withRef -/

@[simp] theorem State.withRef_pending (x : RefClock) : (s.withRef x).pending = s.pending := rfl
@[simp] theorem State.withRef_mem (x : RefClock) : (s.withRef x).mem = s.mem := rfl
@[simp] theorem State.withRef_regs (x : RefClock) : (s.withRef x).regs = s.regs := rfl
@[simp] theorem State.withRef_next (x : RefClock) : (s.withRef x).next = s.next := rfl
@[simp] theorem State.withRef_live (x : RefClock) : (s.withRef x).live = s.live := rfl
@[simp] theorem State.withRef_marks (x : RefClock) : (s.withRef x).marks = s.marks := rfl
@[simp] theorem State.withRef_ini (x : RefClock) : (s.withRef x).ini = s.ini := rfl
@[simp] theorem State.withRef_freeCtr (x : RefClock) : (s.withRef x).freeCtr = s.freeCtr := rfl
@[simp] theorem State.withRef_sctr (x : RefClock) : (s.withRef x).sctr = s.sctr := rfl
@[simp] theorem State.withRef_started (x : RefClock) : (s.withRef x).started = s.started := rfl
@[simp] theorem State.withRef_sat (x : RefClock) : (s.withRef x).sat = s.sat := rfl
@[simp] theorem State.withRef_tly (x : RefClock) : (s.withRef x).tly = s.tly := rfl
@[simp] theorem State.withRef_memc (x : RefClock) : (s.withRef x).memc = s.memc := rfl
@[simp] theorem State.withRef_mover (x : RefClock) : (s.withRef x).mover = s.mover := rfl
@[simp] theorem State.withRef_queues (x : RefClock) : (s.withRef x).queues = s.queues := rfl
@[simp] theorem State.withRef_cus (x : RefClock) : (s.withRef x).cus = s.cus := rfl
@[simp] theorem State.withRef_evq (x : RefClock) : (s.withRef x).evq = s.evq := rfl
@[simp] theorem State.withRef_evMask (x : RefClock) : (s.withRef x).evMask = s.evMask := rfl
@[simp] theorem State.withRef_subs (x : RefClock) : (s.withRef x).subs = s.subs := rfl
@[simp] theorem State.withRef_evtLost (x : RefClock) : (s.withRef x).evtLost = s.evtLost := rfl
@[simp] theorem State.withRef_msgOut (x : RefClock) : (s.withRef x).msgOut = s.msgOut := rfl
@[simp] theorem State.withRef_eng (x : RefClock) : (s.withRef x).eng = s.eng := rfl
@[simp] theorem State.withRef_engine (x : RefClock) : (s.withRef x).engine = s.engine := rfl
@[simp] theorem State.withRef_fdc (x : RefClock) : (s.withRef x).fdc = s.fdc := rfl
@[simp] theorem State.withRef_mod (x : RefClock) : (s.withRef x).mod = s.mod := rfl
@[simp] theorem State.withRef_mon (x : RefClock) : (s.withRef x).mon = s.mon := rfl
@[simp] theorem State.withRef_sar (x : RefClock) : (s.withRef x).sar = s.sar := rfl
@[simp] theorem State.withRef_ports (x : RefClock) : (s.withRef x).ports = s.ports := rfl
@[simp] theorem State.withRef_tbs (x : RefClock) : (s.withRef x).tbs = s.tbs := rfl
@[simp] theorem State.withRef_eth (x : RefClock) : (s.withRef x).eth = s.eth := rfl
@[simp] theorem State.withRef_csc (x : RefClock) : (s.withRef x).csc = s.csc := rfl
@[simp] theorem State.withRef_zk (x : RefClock) : (s.withRef x).zk = s.zk := rfl
@[simp] theorem State.withRef_esc (x : RefClock) : (s.withRef x).esc = s.esc := rfl
@[simp] theorem State.withRef_pwr (x : RefClock) : (s.withRef x).pwr = s.pwr := rfl

/-! ## setRefSlot -/

@[simp] theorem State.setRefSlot_pending (n : Nat) (x : RefSlot) : (s.setRefSlot n x).pending = s.pending := rfl
@[simp] theorem State.setRefSlot_mem (n : Nat) (x : RefSlot) : (s.setRefSlot n x).mem = s.mem := rfl
@[simp] theorem State.setRefSlot_regs (n : Nat) (x : RefSlot) : (s.setRefSlot n x).regs = s.regs := rfl
@[simp] theorem State.setRefSlot_next (n : Nat) (x : RefSlot) : (s.setRefSlot n x).next = s.next := rfl
@[simp] theorem State.setRefSlot_live (n : Nat) (x : RefSlot) : (s.setRefSlot n x).live = s.live := rfl
@[simp] theorem State.setRefSlot_marks (n : Nat) (x : RefSlot) : (s.setRefSlot n x).marks = s.marks := rfl
@[simp] theorem State.setRefSlot_ini (n : Nat) (x : RefSlot) : (s.setRefSlot n x).ini = s.ini := rfl
@[simp] theorem State.setRefSlot_freeCtr (n : Nat) (x : RefSlot) : (s.setRefSlot n x).freeCtr = s.freeCtr := rfl
@[simp] theorem State.setRefSlot_sctr (n : Nat) (x : RefSlot) : (s.setRefSlot n x).sctr = s.sctr := rfl
@[simp] theorem State.setRefSlot_started (n : Nat) (x : RefSlot) : (s.setRefSlot n x).started = s.started := rfl
@[simp] theorem State.setRefSlot_sat (n : Nat) (x : RefSlot) : (s.setRefSlot n x).sat = s.sat := rfl
@[simp] theorem State.setRefSlot_tly (n : Nat) (x : RefSlot) : (s.setRefSlot n x).tly = s.tly := rfl
@[simp] theorem State.setRefSlot_memc (n : Nat) (x : RefSlot) : (s.setRefSlot n x).memc = s.memc := rfl
@[simp] theorem State.setRefSlot_mover (n : Nat) (x : RefSlot) : (s.setRefSlot n x).mover = s.mover := rfl
@[simp] theorem State.setRefSlot_queues (n : Nat) (x : RefSlot) : (s.setRefSlot n x).queues = s.queues := rfl
@[simp] theorem State.setRefSlot_cus (n : Nat) (x : RefSlot) : (s.setRefSlot n x).cus = s.cus := rfl
@[simp] theorem State.setRefSlot_evq (n : Nat) (x : RefSlot) : (s.setRefSlot n x).evq = s.evq := rfl
@[simp] theorem State.setRefSlot_evMask (n : Nat) (x : RefSlot) : (s.setRefSlot n x).evMask = s.evMask := rfl
@[simp] theorem State.setRefSlot_subs (n : Nat) (x : RefSlot) : (s.setRefSlot n x).subs = s.subs := rfl
@[simp] theorem State.setRefSlot_evtLost (n : Nat) (x : RefSlot) : (s.setRefSlot n x).evtLost = s.evtLost := rfl
@[simp] theorem State.setRefSlot_msgOut (n : Nat) (x : RefSlot) : (s.setRefSlot n x).msgOut = s.msgOut := rfl
@[simp] theorem State.setRefSlot_eng (n : Nat) (x : RefSlot) : (s.setRefSlot n x).eng = s.eng := rfl
@[simp] theorem State.setRefSlot_engine (n : Nat) (x : RefSlot) : (s.setRefSlot n x).engine = s.engine := rfl
@[simp] theorem State.setRefSlot_fdc (n : Nat) (x : RefSlot) : (s.setRefSlot n x).fdc = s.fdc := rfl
@[simp] theorem State.setRefSlot_mod (n : Nat) (x : RefSlot) : (s.setRefSlot n x).mod = s.mod := rfl
@[simp] theorem State.setRefSlot_mon (n : Nat) (x : RefSlot) : (s.setRefSlot n x).mon = s.mon := rfl
@[simp] theorem State.setRefSlot_sar (n : Nat) (x : RefSlot) : (s.setRefSlot n x).sar = s.sar := rfl
@[simp] theorem State.setRefSlot_ports (n : Nat) (x : RefSlot) : (s.setRefSlot n x).ports = s.ports := rfl
@[simp] theorem State.setRefSlot_tbs (n : Nat) (x : RefSlot) : (s.setRefSlot n x).tbs = s.tbs := rfl
@[simp] theorem State.setRefSlot_eth (n : Nat) (x : RefSlot) : (s.setRefSlot n x).eth = s.eth := rfl
@[simp] theorem State.setRefSlot_csc (n : Nat) (x : RefSlot) : (s.setRefSlot n x).csc = s.csc := rfl
@[simp] theorem State.setRefSlot_zk (n : Nat) (x : RefSlot) : (s.setRefSlot n x).zk = s.zk := rfl
@[simp] theorem State.setRefSlot_esc (n : Nat) (x : RefSlot) : (s.setRefSlot n x).esc = s.esc := rfl
@[simp] theorem State.setRefSlot_pwr (n : Nat) (x : RefSlot) : (s.setRefSlot n x).pwr = s.pwr := rfl

/-! ## setPort -/

@[simp] theorem State.setPort_pending (p : Nat) (x : Port) : (s.setPort p x).pending = s.pending := rfl
@[simp] theorem State.setPort_mem (p : Nat) (x : Port) : (s.setPort p x).mem = s.mem := rfl
@[simp] theorem State.setPort_regs (p : Nat) (x : Port) : (s.setPort p x).regs = s.regs := rfl
@[simp] theorem State.setPort_next (p : Nat) (x : Port) : (s.setPort p x).next = s.next := rfl
@[simp] theorem State.setPort_live (p : Nat) (x : Port) : (s.setPort p x).live = s.live := rfl
@[simp] theorem State.setPort_marks (p : Nat) (x : Port) : (s.setPort p x).marks = s.marks := rfl
@[simp] theorem State.setPort_ini (p : Nat) (x : Port) : (s.setPort p x).ini = s.ini := rfl
@[simp] theorem State.setPort_freeCtr (p : Nat) (x : Port) : (s.setPort p x).freeCtr = s.freeCtr := rfl
@[simp] theorem State.setPort_sctr (p : Nat) (x : Port) : (s.setPort p x).sctr = s.sctr := rfl
@[simp] theorem State.setPort_started (p : Nat) (x : Port) : (s.setPort p x).started = s.started := rfl
@[simp] theorem State.setPort_sat (p : Nat) (x : Port) : (s.setPort p x).sat = s.sat := rfl
@[simp] theorem State.setPort_tly (p : Nat) (x : Port) : (s.setPort p x).tly = s.tly := rfl
@[simp] theorem State.setPort_memc (p : Nat) (x : Port) : (s.setPort p x).memc = s.memc := rfl
@[simp] theorem State.setPort_mover (p : Nat) (x : Port) : (s.setPort p x).mover = s.mover := rfl
@[simp] theorem State.setPort_queues (p : Nat) (x : Port) : (s.setPort p x).queues = s.queues := rfl
@[simp] theorem State.setPort_cus (p : Nat) (x : Port) : (s.setPort p x).cus = s.cus := rfl
@[simp] theorem State.setPort_evq (p : Nat) (x : Port) : (s.setPort p x).evq = s.evq := rfl
@[simp] theorem State.setPort_evMask (p : Nat) (x : Port) : (s.setPort p x).evMask = s.evMask := rfl
@[simp] theorem State.setPort_subs (p : Nat) (x : Port) : (s.setPort p x).subs = s.subs := rfl
@[simp] theorem State.setPort_evtLost (p : Nat) (x : Port) : (s.setPort p x).evtLost = s.evtLost := rfl
@[simp] theorem State.setPort_msgOut (p : Nat) (x : Port) : (s.setPort p x).msgOut = s.msgOut := rfl
@[simp] theorem State.setPort_eng (p : Nat) (x : Port) : (s.setPort p x).eng = s.eng := rfl
@[simp] theorem State.setPort_engine (p : Nat) (x : Port) : (s.setPort p x).engine = s.engine := rfl
@[simp] theorem State.setPort_fdc (p : Nat) (x : Port) : (s.setPort p x).fdc = s.fdc := rfl
@[simp] theorem State.setPort_mod (p : Nat) (x : Port) : (s.setPort p x).mod = s.mod := rfl
@[simp] theorem State.setPort_mon (p : Nat) (x : Port) : (s.setPort p x).mon = s.mon := rfl
@[simp] theorem State.setPort_sar (p : Nat) (x : Port) : (s.setPort p x).sar = s.sar := rfl
@[simp] theorem State.setPort_ref (p : Nat) (x : Port) : (s.setPort p x).ref = s.ref := rfl
@[simp] theorem State.setPort_tbs (p : Nat) (x : Port) : (s.setPort p x).tbs = s.tbs := rfl
@[simp] theorem State.setPort_eth (p : Nat) (x : Port) : (s.setPort p x).eth = s.eth := rfl
@[simp] theorem State.setPort_csc (p : Nat) (x : Port) : (s.setPort p x).csc = s.csc := rfl
@[simp] theorem State.setPort_zk (p : Nat) (x : Port) : (s.setPort p x).zk = s.zk := rfl
@[simp] theorem State.setPort_esc (p : Nat) (x : Port) : (s.setPort p x).esc = s.esc := rfl
@[simp] theorem State.setPort_pwr (p : Nat) (x : Port) : (s.setPort p x).pwr = s.pwr := rfl

/-! ## setTb -/

@[simp] theorem State.setTb_pending (n : Nat) (x : TimeBase) : (s.setTb n x).pending = s.pending := rfl
@[simp] theorem State.setTb_mem (n : Nat) (x : TimeBase) : (s.setTb n x).mem = s.mem := rfl
@[simp] theorem State.setTb_regs (n : Nat) (x : TimeBase) : (s.setTb n x).regs = s.regs := rfl
@[simp] theorem State.setTb_next (n : Nat) (x : TimeBase) : (s.setTb n x).next = s.next := rfl
@[simp] theorem State.setTb_live (n : Nat) (x : TimeBase) : (s.setTb n x).live = s.live := rfl
@[simp] theorem State.setTb_marks (n : Nat) (x : TimeBase) : (s.setTb n x).marks = s.marks := rfl
@[simp] theorem State.setTb_ini (n : Nat) (x : TimeBase) : (s.setTb n x).ini = s.ini := rfl
@[simp] theorem State.setTb_freeCtr (n : Nat) (x : TimeBase) : (s.setTb n x).freeCtr = s.freeCtr := rfl
@[simp] theorem State.setTb_sctr (n : Nat) (x : TimeBase) : (s.setTb n x).sctr = s.sctr := rfl
@[simp] theorem State.setTb_started (n : Nat) (x : TimeBase) : (s.setTb n x).started = s.started := rfl
@[simp] theorem State.setTb_sat (n : Nat) (x : TimeBase) : (s.setTb n x).sat = s.sat := rfl
@[simp] theorem State.setTb_tly (n : Nat) (x : TimeBase) : (s.setTb n x).tly = s.tly := rfl
@[simp] theorem State.setTb_memc (n : Nat) (x : TimeBase) : (s.setTb n x).memc = s.memc := rfl
@[simp] theorem State.setTb_mover (n : Nat) (x : TimeBase) : (s.setTb n x).mover = s.mover := rfl
@[simp] theorem State.setTb_queues (n : Nat) (x : TimeBase) : (s.setTb n x).queues = s.queues := rfl
@[simp] theorem State.setTb_cus (n : Nat) (x : TimeBase) : (s.setTb n x).cus = s.cus := rfl
@[simp] theorem State.setTb_evq (n : Nat) (x : TimeBase) : (s.setTb n x).evq = s.evq := rfl
@[simp] theorem State.setTb_evMask (n : Nat) (x : TimeBase) : (s.setTb n x).evMask = s.evMask := rfl
@[simp] theorem State.setTb_subs (n : Nat) (x : TimeBase) : (s.setTb n x).subs = s.subs := rfl
@[simp] theorem State.setTb_evtLost (n : Nat) (x : TimeBase) : (s.setTb n x).evtLost = s.evtLost := rfl
@[simp] theorem State.setTb_msgOut (n : Nat) (x : TimeBase) : (s.setTb n x).msgOut = s.msgOut := rfl
@[simp] theorem State.setTb_eng (n : Nat) (x : TimeBase) : (s.setTb n x).eng = s.eng := rfl
@[simp] theorem State.setTb_engine (n : Nat) (x : TimeBase) : (s.setTb n x).engine = s.engine := rfl
@[simp] theorem State.setTb_fdc (n : Nat) (x : TimeBase) : (s.setTb n x).fdc = s.fdc := rfl
@[simp] theorem State.setTb_mod (n : Nat) (x : TimeBase) : (s.setTb n x).mod = s.mod := rfl
@[simp] theorem State.setTb_mon (n : Nat) (x : TimeBase) : (s.setTb n x).mon = s.mon := rfl
@[simp] theorem State.setTb_sar (n : Nat) (x : TimeBase) : (s.setTb n x).sar = s.sar := rfl
@[simp] theorem State.setTb_ports (n : Nat) (x : TimeBase) : (s.setTb n x).ports = s.ports := rfl
@[simp] theorem State.setTb_ref (n : Nat) (x : TimeBase) : (s.setTb n x).ref = s.ref := rfl
@[simp] theorem State.setTb_eth (n : Nat) (x : TimeBase) : (s.setTb n x).eth = s.eth := rfl
@[simp] theorem State.setTb_csc (n : Nat) (x : TimeBase) : (s.setTb n x).csc = s.csc := rfl
@[simp] theorem State.setTb_zk (n : Nat) (x : TimeBase) : (s.setTb n x).zk = s.zk := rfl
@[simp] theorem State.setTb_esc (n : Nat) (x : TimeBase) : (s.setTb n x).esc = s.esc := rfl
@[simp] theorem State.setTb_pwr (n : Nat) (x : TimeBase) : (s.setTb n x).pwr = s.pwr := rfl

/-! ## setTrg -/

@[simp] theorem State.setTrg_pending (n : Nat) (x : Trigger) : (s.setTrg n x).pending = s.pending := rfl
@[simp] theorem State.setTrg_mem (n : Nat) (x : Trigger) : (s.setTrg n x).mem = s.mem := rfl
@[simp] theorem State.setTrg_regs (n : Nat) (x : Trigger) : (s.setTrg n x).regs = s.regs := rfl
@[simp] theorem State.setTrg_next (n : Nat) (x : Trigger) : (s.setTrg n x).next = s.next := rfl
@[simp] theorem State.setTrg_live (n : Nat) (x : Trigger) : (s.setTrg n x).live = s.live := rfl
@[simp] theorem State.setTrg_marks (n : Nat) (x : Trigger) : (s.setTrg n x).marks = s.marks := rfl
@[simp] theorem State.setTrg_ini (n : Nat) (x : Trigger) : (s.setTrg n x).ini = s.ini := rfl
@[simp] theorem State.setTrg_freeCtr (n : Nat) (x : Trigger) : (s.setTrg n x).freeCtr = s.freeCtr := rfl
@[simp] theorem State.setTrg_sctr (n : Nat) (x : Trigger) : (s.setTrg n x).sctr = s.sctr := rfl
@[simp] theorem State.setTrg_started (n : Nat) (x : Trigger) : (s.setTrg n x).started = s.started := rfl
@[simp] theorem State.setTrg_sat (n : Nat) (x : Trigger) : (s.setTrg n x).sat = s.sat := rfl
@[simp] theorem State.setTrg_tly (n : Nat) (x : Trigger) : (s.setTrg n x).tly = s.tly := rfl
@[simp] theorem State.setTrg_memc (n : Nat) (x : Trigger) : (s.setTrg n x).memc = s.memc := rfl
@[simp] theorem State.setTrg_mover (n : Nat) (x : Trigger) : (s.setTrg n x).mover = s.mover := rfl
@[simp] theorem State.setTrg_queues (n : Nat) (x : Trigger) : (s.setTrg n x).queues = s.queues := rfl
@[simp] theorem State.setTrg_cus (n : Nat) (x : Trigger) : (s.setTrg n x).cus = s.cus := rfl
@[simp] theorem State.setTrg_evq (n : Nat) (x : Trigger) : (s.setTrg n x).evq = s.evq := rfl
@[simp] theorem State.setTrg_evMask (n : Nat) (x : Trigger) : (s.setTrg n x).evMask = s.evMask := rfl
@[simp] theorem State.setTrg_subs (n : Nat) (x : Trigger) : (s.setTrg n x).subs = s.subs := rfl
@[simp] theorem State.setTrg_evtLost (n : Nat) (x : Trigger) : (s.setTrg n x).evtLost = s.evtLost := rfl
@[simp] theorem State.setTrg_msgOut (n : Nat) (x : Trigger) : (s.setTrg n x).msgOut = s.msgOut := rfl
@[simp] theorem State.setTrg_eng (n : Nat) (x : Trigger) : (s.setTrg n x).eng = s.eng := rfl
@[simp] theorem State.setTrg_engine (n : Nat) (x : Trigger) : (s.setTrg n x).engine = s.engine := rfl
@[simp] theorem State.setTrg_fdc (n : Nat) (x : Trigger) : (s.setTrg n x).fdc = s.fdc := rfl
@[simp] theorem State.setTrg_mod (n : Nat) (x : Trigger) : (s.setTrg n x).mod = s.mod := rfl
@[simp] theorem State.setTrg_mon (n : Nat) (x : Trigger) : (s.setTrg n x).mon = s.mon := rfl
@[simp] theorem State.setTrg_sar (n : Nat) (x : Trigger) : (s.setTrg n x).sar = s.sar := rfl
@[simp] theorem State.setTrg_ports (n : Nat) (x : Trigger) : (s.setTrg n x).ports = s.ports := rfl
@[simp] theorem State.setTrg_ref (n : Nat) (x : Trigger) : (s.setTrg n x).ref = s.ref := rfl
@[simp] theorem State.setTrg_eth (n : Nat) (x : Trigger) : (s.setTrg n x).eth = s.eth := rfl
@[simp] theorem State.setTrg_csc (n : Nat) (x : Trigger) : (s.setTrg n x).csc = s.csc := rfl
@[simp] theorem State.setTrg_zk (n : Nat) (x : Trigger) : (s.setTrg n x).zk = s.zk := rfl
@[simp] theorem State.setTrg_esc (n : Nat) (x : Trigger) : (s.setTrg n x).esc = s.esc := rfl
@[simp] theorem State.setTrg_pwr (n : Nat) (x : Trigger) : (s.setTrg n x).pwr = s.pwr := rfl

/-! ## setCap -/

@[simp] theorem State.setCap_pending (n : Nat) (x : Capture) : (s.setCap n x).pending = s.pending := rfl
@[simp] theorem State.setCap_mem (n : Nat) (x : Capture) : (s.setCap n x).mem = s.mem := rfl
@[simp] theorem State.setCap_regs (n : Nat) (x : Capture) : (s.setCap n x).regs = s.regs := rfl
@[simp] theorem State.setCap_next (n : Nat) (x : Capture) : (s.setCap n x).next = s.next := rfl
@[simp] theorem State.setCap_live (n : Nat) (x : Capture) : (s.setCap n x).live = s.live := rfl
@[simp] theorem State.setCap_marks (n : Nat) (x : Capture) : (s.setCap n x).marks = s.marks := rfl
@[simp] theorem State.setCap_ini (n : Nat) (x : Capture) : (s.setCap n x).ini = s.ini := rfl
@[simp] theorem State.setCap_freeCtr (n : Nat) (x : Capture) : (s.setCap n x).freeCtr = s.freeCtr := rfl
@[simp] theorem State.setCap_sctr (n : Nat) (x : Capture) : (s.setCap n x).sctr = s.sctr := rfl
@[simp] theorem State.setCap_started (n : Nat) (x : Capture) : (s.setCap n x).started = s.started := rfl
@[simp] theorem State.setCap_sat (n : Nat) (x : Capture) : (s.setCap n x).sat = s.sat := rfl
@[simp] theorem State.setCap_tly (n : Nat) (x : Capture) : (s.setCap n x).tly = s.tly := rfl
@[simp] theorem State.setCap_memc (n : Nat) (x : Capture) : (s.setCap n x).memc = s.memc := rfl
@[simp] theorem State.setCap_mover (n : Nat) (x : Capture) : (s.setCap n x).mover = s.mover := rfl
@[simp] theorem State.setCap_queues (n : Nat) (x : Capture) : (s.setCap n x).queues = s.queues := rfl
@[simp] theorem State.setCap_cus (n : Nat) (x : Capture) : (s.setCap n x).cus = s.cus := rfl
@[simp] theorem State.setCap_evq (n : Nat) (x : Capture) : (s.setCap n x).evq = s.evq := rfl
@[simp] theorem State.setCap_evMask (n : Nat) (x : Capture) : (s.setCap n x).evMask = s.evMask := rfl
@[simp] theorem State.setCap_subs (n : Nat) (x : Capture) : (s.setCap n x).subs = s.subs := rfl
@[simp] theorem State.setCap_evtLost (n : Nat) (x : Capture) : (s.setCap n x).evtLost = s.evtLost := rfl
@[simp] theorem State.setCap_msgOut (n : Nat) (x : Capture) : (s.setCap n x).msgOut = s.msgOut := rfl
@[simp] theorem State.setCap_eng (n : Nat) (x : Capture) : (s.setCap n x).eng = s.eng := rfl
@[simp] theorem State.setCap_engine (n : Nat) (x : Capture) : (s.setCap n x).engine = s.engine := rfl
@[simp] theorem State.setCap_fdc (n : Nat) (x : Capture) : (s.setCap n x).fdc = s.fdc := rfl
@[simp] theorem State.setCap_mod (n : Nat) (x : Capture) : (s.setCap n x).mod = s.mod := rfl
@[simp] theorem State.setCap_mon (n : Nat) (x : Capture) : (s.setCap n x).mon = s.mon := rfl
@[simp] theorem State.setCap_sar (n : Nat) (x : Capture) : (s.setCap n x).sar = s.sar := rfl
@[simp] theorem State.setCap_ports (n : Nat) (x : Capture) : (s.setCap n x).ports = s.ports := rfl
@[simp] theorem State.setCap_ref (n : Nat) (x : Capture) : (s.setCap n x).ref = s.ref := rfl
@[simp] theorem State.setCap_eth (n : Nat) (x : Capture) : (s.setCap n x).eth = s.eth := rfl
@[simp] theorem State.setCap_csc (n : Nat) (x : Capture) : (s.setCap n x).csc = s.csc := rfl
@[simp] theorem State.setCap_zk (n : Nat) (x : Capture) : (s.setCap n x).zk = s.zk := rfl
@[simp] theorem State.setCap_esc (n : Nat) (x : Capture) : (s.setCap n x).esc = s.esc := rfl
@[simp] theorem State.setCap_pwr (n : Nat) (x : Capture) : (s.setCap n x).pwr = s.pwr := rfl

/-! ## setTxq -/

@[simp] theorem State.setTxq_pending (n : Nat) (x : TxQueue) : (s.setTxq n x).pending = s.pending := rfl
@[simp] theorem State.setTxq_mem (n : Nat) (x : TxQueue) : (s.setTxq n x).mem = s.mem := rfl
@[simp] theorem State.setTxq_regs (n : Nat) (x : TxQueue) : (s.setTxq n x).regs = s.regs := rfl
@[simp] theorem State.setTxq_next (n : Nat) (x : TxQueue) : (s.setTxq n x).next = s.next := rfl
@[simp] theorem State.setTxq_live (n : Nat) (x : TxQueue) : (s.setTxq n x).live = s.live := rfl
@[simp] theorem State.setTxq_marks (n : Nat) (x : TxQueue) : (s.setTxq n x).marks = s.marks := rfl
@[simp] theorem State.setTxq_ini (n : Nat) (x : TxQueue) : (s.setTxq n x).ini = s.ini := rfl
@[simp] theorem State.setTxq_freeCtr (n : Nat) (x : TxQueue) : (s.setTxq n x).freeCtr = s.freeCtr := rfl
@[simp] theorem State.setTxq_sctr (n : Nat) (x : TxQueue) : (s.setTxq n x).sctr = s.sctr := rfl
@[simp] theorem State.setTxq_started (n : Nat) (x : TxQueue) : (s.setTxq n x).started = s.started := rfl
@[simp] theorem State.setTxq_sat (n : Nat) (x : TxQueue) : (s.setTxq n x).sat = s.sat := rfl
@[simp] theorem State.setTxq_tly (n : Nat) (x : TxQueue) : (s.setTxq n x).tly = s.tly := rfl
@[simp] theorem State.setTxq_memc (n : Nat) (x : TxQueue) : (s.setTxq n x).memc = s.memc := rfl
@[simp] theorem State.setTxq_mover (n : Nat) (x : TxQueue) : (s.setTxq n x).mover = s.mover := rfl
@[simp] theorem State.setTxq_queues (n : Nat) (x : TxQueue) : (s.setTxq n x).queues = s.queues := rfl
@[simp] theorem State.setTxq_cus (n : Nat) (x : TxQueue) : (s.setTxq n x).cus = s.cus := rfl
@[simp] theorem State.setTxq_evq (n : Nat) (x : TxQueue) : (s.setTxq n x).evq = s.evq := rfl
@[simp] theorem State.setTxq_evMask (n : Nat) (x : TxQueue) : (s.setTxq n x).evMask = s.evMask := rfl
@[simp] theorem State.setTxq_subs (n : Nat) (x : TxQueue) : (s.setTxq n x).subs = s.subs := rfl
@[simp] theorem State.setTxq_evtLost (n : Nat) (x : TxQueue) : (s.setTxq n x).evtLost = s.evtLost := rfl
@[simp] theorem State.setTxq_msgOut (n : Nat) (x : TxQueue) : (s.setTxq n x).msgOut = s.msgOut := rfl
@[simp] theorem State.setTxq_eng (n : Nat) (x : TxQueue) : (s.setTxq n x).eng = s.eng := rfl
@[simp] theorem State.setTxq_engine (n : Nat) (x : TxQueue) : (s.setTxq n x).engine = s.engine := rfl
@[simp] theorem State.setTxq_fdc (n : Nat) (x : TxQueue) : (s.setTxq n x).fdc = s.fdc := rfl
@[simp] theorem State.setTxq_mod (n : Nat) (x : TxQueue) : (s.setTxq n x).mod = s.mod := rfl
@[simp] theorem State.setTxq_mon (n : Nat) (x : TxQueue) : (s.setTxq n x).mon = s.mon := rfl
@[simp] theorem State.setTxq_sar (n : Nat) (x : TxQueue) : (s.setTxq n x).sar = s.sar := rfl
@[simp] theorem State.setTxq_ports (n : Nat) (x : TxQueue) : (s.setTxq n x).ports = s.ports := rfl
@[simp] theorem State.setTxq_ref (n : Nat) (x : TxQueue) : (s.setTxq n x).ref = s.ref := rfl
@[simp] theorem State.setTxq_eth (n : Nat) (x : TxQueue) : (s.setTxq n x).eth = s.eth := rfl
@[simp] theorem State.setTxq_csc (n : Nat) (x : TxQueue) : (s.setTxq n x).csc = s.csc := rfl
@[simp] theorem State.setTxq_zk (n : Nat) (x : TxQueue) : (s.setTxq n x).zk = s.zk := rfl
@[simp] theorem State.setTxq_esc (n : Nat) (x : TxQueue) : (s.setTxq n x).esc = s.esc := rfl
@[simp] theorem State.setTxq_pwr (n : Nat) (x : TxQueue) : (s.setTxq n x).pwr = s.pwr := rfl

/-! ## setMac -/

@[simp] theorem State.setMac_pending (n : Nat) (x : Mac) : (s.setMac n x).pending = s.pending := rfl
@[simp] theorem State.setMac_mem (n : Nat) (x : Mac) : (s.setMac n x).mem = s.mem := rfl
@[simp] theorem State.setMac_regs (n : Nat) (x : Mac) : (s.setMac n x).regs = s.regs := rfl
@[simp] theorem State.setMac_next (n : Nat) (x : Mac) : (s.setMac n x).next = s.next := rfl
@[simp] theorem State.setMac_live (n : Nat) (x : Mac) : (s.setMac n x).live = s.live := rfl
@[simp] theorem State.setMac_marks (n : Nat) (x : Mac) : (s.setMac n x).marks = s.marks := rfl
@[simp] theorem State.setMac_ini (n : Nat) (x : Mac) : (s.setMac n x).ini = s.ini := rfl
@[simp] theorem State.setMac_freeCtr (n : Nat) (x : Mac) : (s.setMac n x).freeCtr = s.freeCtr := rfl
@[simp] theorem State.setMac_sctr (n : Nat) (x : Mac) : (s.setMac n x).sctr = s.sctr := rfl
@[simp] theorem State.setMac_started (n : Nat) (x : Mac) : (s.setMac n x).started = s.started := rfl
@[simp] theorem State.setMac_sat (n : Nat) (x : Mac) : (s.setMac n x).sat = s.sat := rfl
@[simp] theorem State.setMac_tly (n : Nat) (x : Mac) : (s.setMac n x).tly = s.tly := rfl
@[simp] theorem State.setMac_memc (n : Nat) (x : Mac) : (s.setMac n x).memc = s.memc := rfl
@[simp] theorem State.setMac_mover (n : Nat) (x : Mac) : (s.setMac n x).mover = s.mover := rfl
@[simp] theorem State.setMac_queues (n : Nat) (x : Mac) : (s.setMac n x).queues = s.queues := rfl
@[simp] theorem State.setMac_cus (n : Nat) (x : Mac) : (s.setMac n x).cus = s.cus := rfl
@[simp] theorem State.setMac_evq (n : Nat) (x : Mac) : (s.setMac n x).evq = s.evq := rfl
@[simp] theorem State.setMac_evMask (n : Nat) (x : Mac) : (s.setMac n x).evMask = s.evMask := rfl
@[simp] theorem State.setMac_subs (n : Nat) (x : Mac) : (s.setMac n x).subs = s.subs := rfl
@[simp] theorem State.setMac_evtLost (n : Nat) (x : Mac) : (s.setMac n x).evtLost = s.evtLost := rfl
@[simp] theorem State.setMac_msgOut (n : Nat) (x : Mac) : (s.setMac n x).msgOut = s.msgOut := rfl
@[simp] theorem State.setMac_eng (n : Nat) (x : Mac) : (s.setMac n x).eng = s.eng := rfl
@[simp] theorem State.setMac_engine (n : Nat) (x : Mac) : (s.setMac n x).engine = s.engine := rfl
@[simp] theorem State.setMac_fdc (n : Nat) (x : Mac) : (s.setMac n x).fdc = s.fdc := rfl
@[simp] theorem State.setMac_mod (n : Nat) (x : Mac) : (s.setMac n x).mod = s.mod := rfl
@[simp] theorem State.setMac_mon (n : Nat) (x : Mac) : (s.setMac n x).mon = s.mon := rfl
@[simp] theorem State.setMac_sar (n : Nat) (x : Mac) : (s.setMac n x).sar = s.sar := rfl
@[simp] theorem State.setMac_ports (n : Nat) (x : Mac) : (s.setMac n x).ports = s.ports := rfl
@[simp] theorem State.setMac_ref (n : Nat) (x : Mac) : (s.setMac n x).ref = s.ref := rfl
@[simp] theorem State.setMac_tbs (n : Nat) (x : Mac) : (s.setMac n x).tbs = s.tbs := rfl
@[simp] theorem State.setMac_csc (n : Nat) (x : Mac) : (s.setMac n x).csc = s.csc := rfl
@[simp] theorem State.setMac_zk (n : Nat) (x : Mac) : (s.setMac n x).zk = s.zk := rfl
@[simp] theorem State.setMac_esc (n : Nat) (x : Mac) : (s.setMac n x).esc = s.esc := rfl
@[simp] theorem State.setMac_pwr (n : Nat) (x : Mac) : (s.setMac n x).pwr = s.pwr := rfl

/-! ## setSrx -/

@[simp] theorem State.setSrx_pending (n : Nat) (x : RxStream) : (s.setSrx n x).pending = s.pending := rfl
@[simp] theorem State.setSrx_mem (n : Nat) (x : RxStream) : (s.setSrx n x).mem = s.mem := rfl
@[simp] theorem State.setSrx_regs (n : Nat) (x : RxStream) : (s.setSrx n x).regs = s.regs := rfl
@[simp] theorem State.setSrx_next (n : Nat) (x : RxStream) : (s.setSrx n x).next = s.next := rfl
@[simp] theorem State.setSrx_live (n : Nat) (x : RxStream) : (s.setSrx n x).live = s.live := rfl
@[simp] theorem State.setSrx_marks (n : Nat) (x : RxStream) : (s.setSrx n x).marks = s.marks := rfl
@[simp] theorem State.setSrx_ini (n : Nat) (x : RxStream) : (s.setSrx n x).ini = s.ini := rfl
@[simp] theorem State.setSrx_freeCtr (n : Nat) (x : RxStream) : (s.setSrx n x).freeCtr = s.freeCtr := rfl
@[simp] theorem State.setSrx_sctr (n : Nat) (x : RxStream) : (s.setSrx n x).sctr = s.sctr := rfl
@[simp] theorem State.setSrx_started (n : Nat) (x : RxStream) : (s.setSrx n x).started = s.started := rfl
@[simp] theorem State.setSrx_sat (n : Nat) (x : RxStream) : (s.setSrx n x).sat = s.sat := rfl
@[simp] theorem State.setSrx_tly (n : Nat) (x : RxStream) : (s.setSrx n x).tly = s.tly := rfl
@[simp] theorem State.setSrx_memc (n : Nat) (x : RxStream) : (s.setSrx n x).memc = s.memc := rfl
@[simp] theorem State.setSrx_mover (n : Nat) (x : RxStream) : (s.setSrx n x).mover = s.mover := rfl
@[simp] theorem State.setSrx_queues (n : Nat) (x : RxStream) : (s.setSrx n x).queues = s.queues := rfl
@[simp] theorem State.setSrx_cus (n : Nat) (x : RxStream) : (s.setSrx n x).cus = s.cus := rfl
@[simp] theorem State.setSrx_evq (n : Nat) (x : RxStream) : (s.setSrx n x).evq = s.evq := rfl
@[simp] theorem State.setSrx_evMask (n : Nat) (x : RxStream) : (s.setSrx n x).evMask = s.evMask := rfl
@[simp] theorem State.setSrx_subs (n : Nat) (x : RxStream) : (s.setSrx n x).subs = s.subs := rfl
@[simp] theorem State.setSrx_evtLost (n : Nat) (x : RxStream) : (s.setSrx n x).evtLost = s.evtLost := rfl
@[simp] theorem State.setSrx_msgOut (n : Nat) (x : RxStream) : (s.setSrx n x).msgOut = s.msgOut := rfl
@[simp] theorem State.setSrx_eng (n : Nat) (x : RxStream) : (s.setSrx n x).eng = s.eng := rfl
@[simp] theorem State.setSrx_engine (n : Nat) (x : RxStream) : (s.setSrx n x).engine = s.engine := rfl
@[simp] theorem State.setSrx_fdc (n : Nat) (x : RxStream) : (s.setSrx n x).fdc = s.fdc := rfl
@[simp] theorem State.setSrx_mod (n : Nat) (x : RxStream) : (s.setSrx n x).mod = s.mod := rfl
@[simp] theorem State.setSrx_mon (n : Nat) (x : RxStream) : (s.setSrx n x).mon = s.mon := rfl
@[simp] theorem State.setSrx_sar (n : Nat) (x : RxStream) : (s.setSrx n x).sar = s.sar := rfl
@[simp] theorem State.setSrx_ports (n : Nat) (x : RxStream) : (s.setSrx n x).ports = s.ports := rfl
@[simp] theorem State.setSrx_ref (n : Nat) (x : RxStream) : (s.setSrx n x).ref = s.ref := rfl
@[simp] theorem State.setSrx_tbs (n : Nat) (x : RxStream) : (s.setSrx n x).tbs = s.tbs := rfl
@[simp] theorem State.setSrx_csc (n : Nat) (x : RxStream) : (s.setSrx n x).csc = s.csc := rfl
@[simp] theorem State.setSrx_zk (n : Nat) (x : RxStream) : (s.setSrx n x).zk = s.zk := rfl
@[simp] theorem State.setSrx_esc (n : Nat) (x : RxStream) : (s.setSrx n x).esc = s.esc := rfl
@[simp] theorem State.setSrx_pwr (n : Nat) (x : RxStream) : (s.setSrx n x).pwr = s.pwr := rfl

/-! ## setStx -/

@[simp] theorem State.setStx_pending (n : Nat) (x : TxStream) : (s.setStx n x).pending = s.pending := rfl
@[simp] theorem State.setStx_mem (n : Nat) (x : TxStream) : (s.setStx n x).mem = s.mem := rfl
@[simp] theorem State.setStx_regs (n : Nat) (x : TxStream) : (s.setStx n x).regs = s.regs := rfl
@[simp] theorem State.setStx_next (n : Nat) (x : TxStream) : (s.setStx n x).next = s.next := rfl
@[simp] theorem State.setStx_live (n : Nat) (x : TxStream) : (s.setStx n x).live = s.live := rfl
@[simp] theorem State.setStx_marks (n : Nat) (x : TxStream) : (s.setStx n x).marks = s.marks := rfl
@[simp] theorem State.setStx_ini (n : Nat) (x : TxStream) : (s.setStx n x).ini = s.ini := rfl
@[simp] theorem State.setStx_freeCtr (n : Nat) (x : TxStream) : (s.setStx n x).freeCtr = s.freeCtr := rfl
@[simp] theorem State.setStx_sctr (n : Nat) (x : TxStream) : (s.setStx n x).sctr = s.sctr := rfl
@[simp] theorem State.setStx_started (n : Nat) (x : TxStream) : (s.setStx n x).started = s.started := rfl
@[simp] theorem State.setStx_sat (n : Nat) (x : TxStream) : (s.setStx n x).sat = s.sat := rfl
@[simp] theorem State.setStx_tly (n : Nat) (x : TxStream) : (s.setStx n x).tly = s.tly := rfl
@[simp] theorem State.setStx_memc (n : Nat) (x : TxStream) : (s.setStx n x).memc = s.memc := rfl
@[simp] theorem State.setStx_mover (n : Nat) (x : TxStream) : (s.setStx n x).mover = s.mover := rfl
@[simp] theorem State.setStx_queues (n : Nat) (x : TxStream) : (s.setStx n x).queues = s.queues := rfl
@[simp] theorem State.setStx_cus (n : Nat) (x : TxStream) : (s.setStx n x).cus = s.cus := rfl
@[simp] theorem State.setStx_evq (n : Nat) (x : TxStream) : (s.setStx n x).evq = s.evq := rfl
@[simp] theorem State.setStx_evMask (n : Nat) (x : TxStream) : (s.setStx n x).evMask = s.evMask := rfl
@[simp] theorem State.setStx_subs (n : Nat) (x : TxStream) : (s.setStx n x).subs = s.subs := rfl
@[simp] theorem State.setStx_evtLost (n : Nat) (x : TxStream) : (s.setStx n x).evtLost = s.evtLost := rfl
@[simp] theorem State.setStx_msgOut (n : Nat) (x : TxStream) : (s.setStx n x).msgOut = s.msgOut := rfl
@[simp] theorem State.setStx_eng (n : Nat) (x : TxStream) : (s.setStx n x).eng = s.eng := rfl
@[simp] theorem State.setStx_engine (n : Nat) (x : TxStream) : (s.setStx n x).engine = s.engine := rfl
@[simp] theorem State.setStx_fdc (n : Nat) (x : TxStream) : (s.setStx n x).fdc = s.fdc := rfl
@[simp] theorem State.setStx_mod (n : Nat) (x : TxStream) : (s.setStx n x).mod = s.mod := rfl
@[simp] theorem State.setStx_mon (n : Nat) (x : TxStream) : (s.setStx n x).mon = s.mon := rfl
@[simp] theorem State.setStx_sar (n : Nat) (x : TxStream) : (s.setStx n x).sar = s.sar := rfl
@[simp] theorem State.setStx_ports (n : Nat) (x : TxStream) : (s.setStx n x).ports = s.ports := rfl
@[simp] theorem State.setStx_ref (n : Nat) (x : TxStream) : (s.setStx n x).ref = s.ref := rfl
@[simp] theorem State.setStx_tbs (n : Nat) (x : TxStream) : (s.setStx n x).tbs = s.tbs := rfl
@[simp] theorem State.setStx_csc (n : Nat) (x : TxStream) : (s.setStx n x).csc = s.csc := rfl
@[simp] theorem State.setStx_zk (n : Nat) (x : TxStream) : (s.setStx n x).zk = s.zk := rfl
@[simp] theorem State.setStx_esc (n : Nat) (x : TxStream) : (s.setStx n x).esc = s.esc := rfl
@[simp] theorem State.setStx_pwr (n : Nat) (x : TxStream) : (s.setStx n x).pwr = s.pwr := rfl

/-! ## withCsc -/

@[simp] theorem State.withCsc_pending (x : Cascade) : (s.withCsc x).pending = s.pending := rfl
@[simp] theorem State.withCsc_mem (x : Cascade) : (s.withCsc x).mem = s.mem := rfl
@[simp] theorem State.withCsc_regs (x : Cascade) : (s.withCsc x).regs = s.regs := rfl
@[simp] theorem State.withCsc_next (x : Cascade) : (s.withCsc x).next = s.next := rfl
@[simp] theorem State.withCsc_live (x : Cascade) : (s.withCsc x).live = s.live := rfl
@[simp] theorem State.withCsc_marks (x : Cascade) : (s.withCsc x).marks = s.marks := rfl
@[simp] theorem State.withCsc_ini (x : Cascade) : (s.withCsc x).ini = s.ini := rfl
@[simp] theorem State.withCsc_freeCtr (x : Cascade) : (s.withCsc x).freeCtr = s.freeCtr := rfl
@[simp] theorem State.withCsc_sctr (x : Cascade) : (s.withCsc x).sctr = s.sctr := rfl
@[simp] theorem State.withCsc_started (x : Cascade) : (s.withCsc x).started = s.started := rfl
@[simp] theorem State.withCsc_sat (x : Cascade) : (s.withCsc x).sat = s.sat := rfl
@[simp] theorem State.withCsc_tly (x : Cascade) : (s.withCsc x).tly = s.tly := rfl
@[simp] theorem State.withCsc_memc (x : Cascade) : (s.withCsc x).memc = s.memc := rfl
@[simp] theorem State.withCsc_mover (x : Cascade) : (s.withCsc x).mover = s.mover := rfl
@[simp] theorem State.withCsc_queues (x : Cascade) : (s.withCsc x).queues = s.queues := rfl
@[simp] theorem State.withCsc_cus (x : Cascade) : (s.withCsc x).cus = s.cus := rfl
@[simp] theorem State.withCsc_evq (x : Cascade) : (s.withCsc x).evq = s.evq := rfl
@[simp] theorem State.withCsc_evMask (x : Cascade) : (s.withCsc x).evMask = s.evMask := rfl
@[simp] theorem State.withCsc_subs (x : Cascade) : (s.withCsc x).subs = s.subs := rfl
@[simp] theorem State.withCsc_evtLost (x : Cascade) : (s.withCsc x).evtLost = s.evtLost := rfl
@[simp] theorem State.withCsc_msgOut (x : Cascade) : (s.withCsc x).msgOut = s.msgOut := rfl
@[simp] theorem State.withCsc_eng (x : Cascade) : (s.withCsc x).eng = s.eng := rfl
@[simp] theorem State.withCsc_engine (x : Cascade) : (s.withCsc x).engine = s.engine := rfl
@[simp] theorem State.withCsc_fdc (x : Cascade) : (s.withCsc x).fdc = s.fdc := rfl
@[simp] theorem State.withCsc_mod (x : Cascade) : (s.withCsc x).mod = s.mod := rfl
@[simp] theorem State.withCsc_mon (x : Cascade) : (s.withCsc x).mon = s.mon := rfl
@[simp] theorem State.withCsc_sar (x : Cascade) : (s.withCsc x).sar = s.sar := rfl
@[simp] theorem State.withCsc_ports (x : Cascade) : (s.withCsc x).ports = s.ports := rfl
@[simp] theorem State.withCsc_ref (x : Cascade) : (s.withCsc x).ref = s.ref := rfl
@[simp] theorem State.withCsc_tbs (x : Cascade) : (s.withCsc x).tbs = s.tbs := rfl
@[simp] theorem State.withCsc_eth (x : Cascade) : (s.withCsc x).eth = s.eth := rfl
@[simp] theorem State.withCsc_zk (x : Cascade) : (s.withCsc x).zk = s.zk := rfl
@[simp] theorem State.withCsc_esc (x : Cascade) : (s.withCsc x).esc = s.esc := rfl
@[simp] theorem State.withCsc_pwr (x : Cascade) : (s.withCsc x).pwr = s.pwr := rfl

/-! ## setLane -/

@[simp] theorem State.setLane_pending (n : Nat) (x : Lane) : (s.setLane n x).pending = s.pending := rfl
@[simp] theorem State.setLane_mem (n : Nat) (x : Lane) : (s.setLane n x).mem = s.mem := rfl
@[simp] theorem State.setLane_regs (n : Nat) (x : Lane) : (s.setLane n x).regs = s.regs := rfl
@[simp] theorem State.setLane_next (n : Nat) (x : Lane) : (s.setLane n x).next = s.next := rfl
@[simp] theorem State.setLane_live (n : Nat) (x : Lane) : (s.setLane n x).live = s.live := rfl
@[simp] theorem State.setLane_marks (n : Nat) (x : Lane) : (s.setLane n x).marks = s.marks := rfl
@[simp] theorem State.setLane_ini (n : Nat) (x : Lane) : (s.setLane n x).ini = s.ini := rfl
@[simp] theorem State.setLane_freeCtr (n : Nat) (x : Lane) : (s.setLane n x).freeCtr = s.freeCtr := rfl
@[simp] theorem State.setLane_sctr (n : Nat) (x : Lane) : (s.setLane n x).sctr = s.sctr := rfl
@[simp] theorem State.setLane_started (n : Nat) (x : Lane) : (s.setLane n x).started = s.started := rfl
@[simp] theorem State.setLane_sat (n : Nat) (x : Lane) : (s.setLane n x).sat = s.sat := rfl
@[simp] theorem State.setLane_tly (n : Nat) (x : Lane) : (s.setLane n x).tly = s.tly := rfl
@[simp] theorem State.setLane_memc (n : Nat) (x : Lane) : (s.setLane n x).memc = s.memc := rfl
@[simp] theorem State.setLane_mover (n : Nat) (x : Lane) : (s.setLane n x).mover = s.mover := rfl
@[simp] theorem State.setLane_queues (n : Nat) (x : Lane) : (s.setLane n x).queues = s.queues := rfl
@[simp] theorem State.setLane_cus (n : Nat) (x : Lane) : (s.setLane n x).cus = s.cus := rfl
@[simp] theorem State.setLane_evq (n : Nat) (x : Lane) : (s.setLane n x).evq = s.evq := rfl
@[simp] theorem State.setLane_evMask (n : Nat) (x : Lane) : (s.setLane n x).evMask = s.evMask := rfl
@[simp] theorem State.setLane_subs (n : Nat) (x : Lane) : (s.setLane n x).subs = s.subs := rfl
@[simp] theorem State.setLane_evtLost (n : Nat) (x : Lane) : (s.setLane n x).evtLost = s.evtLost := rfl
@[simp] theorem State.setLane_msgOut (n : Nat) (x : Lane) : (s.setLane n x).msgOut = s.msgOut := rfl
@[simp] theorem State.setLane_eng (n : Nat) (x : Lane) : (s.setLane n x).eng = s.eng := rfl
@[simp] theorem State.setLane_engine (n : Nat) (x : Lane) : (s.setLane n x).engine = s.engine := rfl
@[simp] theorem State.setLane_fdc (n : Nat) (x : Lane) : (s.setLane n x).fdc = s.fdc := rfl
@[simp] theorem State.setLane_mod (n : Nat) (x : Lane) : (s.setLane n x).mod = s.mod := rfl
@[simp] theorem State.setLane_mon (n : Nat) (x : Lane) : (s.setLane n x).mon = s.mon := rfl
@[simp] theorem State.setLane_sar (n : Nat) (x : Lane) : (s.setLane n x).sar = s.sar := rfl
@[simp] theorem State.setLane_ports (n : Nat) (x : Lane) : (s.setLane n x).ports = s.ports := rfl
@[simp] theorem State.setLane_ref (n : Nat) (x : Lane) : (s.setLane n x).ref = s.ref := rfl
@[simp] theorem State.setLane_tbs (n : Nat) (x : Lane) : (s.setLane n x).tbs = s.tbs := rfl
@[simp] theorem State.setLane_eth (n : Nat) (x : Lane) : (s.setLane n x).eth = s.eth := rfl
@[simp] theorem State.setLane_zk (n : Nat) (x : Lane) : (s.setLane n x).zk = s.zk := rfl
@[simp] theorem State.setLane_esc (n : Nat) (x : Lane) : (s.setLane n x).esc = s.esc := rfl
@[simp] theorem State.setLane_pwr (n : Nat) (x : Lane) : (s.setLane n x).pwr = s.pwr := rfl

/-! ## setCp -/

@[simp] theorem State.setCp_pending (n : Nat) (x : CscPort) : (s.setCp n x).pending = s.pending := rfl
@[simp] theorem State.setCp_mem (n : Nat) (x : CscPort) : (s.setCp n x).mem = s.mem := rfl
@[simp] theorem State.setCp_regs (n : Nat) (x : CscPort) : (s.setCp n x).regs = s.regs := rfl
@[simp] theorem State.setCp_next (n : Nat) (x : CscPort) : (s.setCp n x).next = s.next := rfl
@[simp] theorem State.setCp_live (n : Nat) (x : CscPort) : (s.setCp n x).live = s.live := rfl
@[simp] theorem State.setCp_marks (n : Nat) (x : CscPort) : (s.setCp n x).marks = s.marks := rfl
@[simp] theorem State.setCp_ini (n : Nat) (x : CscPort) : (s.setCp n x).ini = s.ini := rfl
@[simp] theorem State.setCp_freeCtr (n : Nat) (x : CscPort) : (s.setCp n x).freeCtr = s.freeCtr := rfl
@[simp] theorem State.setCp_sctr (n : Nat) (x : CscPort) : (s.setCp n x).sctr = s.sctr := rfl
@[simp] theorem State.setCp_started (n : Nat) (x : CscPort) : (s.setCp n x).started = s.started := rfl
@[simp] theorem State.setCp_sat (n : Nat) (x : CscPort) : (s.setCp n x).sat = s.sat := rfl
@[simp] theorem State.setCp_tly (n : Nat) (x : CscPort) : (s.setCp n x).tly = s.tly := rfl
@[simp] theorem State.setCp_memc (n : Nat) (x : CscPort) : (s.setCp n x).memc = s.memc := rfl
@[simp] theorem State.setCp_mover (n : Nat) (x : CscPort) : (s.setCp n x).mover = s.mover := rfl
@[simp] theorem State.setCp_queues (n : Nat) (x : CscPort) : (s.setCp n x).queues = s.queues := rfl
@[simp] theorem State.setCp_cus (n : Nat) (x : CscPort) : (s.setCp n x).cus = s.cus := rfl
@[simp] theorem State.setCp_evq (n : Nat) (x : CscPort) : (s.setCp n x).evq = s.evq := rfl
@[simp] theorem State.setCp_evMask (n : Nat) (x : CscPort) : (s.setCp n x).evMask = s.evMask := rfl
@[simp] theorem State.setCp_subs (n : Nat) (x : CscPort) : (s.setCp n x).subs = s.subs := rfl
@[simp] theorem State.setCp_evtLost (n : Nat) (x : CscPort) : (s.setCp n x).evtLost = s.evtLost := rfl
@[simp] theorem State.setCp_msgOut (n : Nat) (x : CscPort) : (s.setCp n x).msgOut = s.msgOut := rfl
@[simp] theorem State.setCp_eng (n : Nat) (x : CscPort) : (s.setCp n x).eng = s.eng := rfl
@[simp] theorem State.setCp_engine (n : Nat) (x : CscPort) : (s.setCp n x).engine = s.engine := rfl
@[simp] theorem State.setCp_fdc (n : Nat) (x : CscPort) : (s.setCp n x).fdc = s.fdc := rfl
@[simp] theorem State.setCp_mod (n : Nat) (x : CscPort) : (s.setCp n x).mod = s.mod := rfl
@[simp] theorem State.setCp_mon (n : Nat) (x : CscPort) : (s.setCp n x).mon = s.mon := rfl
@[simp] theorem State.setCp_sar (n : Nat) (x : CscPort) : (s.setCp n x).sar = s.sar := rfl
@[simp] theorem State.setCp_ports (n : Nat) (x : CscPort) : (s.setCp n x).ports = s.ports := rfl
@[simp] theorem State.setCp_ref (n : Nat) (x : CscPort) : (s.setCp n x).ref = s.ref := rfl
@[simp] theorem State.setCp_tbs (n : Nat) (x : CscPort) : (s.setCp n x).tbs = s.tbs := rfl
@[simp] theorem State.setCp_eth (n : Nat) (x : CscPort) : (s.setCp n x).eth = s.eth := rfl
@[simp] theorem State.setCp_zk (n : Nat) (x : CscPort) : (s.setCp n x).zk = s.zk := rfl
@[simp] theorem State.setCp_esc (n : Nat) (x : CscPort) : (s.setCp n x).esc = s.esc := rfl
@[simp] theorem State.setCp_pwr (n : Nat) (x : CscPort) : (s.setCp n x).pwr = s.pwr := rfl

/-! ## withMemc -/

@[simp] theorem State.withMemc_pending (x : MemCtl) : (s.withMemc x).pending = s.pending := rfl
@[simp] theorem State.withMemc_mem (x : MemCtl) : (s.withMemc x).mem = s.mem := rfl
@[simp] theorem State.withMemc_regs (x : MemCtl) : (s.withMemc x).regs = s.regs := rfl
@[simp] theorem State.withMemc_next (x : MemCtl) : (s.withMemc x).next = s.next := rfl
@[simp] theorem State.withMemc_live (x : MemCtl) : (s.withMemc x).live = s.live := rfl
@[simp] theorem State.withMemc_marks (x : MemCtl) : (s.withMemc x).marks = s.marks := rfl
@[simp] theorem State.withMemc_ini (x : MemCtl) : (s.withMemc x).ini = s.ini := rfl
@[simp] theorem State.withMemc_freeCtr (x : MemCtl) : (s.withMemc x).freeCtr = s.freeCtr := rfl
@[simp] theorem State.withMemc_sctr (x : MemCtl) : (s.withMemc x).sctr = s.sctr := rfl
@[simp] theorem State.withMemc_started (x : MemCtl) : (s.withMemc x).started = s.started := rfl
@[simp] theorem State.withMemc_sat (x : MemCtl) : (s.withMemc x).sat = s.sat := rfl
@[simp] theorem State.withMemc_tly (x : MemCtl) : (s.withMemc x).tly = s.tly := rfl
@[simp] theorem State.withMemc_mover (x : MemCtl) : (s.withMemc x).mover = s.mover := rfl
@[simp] theorem State.withMemc_queues (x : MemCtl) : (s.withMemc x).queues = s.queues := rfl
@[simp] theorem State.withMemc_cus (x : MemCtl) : (s.withMemc x).cus = s.cus := rfl
@[simp] theorem State.withMemc_evq (x : MemCtl) : (s.withMemc x).evq = s.evq := rfl
@[simp] theorem State.withMemc_evMask (x : MemCtl) : (s.withMemc x).evMask = s.evMask := rfl
@[simp] theorem State.withMemc_subs (x : MemCtl) : (s.withMemc x).subs = s.subs := rfl
@[simp] theorem State.withMemc_evtLost (x : MemCtl) : (s.withMemc x).evtLost = s.evtLost := rfl
@[simp] theorem State.withMemc_msgOut (x : MemCtl) : (s.withMemc x).msgOut = s.msgOut := rfl
@[simp] theorem State.withMemc_eng (x : MemCtl) : (s.withMemc x).eng = s.eng := rfl
@[simp] theorem State.withMemc_engine (x : MemCtl) : (s.withMemc x).engine = s.engine := rfl
@[simp] theorem State.withMemc_fdc (x : MemCtl) : (s.withMemc x).fdc = s.fdc := rfl
@[simp] theorem State.withMemc_mod (x : MemCtl) : (s.withMemc x).mod = s.mod := rfl
@[simp] theorem State.withMemc_mon (x : MemCtl) : (s.withMemc x).mon = s.mon := rfl
@[simp] theorem State.withMemc_sar (x : MemCtl) : (s.withMemc x).sar = s.sar := rfl
@[simp] theorem State.withMemc_ports (x : MemCtl) : (s.withMemc x).ports = s.ports := rfl
@[simp] theorem State.withMemc_ref (x : MemCtl) : (s.withMemc x).ref = s.ref := rfl
@[simp] theorem State.withMemc_tbs (x : MemCtl) : (s.withMemc x).tbs = s.tbs := rfl
@[simp] theorem State.withMemc_eth (x : MemCtl) : (s.withMemc x).eth = s.eth := rfl
@[simp] theorem State.withMemc_csc (x : MemCtl) : (s.withMemc x).csc = s.csc := rfl
@[simp] theorem State.withMemc_zk (x : MemCtl) : (s.withMemc x).zk = s.zk := rfl
@[simp] theorem State.withMemc_esc (x : MemCtl) : (s.withMemc x).esc = s.esc := rfl
@[simp] theorem State.withMemc_pwr (x : MemCtl) : (s.withMemc x).pwr = s.pwr := rfl

/-! ## setDma -/

@[simp] theorem State.setDma_pending (n : Nat) (x : DmaCh) : (s.setDma n x).pending = s.pending := rfl
@[simp] theorem State.setDma_mem (n : Nat) (x : DmaCh) : (s.setDma n x).mem = s.mem := rfl
@[simp] theorem State.setDma_regs (n : Nat) (x : DmaCh) : (s.setDma n x).regs = s.regs := rfl
@[simp] theorem State.setDma_next (n : Nat) (x : DmaCh) : (s.setDma n x).next = s.next := rfl
@[simp] theorem State.setDma_live (n : Nat) (x : DmaCh) : (s.setDma n x).live = s.live := rfl
@[simp] theorem State.setDma_marks (n : Nat) (x : DmaCh) : (s.setDma n x).marks = s.marks := rfl
@[simp] theorem State.setDma_ini (n : Nat) (x : DmaCh) : (s.setDma n x).ini = s.ini := rfl
@[simp] theorem State.setDma_freeCtr (n : Nat) (x : DmaCh) : (s.setDma n x).freeCtr = s.freeCtr := rfl
@[simp] theorem State.setDma_sctr (n : Nat) (x : DmaCh) : (s.setDma n x).sctr = s.sctr := rfl
@[simp] theorem State.setDma_started (n : Nat) (x : DmaCh) : (s.setDma n x).started = s.started := rfl
@[simp] theorem State.setDma_sat (n : Nat) (x : DmaCh) : (s.setDma n x).sat = s.sat := rfl
@[simp] theorem State.setDma_tly (n : Nat) (x : DmaCh) : (s.setDma n x).tly = s.tly := rfl
@[simp] theorem State.setDma_memc (n : Nat) (x : DmaCh) : (s.setDma n x).memc = s.memc := rfl
@[simp] theorem State.setDma_queues (n : Nat) (x : DmaCh) : (s.setDma n x).queues = s.queues := rfl
@[simp] theorem State.setDma_cus (n : Nat) (x : DmaCh) : (s.setDma n x).cus = s.cus := rfl
@[simp] theorem State.setDma_evq (n : Nat) (x : DmaCh) : (s.setDma n x).evq = s.evq := rfl
@[simp] theorem State.setDma_evMask (n : Nat) (x : DmaCh) : (s.setDma n x).evMask = s.evMask := rfl
@[simp] theorem State.setDma_subs (n : Nat) (x : DmaCh) : (s.setDma n x).subs = s.subs := rfl
@[simp] theorem State.setDma_evtLost (n : Nat) (x : DmaCh) : (s.setDma n x).evtLost = s.evtLost := rfl
@[simp] theorem State.setDma_msgOut (n : Nat) (x : DmaCh) : (s.setDma n x).msgOut = s.msgOut := rfl
@[simp] theorem State.setDma_eng (n : Nat) (x : DmaCh) : (s.setDma n x).eng = s.eng := rfl
@[simp] theorem State.setDma_engine (n : Nat) (x : DmaCh) : (s.setDma n x).engine = s.engine := rfl
@[simp] theorem State.setDma_fdc (n : Nat) (x : DmaCh) : (s.setDma n x).fdc = s.fdc := rfl
@[simp] theorem State.setDma_mod (n : Nat) (x : DmaCh) : (s.setDma n x).mod = s.mod := rfl
@[simp] theorem State.setDma_mon (n : Nat) (x : DmaCh) : (s.setDma n x).mon = s.mon := rfl
@[simp] theorem State.setDma_sar (n : Nat) (x : DmaCh) : (s.setDma n x).sar = s.sar := rfl
@[simp] theorem State.setDma_ports (n : Nat) (x : DmaCh) : (s.setDma n x).ports = s.ports := rfl
@[simp] theorem State.setDma_ref (n : Nat) (x : DmaCh) : (s.setDma n x).ref = s.ref := rfl
@[simp] theorem State.setDma_tbs (n : Nat) (x : DmaCh) : (s.setDma n x).tbs = s.tbs := rfl
@[simp] theorem State.setDma_eth (n : Nat) (x : DmaCh) : (s.setDma n x).eth = s.eth := rfl
@[simp] theorem State.setDma_csc (n : Nat) (x : DmaCh) : (s.setDma n x).csc = s.csc := rfl
@[simp] theorem State.setDma_zk (n : Nat) (x : DmaCh) : (s.setDma n x).zk = s.zk := rfl
@[simp] theorem State.setDma_esc (n : Nat) (x : DmaCh) : (s.setDma n x).esc = s.esc := rfl
@[simp] theorem State.setDma_pwr (n : Nat) (x : DmaCh) : (s.setDma n x).pwr = s.pwr := rfl

/-! ## withEsc -/

@[simp] theorem State.withEsc_pending (x : Escrow) : (s.withEsc x).pending = s.pending := rfl
@[simp] theorem State.withEsc_mem (x : Escrow) : (s.withEsc x).mem = s.mem := rfl
@[simp] theorem State.withEsc_regs (x : Escrow) : (s.withEsc x).regs = s.regs := rfl
@[simp] theorem State.withEsc_next (x : Escrow) : (s.withEsc x).next = s.next := rfl
@[simp] theorem State.withEsc_live (x : Escrow) : (s.withEsc x).live = s.live := rfl
@[simp] theorem State.withEsc_marks (x : Escrow) : (s.withEsc x).marks = s.marks := rfl
@[simp] theorem State.withEsc_ini (x : Escrow) : (s.withEsc x).ini = s.ini := rfl
@[simp] theorem State.withEsc_freeCtr (x : Escrow) : (s.withEsc x).freeCtr = s.freeCtr := rfl
@[simp] theorem State.withEsc_sctr (x : Escrow) : (s.withEsc x).sctr = s.sctr := rfl
@[simp] theorem State.withEsc_started (x : Escrow) : (s.withEsc x).started = s.started := rfl
@[simp] theorem State.withEsc_sat (x : Escrow) : (s.withEsc x).sat = s.sat := rfl
@[simp] theorem State.withEsc_tly (x : Escrow) : (s.withEsc x).tly = s.tly := rfl
@[simp] theorem State.withEsc_memc (x : Escrow) : (s.withEsc x).memc = s.memc := rfl
@[simp] theorem State.withEsc_mover (x : Escrow) : (s.withEsc x).mover = s.mover := rfl
@[simp] theorem State.withEsc_queues (x : Escrow) : (s.withEsc x).queues = s.queues := rfl
@[simp] theorem State.withEsc_cus (x : Escrow) : (s.withEsc x).cus = s.cus := rfl
@[simp] theorem State.withEsc_evq (x : Escrow) : (s.withEsc x).evq = s.evq := rfl
@[simp] theorem State.withEsc_evMask (x : Escrow) : (s.withEsc x).evMask = s.evMask := rfl
@[simp] theorem State.withEsc_subs (x : Escrow) : (s.withEsc x).subs = s.subs := rfl
@[simp] theorem State.withEsc_evtLost (x : Escrow) : (s.withEsc x).evtLost = s.evtLost := rfl
@[simp] theorem State.withEsc_msgOut (x : Escrow) : (s.withEsc x).msgOut = s.msgOut := rfl
@[simp] theorem State.withEsc_eng (x : Escrow) : (s.withEsc x).eng = s.eng := rfl
@[simp] theorem State.withEsc_engine (x : Escrow) : (s.withEsc x).engine = s.engine := rfl
@[simp] theorem State.withEsc_fdc (x : Escrow) : (s.withEsc x).fdc = s.fdc := rfl
@[simp] theorem State.withEsc_mod (x : Escrow) : (s.withEsc x).mod = s.mod := rfl
@[simp] theorem State.withEsc_mon (x : Escrow) : (s.withEsc x).mon = s.mon := rfl
@[simp] theorem State.withEsc_sar (x : Escrow) : (s.withEsc x).sar = s.sar := rfl
@[simp] theorem State.withEsc_ports (x : Escrow) : (s.withEsc x).ports = s.ports := rfl
@[simp] theorem State.withEsc_ref (x : Escrow) : (s.withEsc x).ref = s.ref := rfl
@[simp] theorem State.withEsc_tbs (x : Escrow) : (s.withEsc x).tbs = s.tbs := rfl
@[simp] theorem State.withEsc_eth (x : Escrow) : (s.withEsc x).eth = s.eth := rfl
@[simp] theorem State.withEsc_csc (x : Escrow) : (s.withEsc x).csc = s.csc := rfl
@[simp] theorem State.withEsc_zk (x : Escrow) : (s.withEsc x).zk = s.zk := rfl
@[simp] theorem State.withEsc_pwr (x : Escrow) : (s.withEsc x).pwr = s.pwr := rfl

/-! ## withPwr -/

@[simp] theorem State.withPwr_pending (x : Power) : (s.withPwr x).pending = s.pending := rfl
@[simp] theorem State.withPwr_mem (x : Power) : (s.withPwr x).mem = s.mem := rfl
@[simp] theorem State.withPwr_regs (x : Power) : (s.withPwr x).regs = s.regs := rfl
@[simp] theorem State.withPwr_next (x : Power) : (s.withPwr x).next = s.next := rfl
@[simp] theorem State.withPwr_live (x : Power) : (s.withPwr x).live = s.live := rfl
@[simp] theorem State.withPwr_marks (x : Power) : (s.withPwr x).marks = s.marks := rfl
@[simp] theorem State.withPwr_ini (x : Power) : (s.withPwr x).ini = s.ini := rfl
@[simp] theorem State.withPwr_freeCtr (x : Power) : (s.withPwr x).freeCtr = s.freeCtr := rfl
@[simp] theorem State.withPwr_sctr (x : Power) : (s.withPwr x).sctr = s.sctr := rfl
@[simp] theorem State.withPwr_started (x : Power) : (s.withPwr x).started = s.started := rfl
@[simp] theorem State.withPwr_sat (x : Power) : (s.withPwr x).sat = s.sat := rfl
@[simp] theorem State.withPwr_tly (x : Power) : (s.withPwr x).tly = s.tly := rfl
@[simp] theorem State.withPwr_memc (x : Power) : (s.withPwr x).memc = s.memc := rfl
@[simp] theorem State.withPwr_mover (x : Power) : (s.withPwr x).mover = s.mover := rfl
@[simp] theorem State.withPwr_queues (x : Power) : (s.withPwr x).queues = s.queues := rfl
@[simp] theorem State.withPwr_cus (x : Power) : (s.withPwr x).cus = s.cus := rfl
@[simp] theorem State.withPwr_evq (x : Power) : (s.withPwr x).evq = s.evq := rfl
@[simp] theorem State.withPwr_evMask (x : Power) : (s.withPwr x).evMask = s.evMask := rfl
@[simp] theorem State.withPwr_subs (x : Power) : (s.withPwr x).subs = s.subs := rfl
@[simp] theorem State.withPwr_evtLost (x : Power) : (s.withPwr x).evtLost = s.evtLost := rfl
@[simp] theorem State.withPwr_msgOut (x : Power) : (s.withPwr x).msgOut = s.msgOut := rfl
@[simp] theorem State.withPwr_eng (x : Power) : (s.withPwr x).eng = s.eng := rfl
@[simp] theorem State.withPwr_engine (x : Power) : (s.withPwr x).engine = s.engine := rfl
@[simp] theorem State.withPwr_fdc (x : Power) : (s.withPwr x).fdc = s.fdc := rfl
@[simp] theorem State.withPwr_mod (x : Power) : (s.withPwr x).mod = s.mod := rfl
@[simp] theorem State.withPwr_mon (x : Power) : (s.withPwr x).mon = s.mon := rfl
@[simp] theorem State.withPwr_sar (x : Power) : (s.withPwr x).sar = s.sar := rfl
@[simp] theorem State.withPwr_ports (x : Power) : (s.withPwr x).ports = s.ports := rfl
@[simp] theorem State.withPwr_ref (x : Power) : (s.withPwr x).ref = s.ref := rfl
@[simp] theorem State.withPwr_tbs (x : Power) : (s.withPwr x).tbs = s.tbs := rfl
@[simp] theorem State.withPwr_eth (x : Power) : (s.withPwr x).eth = s.eth := rfl
@[simp] theorem State.withPwr_csc (x : Power) : (s.withPwr x).csc = s.csc := rfl
@[simp] theorem State.withPwr_zk (x : Power) : (s.withPwr x).zk = s.zk := rfl
@[simp] theorem State.withPwr_esc (x : Power) : (s.withPwr x).esc = s.esc := rfl

/-! ## setWin -/

@[simp] theorem State.setWin_pending (n : Nat) (x : Window) : (s.setWin n x).pending = s.pending := rfl
@[simp] theorem State.setWin_mem (n : Nat) (x : Window) : (s.setWin n x).mem = s.mem := rfl
@[simp] theorem State.setWin_regs (n : Nat) (x : Window) : (s.setWin n x).regs = s.regs := rfl
@[simp] theorem State.setWin_next (n : Nat) (x : Window) : (s.setWin n x).next = s.next := rfl
@[simp] theorem State.setWin_live (n : Nat) (x : Window) : (s.setWin n x).live = s.live := rfl
@[simp] theorem State.setWin_marks (n : Nat) (x : Window) : (s.setWin n x).marks = s.marks := rfl
@[simp] theorem State.setWin_ini (n : Nat) (x : Window) : (s.setWin n x).ini = s.ini := rfl
@[simp] theorem State.setWin_freeCtr (n : Nat) (x : Window) : (s.setWin n x).freeCtr = s.freeCtr := rfl
@[simp] theorem State.setWin_sctr (n : Nat) (x : Window) : (s.setWin n x).sctr = s.sctr := rfl
@[simp] theorem State.setWin_started (n : Nat) (x : Window) : (s.setWin n x).started = s.started := rfl
@[simp] theorem State.setWin_sat (n : Nat) (x : Window) : (s.setWin n x).sat = s.sat := rfl
@[simp] theorem State.setWin_tly (n : Nat) (x : Window) : (s.setWin n x).tly = s.tly := rfl
@[simp] theorem State.setWin_memc (n : Nat) (x : Window) : (s.setWin n x).memc = s.memc := rfl
@[simp] theorem State.setWin_mover (n : Nat) (x : Window) : (s.setWin n x).mover = s.mover := rfl
@[simp] theorem State.setWin_queues (n : Nat) (x : Window) : (s.setWin n x).queues = s.queues := rfl
@[simp] theorem State.setWin_cus (n : Nat) (x : Window) : (s.setWin n x).cus = s.cus := rfl
@[simp] theorem State.setWin_evq (n : Nat) (x : Window) : (s.setWin n x).evq = s.evq := rfl
@[simp] theorem State.setWin_evMask (n : Nat) (x : Window) : (s.setWin n x).evMask = s.evMask := rfl
@[simp] theorem State.setWin_subs (n : Nat) (x : Window) : (s.setWin n x).subs = s.subs := rfl
@[simp] theorem State.setWin_evtLost (n : Nat) (x : Window) : (s.setWin n x).evtLost = s.evtLost := rfl
@[simp] theorem State.setWin_msgOut (n : Nat) (x : Window) : (s.setWin n x).msgOut = s.msgOut := rfl
@[simp] theorem State.setWin_eng (n : Nat) (x : Window) : (s.setWin n x).eng = s.eng := rfl
@[simp] theorem State.setWin_engine (n : Nat) (x : Window) : (s.setWin n x).engine = s.engine := rfl
@[simp] theorem State.setWin_fdc (n : Nat) (x : Window) : (s.setWin n x).fdc = s.fdc := rfl
@[simp] theorem State.setWin_mod (n : Nat) (x : Window) : (s.setWin n x).mod = s.mod := rfl
@[simp] theorem State.setWin_mon (n : Nat) (x : Window) : (s.setWin n x).mon = s.mon := rfl
@[simp] theorem State.setWin_sar (n : Nat) (x : Window) : (s.setWin n x).sar = s.sar := rfl
@[simp] theorem State.setWin_ports (n : Nat) (x : Window) : (s.setWin n x).ports = s.ports := rfl
@[simp] theorem State.setWin_ref (n : Nat) (x : Window) : (s.setWin n x).ref = s.ref := rfl
@[simp] theorem State.setWin_tbs (n : Nat) (x : Window) : (s.setWin n x).tbs = s.tbs := rfl
@[simp] theorem State.setWin_eth (n : Nat) (x : Window) : (s.setWin n x).eth = s.eth := rfl
@[simp] theorem State.setWin_csc (n : Nat) (x : Window) : (s.setWin n x).csc = s.csc := rfl
@[simp] theorem State.setWin_esc (n : Nat) (x : Window) : (s.setWin n x).esc = s.esc := rfl
@[simp] theorem State.setWin_pwr (n : Nat) (x : Window) : (s.setWin n x).pwr = s.pwr := rfl

/-! ## withAlarm -/

@[simp] theorem State.withAlarm_pending (x : Alarm) : (s.withAlarm x).pending = s.pending := rfl
@[simp] theorem State.withAlarm_mem (x : Alarm) : (s.withAlarm x).mem = s.mem := rfl
@[simp] theorem State.withAlarm_regs (x : Alarm) : (s.withAlarm x).regs = s.regs := rfl
@[simp] theorem State.withAlarm_next (x : Alarm) : (s.withAlarm x).next = s.next := rfl
@[simp] theorem State.withAlarm_live (x : Alarm) : (s.withAlarm x).live = s.live := rfl
@[simp] theorem State.withAlarm_marks (x : Alarm) : (s.withAlarm x).marks = s.marks := rfl
@[simp] theorem State.withAlarm_ini (x : Alarm) : (s.withAlarm x).ini = s.ini := rfl
@[simp] theorem State.withAlarm_freeCtr (x : Alarm) : (s.withAlarm x).freeCtr = s.freeCtr := rfl
@[simp] theorem State.withAlarm_sctr (x : Alarm) : (s.withAlarm x).sctr = s.sctr := rfl
@[simp] theorem State.withAlarm_started (x : Alarm) : (s.withAlarm x).started = s.started := rfl
@[simp] theorem State.withAlarm_sat (x : Alarm) : (s.withAlarm x).sat = s.sat := rfl
@[simp] theorem State.withAlarm_tly (x : Alarm) : (s.withAlarm x).tly = s.tly := rfl
@[simp] theorem State.withAlarm_memc (x : Alarm) : (s.withAlarm x).memc = s.memc := rfl
@[simp] theorem State.withAlarm_mover (x : Alarm) : (s.withAlarm x).mover = s.mover := rfl
@[simp] theorem State.withAlarm_queues (x : Alarm) : (s.withAlarm x).queues = s.queues := rfl
@[simp] theorem State.withAlarm_cus (x : Alarm) : (s.withAlarm x).cus = s.cus := rfl
@[simp] theorem State.withAlarm_evq (x : Alarm) : (s.withAlarm x).evq = s.evq := rfl
@[simp] theorem State.withAlarm_evMask (x : Alarm) : (s.withAlarm x).evMask = s.evMask := rfl
@[simp] theorem State.withAlarm_subs (x : Alarm) : (s.withAlarm x).subs = s.subs := rfl
@[simp] theorem State.withAlarm_evtLost (x : Alarm) : (s.withAlarm x).evtLost = s.evtLost := rfl
@[simp] theorem State.withAlarm_msgOut (x : Alarm) : (s.withAlarm x).msgOut = s.msgOut := rfl
@[simp] theorem State.withAlarm_eng (x : Alarm) : (s.withAlarm x).eng = s.eng := rfl
@[simp] theorem State.withAlarm_engine (x : Alarm) : (s.withAlarm x).engine = s.engine := rfl
@[simp] theorem State.withAlarm_fdc (x : Alarm) : (s.withAlarm x).fdc = s.fdc := rfl
@[simp] theorem State.withAlarm_mod (x : Alarm) : (s.withAlarm x).mod = s.mod := rfl
@[simp] theorem State.withAlarm_mon (x : Alarm) : (s.withAlarm x).mon = s.mon := rfl
@[simp] theorem State.withAlarm_sar (x : Alarm) : (s.withAlarm x).sar = s.sar := rfl
@[simp] theorem State.withAlarm_ports (x : Alarm) : (s.withAlarm x).ports = s.ports := rfl
@[simp] theorem State.withAlarm_ref (x : Alarm) : (s.withAlarm x).ref = s.ref := rfl
@[simp] theorem State.withAlarm_tbs (x : Alarm) : (s.withAlarm x).tbs = s.tbs := rfl
@[simp] theorem State.withAlarm_eth (x : Alarm) : (s.withAlarm x).eth = s.eth := rfl
@[simp] theorem State.withAlarm_csc (x : Alarm) : (s.withAlarm x).csc = s.csc := rfl
@[simp] theorem State.withAlarm_esc (x : Alarm) : (s.withAlarm x).esc = s.esc := rfl
@[simp] theorem State.withAlarm_pwr (x : Alarm) : (s.withAlarm x).pwr = s.pwr := rfl

end Sys2Proof.Machine
end

