-- ==== Sys2Proof/Laws/Tbl.lean ====
section
/-!
SUPPORT. Reading a table after a write, and the canonical form: every table operation keeps it.
-/

namespace Sys2Proof.Machine

variable {α : Type}

@[simp] theorem Tbl.find_nil (k : Nat) : Tbl.find ([] : Tbl α) k = none := rfl

theorem Tbl.find_put (t : Tbl α) (k j : Nat) (v : α) :
    Tbl.find (Tbl.put t k v) j = if k = j then some v else Tbl.find t j := by
  induction t with
  | nil => simp [Tbl.put, Tbl.find]
  | cons e t ih =>
    obtain ⟨i, w⟩ := e
    simp only [Tbl.put]
    by_cases h1 : k < i
    · simp [h1, Tbl.find]
    · by_cases h2 : k = i
      · subst h2
        by_cases h3 : k = j <;> simp [Tbl.find, h3]
      · simp only [h1, h2, if_false, Tbl.find, ih]
        by_cases h4 : i = j
        · have : k ≠ j := fun e => h2 (e.trans h4.symm)
          simp [h4, this]
        · simp [h4]

theorem Tbl.find_del (t : Tbl α) (k j : Nat) :
    Tbl.find (Tbl.del t k) j = if k = j then none else Tbl.find t j := by
  induction t with
  | nil => simp [Tbl.del, Tbl.find]
  | cons e t ih =>
    obtain ⟨i, w⟩ := e
    simp only [Tbl.del]
    by_cases h : i = k
    · subst h
      simp only [if_true, ih, Tbl.find]
      by_cases h3 : i = j <;> simp [h3]
    · simp only [h, if_false, Tbl.find, ih]
      by_cases h4 : i = j
      · have : k ≠ j := fun e => h (h4.trans e.symm)
        simp [h4, this]
      · simp [h4]

/-- Reading key `j` after writing `v` at key `k`, where the unlisted value is `d` at `k` and `d'` at `j`. -/
theorem Tbl.getD_set [DecidableEq α] (t : Tbl α) (k j : Nat) (v d d' : α) (h : k = j → d = d') :
    Tbl.getD (Tbl.set t k v d) j d' = if k = j then v else Tbl.getD t j d' := by
  unfold Tbl.getD Tbl.set
  by_cases hv : v = d
  · by_cases hk : k = j
    · simp [hv, Tbl.find_del, hk, h hk]
    · simp [hv, Tbl.find_del, hk]
  · by_cases hk : k = j <;> simp [hv, Tbl.find_put, hk]

@[simp] theorem Tbl.getD_set_same [DecidableEq α] (t : Tbl α) (k : Nat) (v d : α) :
    Tbl.getD (Tbl.set t k v d) k d = v := by
  simp [Tbl.getD_set t k k v d d (fun _ => rfl)]

theorem Tbl.getD_set_ne [DecidableEq α] (t : Tbl α) (k j : Nat) (v d d' : α) (h : k ≠ j) :
    Tbl.getD (Tbl.set t k v d) j d' = Tbl.getD t j d' := by
  simp [Tbl.getD_set t k j v d d' (fun e => absurd e h), h]

@[simp] theorem Tbl.getD_nil (k : Nat) (d : α) : Tbl.getD ([] : Tbl α) k d = d := rfl

/-! ## The canonical form -/

theorem Tbl.risesFrom_le {lo lo' : Nat} {t : Tbl α} (h : lo' ≤ lo) (w : Tbl.risesFrom lo t = true) :
    Tbl.risesFrom lo' t = true := by
  cases t with
  | nil => rfl
  | cons e t =>
    simp only [Tbl.risesFrom, Bool.and_eq_true, decide_eq_true_eq] at w ⊢
    exact ⟨Nat.le_trans h w.1, w.2⟩

theorem Tbl.risesFrom_put {lo k : Nat} {t : Tbl α} (v : α) (hk : lo ≤ k) (w : Tbl.risesFrom lo t = true) :
    Tbl.risesFrom lo (Tbl.put t k v) = true := by
  induction t generalizing lo with
  | nil => simp [Tbl.put, Tbl.risesFrom, hk]
  | cons e t ih =>
    obtain ⟨i, x⟩ := e
    simp only [Tbl.risesFrom, Bool.and_eq_true, decide_eq_true_eq] at w
    simp only [Tbl.put]
    by_cases h1 : k < i
    · simp only [h1, if_true, Tbl.risesFrom, Bool.and_eq_true, decide_eq_true_eq]
      exact ⟨hk, Nat.succ_le_of_lt h1, w.2⟩
    · by_cases h2 : k = i
      · subst h2; simp [Tbl.risesFrom, w.1, w.2]
      · simp only [h1, h2, if_false, Tbl.risesFrom, Bool.and_eq_true, decide_eq_true_eq]
        exact ⟨w.1, ih (by omega) w.2⟩

theorem Tbl.risesFrom_del {lo k : Nat} {t : Tbl α} (w : Tbl.risesFrom lo t = true) :
    Tbl.risesFrom lo (Tbl.del t k) = true := by
  induction t generalizing lo with
  | nil => rfl
  | cons e t ih =>
    obtain ⟨i, x⟩ := e
    simp only [Tbl.risesFrom, Bool.and_eq_true, decide_eq_true_eq] at w
    simp only [Tbl.del]
    by_cases h : i = k
    · simp only [h, if_true]
      exact ih (Tbl.risesFrom_le (by omega) w.2)
    · simp only [h, if_false, Tbl.risesFrom, Bool.and_eq_true, decide_eq_true_eq]
      exact ⟨w.1, ih w.2⟩

theorem Tbl.mem_put {t : Tbl α} {k : Nat} {v : α} {e : Nat × α} (h : e ∈ Tbl.put t k v) : e = (k, v) ∨ e ∈ t := by
  induction t with
  | nil => simpa [Tbl.put] using h
  | cons a t ih =>
    obtain ⟨i, x⟩ := a
    simp only [Tbl.put] at h
    split at h
    · simpa using h
    · split at h
      · rcases List.mem_cons.1 h with h | h
        · exact .inl h
        · exact .inr (List.mem_cons_of_mem _ h)
      · rcases List.mem_cons.1 h with h | h
        · exact .inr (by simp [h])
        · rcases ih h with h | h
          · exact .inl h
          · exact .inr (List.mem_cons_of_mem _ h)

theorem Tbl.mem_del {t : Tbl α} {k : Nat} {e : Nat × α} (h : e ∈ Tbl.del t k) : e ∈ t := by
  induction t with
  | nil => simp [Tbl.del] at h
  | cons a t ih =>
    obtain ⟨i, x⟩ := a
    simp only [Tbl.del] at h
    split at h
    · exact List.mem_cons_of_mem _ (ih h)
    · rcases List.mem_cons.1 h with h | h
      · simp [h]
      · exact List.mem_cons_of_mem _ (ih h)

/-- A write keeps the canonical form. -/
theorem Tbl.wf_set [DecidableEq α] {t : Tbl α} {d : α} (k : Nat) (v : α) (w : Tbl.wf t d = true) :
    Tbl.wf (Tbl.set t k v d) d = true := by
  simp only [Tbl.wf, Bool.and_eq_true, List.all_eq_true, decide_eq_true_eq] at w ⊢
  unfold Tbl.set
  split
  · exact ⟨Tbl.risesFrom_del w.1, fun e he => w.2 e (Tbl.mem_del he)⟩
  · rename_i hv
    refine ⟨Tbl.risesFrom_put v (Nat.zero_le _) w.1, fun e he => ?_⟩
    rcases Tbl.mem_put he with h | h
    · simp [h, hv]
    · exact w.2 e h

theorem Tbl.risesFrom_filter {lo : Nat} {t : Tbl α} (p : Nat × α → Bool) (w : Tbl.risesFrom lo t = true) :
    Tbl.risesFrom lo (t.filter p) = true := by
  induction t generalizing lo with
  | nil => rfl
  | cons e t ih =>
    obtain ⟨i, x⟩ := e
    simp only [Tbl.risesFrom, Bool.and_eq_true, decide_eq_true_eq] at w
    simp only [List.filter]
    split
    · simp only [Tbl.risesFrom, Bool.and_eq_true, decide_eq_true_eq]; exact ⟨w.1, ih w.2⟩
    · exact ih (Tbl.risesFrom_le (by omega) w.2)

/-- Dropping entries keeps the canonical form. -/
theorem Tbl.wf_filter [DecidableEq α] {t : Tbl α} {d : α} (p : Nat × α → Bool) (w : Tbl.wf t d = true) :
    Tbl.wf (t.filter p) d = true := by
  simp only [Tbl.wf, Bool.and_eq_true, List.all_eq_true, decide_eq_true_eq] at w ⊢
  exact ⟨Tbl.risesFrom_filter p w.1, fun e he => w.2 e (List.mem_filter.1 he).1⟩

/-- Writing a list of entries keeps the canonical form. -/
theorem Tbl.wf_foldl_set [DecidableEq α] {d : α} (es : List (Nat × α)) {t : Tbl α} (w : Tbl.wf t d = true) :
    Tbl.wf (es.foldl (fun m e => Tbl.set m e.1 e.2 d) t) d = true := by
  induction es generalizing t with
  | nil => exact w
  | cons e es ih => exact ih (Tbl.wf_set _ _ w)

end Sys2Proof.Machine
end

