-- ==== Sys2Proof/Laws/Ops.lean ====
section
/-!
SUPPORT. What the shared operations do: reading back what was written, the canonical form of addressed memory, and what
raising an event leaves alone.
-/

namespace Sys2Proof.Machine

open Sys2Proof

variable (s : State)

/-! ## Registers and parameter sets -/

theorem State.reg_setReg (a b : Nat) (v : Word) : (s.setReg a v).reg b = if a = b then v else s.reg b :=
  Tbl.getD_set _ _ _ _ _ _ (fun h => by rw [h])

@[simp] theorem State.reg_setReg_same (a : Nat) (v : Word) : (s.setReg a v).reg a = v := by
  simp [State.reg_setReg]

theorem State.reg_setReg_ne (a b : Nat) (v : Word) (h : a ≠ b) : (s.setReg a v).reg b = s.reg b := by
  simp [State.reg_setReg, h]

theorem State.iniReg_setIniReg (k j : Nat) (i : Init) (v : Word) :
    (s.setIniReg k i v).iniReg j i = if k = j then v else s.iniReg j i := by
  unfold State.iniReg State.setIniReg
  rw [Tbl.getD_set _ _ _ _ _ _ (fun _ => rfl)]
  by_cases h : k = j
  · simp [h]
  · rw [if_neg (by omega), if_neg h]

theorem State.nxt_setNxt (k j : Nat) (v : Word) : (s.setNxt k v).nxt j = if k = j then v else s.nxt j :=
  Tbl.getD_set _ _ _ _ _ _ (fun h => by rw [h])

theorem State.liv_setLiv (k j : Nat) (v : Word) : (s.setLiv k v).liv j = if k = j then v else s.liv j :=
  Tbl.getD_set _ _ _ _ _ _ (fun h => by rw [h])

/-! ## Addressed memory -/

theorem State.byte_setByte (a b : Nat) (v : Byte) : (s.setByte a v).byte b = if a = b then v else s.byte b :=
  Tbl.getD_set _ _ _ _ _ _ (fun _ => rfl)

/-- What a stored word leaves at every byte address. -/
theorem State.byte_setWord (a b : Nat) (w : Word) : (s.setWord a w).byte b =
    if a ≤ b ∧ b < a + 4 then wordByte w (b - a) else s.byte b := by
  simp only [State.setWord, State.byte_setByte]
  by_cases h3 : a + 3 = b
  · subst h3; simp
  · by_cases h2 : a + 2 = b
    · subst h2; simp
    · by_cases h1 : a + 1 = b
      · subst h1; simp
      · by_cases h0 : a = b
        · subst h0; simp
        · have : ¬(a ≤ b ∧ b < a + 4) := by omega
          simp [h0, h1, h2, h3, this]

theorem State.byte_putWord (a b : Nat) (w : Word) : (s.putWord a w).byte b =
    if a ≤ b ∧ b < a + 4 then wordByte w (b - a) else s.byte b := State.byte_setWord s a b w

theorem State.byte_putWord_ne (a b : Nat) (w : Word) (h : b < a ∨ a + 4 ≤ b) : (s.putWord a w).byte b = s.byte b := by
  rw [State.byte_putWord]
  have : ¬(a ≤ b ∧ b < a + 4) := by omega
  simp [this]

theorem word4_wordByte (w : Word) : word4 (wordByte w 0) (wordByte w 1) (wordByte w 2) (wordByte w 3) = w := by
  apply BitVec.eq_of_toNat_eq
  have h := w.isLt
  simp only [word4, wordByte, Word.ofNat, BitVec.toNat_ofNat, Nat.shiftRight_eq_div_pow]
  omega

/-- A stored word reads back. -/
@[simp] theorem State.word_putWord (a : Nat) (w : Word) : (s.putWord a w).word a = w := by
  have h := word4_wordByte w
  simp only [State.word, State.byte_putWord]
  simp [h]

/-- A word beside the stored one is unchanged. -/
theorem State.word_putWord_ne (a b : Nat) (w : Word) (h : b + 4 ≤ a ∨ a + 4 ≤ b) : (s.putWord a w).word b = s.word b := by
  simp only [State.word]
  rw [State.byte_putWord_ne _ _ _ _ (by omega), State.byte_putWord_ne _ _ _ _ (by omega),
    State.byte_putWord_ne _ _ _ _ (by omega), State.byte_putWord_ne _ _ _ _ (by omega)]

/-! ## The canonical form of memory: every memory operation keeps it -/

theorem State.setByte_wf (a : Nat) (v : Byte) (h : Memory.wf s.mem = true) : Memory.wf (s.setByte a v).mem = true :=
  Tbl.wf_set a v h

theorem State.setWord_wf (a : Nat) (w : Word) (h : Memory.wf s.mem = true) : Memory.wf (s.setWord a w).mem = true :=
  State.setByte_wf _ _ _ (State.setByte_wf _ _ _ (State.setByte_wf _ _ _ (State.setByte_wf _ _ _ h)))

theorem State.setWords_wf {s : State} (ws : List Word) (a : Nat) (h : Memory.wf s.mem = true) :
    Memory.wf (s.setWords a ws).mem = true := by
  induction ws generalizing s a with
  | nil => exact h
  | cons w ws ih => exact ih (a + 4) (State.setWord_wf s a w h)

theorem State.putWord_wf (a : Nat) (w : Word) (h : Memory.wf s.mem = true) : Memory.wf (s.putWord a w).mem = true :=
  State.setWord_wf s a w h

theorem State.putWords_wf {s : State} (ws : List Word) (a : Nat) (h : Memory.wf s.mem = true) :
    Memory.wf (s.putWords a ws).mem = true := by
  induction ws generalizing s a with
  | nil => exact h
  | cons w ws ih => exact ih (a + 4) (State.putWord_wf s a w h)

theorem State.putBytes_wf (a : Nat) (bs : List Byte) (h : Memory.wf s.mem = true) :
    Memory.wf (s.putBytes a bs).mem = true := by
  have key : ∀ (is : List Nat) (t : State), Memory.wf t.mem = true →
      Memory.wf (is.foldl (fun t i => t.setByte (a + i) (bs.getD i 0)) t).mem = true := by
    intro is
    induction is with
    | nil => exact fun t h => h
    | cons i is ih => exact fun t h => ih _ (State.setByte_wf t _ _ h)
  exact key _ s h

/-- Memory right after reset lists nothing, which is the form. -/
theorem State.reset_wf : Memory.wf State.reset.mem = true := rfl

/-! ## Units -/

theorem State.core_setCore (n m : Nat) (x : TCore) : (s.setCore n x).core m = if n = m then x else s.core m :=
  Tbl.getD_set _ _ _ _ _ _ (fun _ => rfl)

@[simp] theorem State.core_setCore_same (n : Nat) (x : TCore) : (s.setCore n x).core n = x := by
  simp [State.core_setCore]

theorem State.queue_setQueue (n m : Nat) (x : Queue) : (s.setQueue n x).queue m = if n = m then x else s.queue m :=
  Tbl.getD_set _ _ _ _ _ _ (fun _ => rfl)

@[simp] theorem State.queue_setQueue_same (n : Nat) (x : Queue) : (s.setQueue n x).queue n = x := by
  simp [State.queue_setQueue]

theorem State.chain_setChain (n m : Nat) (x : Chain) : (s.setChain n x).chain m = if n = m then x else s.chain m :=
  Tbl.getD_set _ _ _ _ _ _ (fun _ => rfl)

@[simp] theorem State.chain_setChain_same (n : Nat) (x : Chain) : (s.setChain n x).chain n = x := by
  simp [State.chain_setChain]

theorem State.br_setBr (n m : Nat) (x : BrCh) : (s.setBr n x).br m = if n = m then x else s.br m :=
  Tbl.getD_set _ _ _ _ _ _ (fun _ => rfl)

@[simp] theorem State.br_setBr_same (n : Nat) (x : BrCh) : (s.setBr n x).br n = x := by
  simp [State.br_setBr]

theorem State.bank_setBank (n m : Nat) (x : Bank) : (s.setBank n x).bank m = if n = m then x else s.bank m :=
  Tbl.getD_set _ _ _ _ _ _ (fun _ => rfl)

@[simp] theorem State.bank_setBank_same (n : Nat) (x : Bank) : (s.setBank n x).bank n = x := by
  simp [State.bank_setBank]

theorem State.monG_setMonG (n m : Nat) (x : MonGroup) : (s.setMonG n x).monG m = if n = m then x else s.monG m :=
  Tbl.getD_set _ _ _ _ _ _ (fun _ => rfl)

@[simp] theorem State.monG_setMonG_same (n : Nat) (x : MonGroup) : (s.setMonG n x).monG n = x := by
  simp [State.monG_setMonG]

theorem State.monC_setMonC (n m : Nat) (x : MonCh) : (s.setMonC n x).monC m = if n = m then x else s.monC m :=
  Tbl.getD_set _ _ _ _ _ _ (fun _ => rfl)

@[simp] theorem State.monC_setMonC_same (n : Nat) (x : MonCh) : (s.setMonC n x).monC n = x := by
  simp [State.monC_setMonC]

theorem State.sinAt_setSin (n m : Nat) (x : Sin) : (s.setSin n x).sinAt m = if n = m then x else s.sinAt m :=
  Tbl.getD_set _ _ _ _ _ _ (fun _ => rfl)

@[simp] theorem State.sinAt_setSin_same (n : Nat) (x : Sin) : (s.setSin n x).sinAt n = x := by
  simp [State.sinAt_setSin]

theorem State.refSlot_setRefSlot (n m : Nat) (x : RefSlot) : (s.setRefSlot n x).refSlot m = if n = m then x else s.refSlot m :=
  Tbl.getD_set _ _ _ _ _ _ (fun _ => rfl)

@[simp] theorem State.refSlot_setRefSlot_same (n : Nat) (x : RefSlot) : (s.setRefSlot n x).refSlot n = x := by
  simp [State.refSlot_setRefSlot]

theorem State.port_setPort (n m : Nat) (x : Port) : (s.setPort n x).port m = if n = m then x else s.port m :=
  Tbl.getD_set _ _ _ _ _ _ (fun _ => rfl)

@[simp] theorem State.port_setPort_same (n : Nat) (x : Port) : (s.setPort n x).port n = x := by
  simp [State.port_setPort]

theorem State.tb_setTb (n m : Nat) (x : TimeBase) : (s.setTb n x).tb m = if n = m then x else s.tb m :=
  Tbl.getD_set _ _ _ _ _ _ (fun _ => rfl)

@[simp] theorem State.tb_setTb_same (n : Nat) (x : TimeBase) : (s.setTb n x).tb n = x := by
  simp [State.tb_setTb]

theorem State.trg_setTrg (n m : Nat) (x : Trigger) : (s.setTrg n x).trg m = if n = m then x else s.trg m :=
  Tbl.getD_set _ _ _ _ _ _ (fun _ => rfl)

@[simp] theorem State.trg_setTrg_same (n : Nat) (x : Trigger) : (s.setTrg n x).trg n = x := by
  simp [State.trg_setTrg]

theorem State.capU_setCap (n m : Nat) (x : Capture) : (s.setCap n x).capU m = if n = m then x else s.capU m :=
  Tbl.getD_set _ _ _ _ _ _ (fun _ => rfl)

@[simp] theorem State.capU_setCap_same (n : Nat) (x : Capture) : (s.setCap n x).capU n = x := by
  simp [State.capU_setCap]

theorem State.txq_setTxq (n m : Nat) (x : TxQueue) : (s.setTxq n x).txq m = if n = m then x else s.txq m :=
  Tbl.getD_set _ _ _ _ _ _ (fun _ => rfl)

@[simp] theorem State.txq_setTxq_same (n : Nat) (x : TxQueue) : (s.setTxq n x).txq n = x := by
  simp [State.txq_setTxq]

theorem State.mac_setMac (n m : Nat) (x : Mac) : (s.setMac n x).mac m = if n = m then x else s.mac m :=
  Tbl.getD_set _ _ _ _ _ _ (fun _ => rfl)

@[simp] theorem State.mac_setMac_same (n : Nat) (x : Mac) : (s.setMac n x).mac n = x := by
  simp [State.mac_setMac]

theorem State.srx_setSrx (n m : Nat) (x : RxStream) : (s.setSrx n x).srx m = if n = m then x else s.srx m :=
  Tbl.getD_set _ _ _ _ _ _ (fun _ => rfl)

@[simp] theorem State.srx_setSrx_same (n : Nat) (x : RxStream) : (s.setSrx n x).srx n = x := by
  simp [State.srx_setSrx]

theorem State.stx_setStx (n m : Nat) (x : TxStream) : (s.setStx n x).stx m = if n = m then x else s.stx m :=
  Tbl.getD_set _ _ _ _ _ _ (fun _ => rfl)

@[simp] theorem State.stx_setStx_same (n : Nat) (x : TxStream) : (s.setStx n x).stx n = x := by
  simp [State.stx_setStx]

theorem State.lane_setLane (n m : Nat) (x : Lane) : (s.setLane n x).lane m = if n = m then x else s.lane m :=
  Tbl.getD_set _ _ _ _ _ _ (fun _ => rfl)

@[simp] theorem State.lane_setLane_same (n : Nat) (x : Lane) : (s.setLane n x).lane n = x := by
  simp [State.lane_setLane]

theorem State.cp_setCp (n m : Nat) (x : CscPort) : (s.setCp n x).cp m = if n = m then x else s.cp m :=
  Tbl.getD_set _ _ _ _ _ _ (fun _ => rfl)

@[simp] theorem State.cp_setCp_same (n : Nat) (x : CscPort) : (s.setCp n x).cp n = x := by
  simp [State.cp_setCp]

theorem State.dma_setDma (n m : Nat) (x : DmaCh) : (s.setDma n x).dma m = if n = m then x else s.dma m :=
  Tbl.getD_set _ _ _ _ _ _ (fun _ => rfl)

@[simp] theorem State.dma_setDma_same (n : Nat) (x : DmaCh) : (s.setDma n x).dma n = x := by
  simp [State.dma_setDma]

theorem State.win_setWin (n m : Nat) (x : Window) : (s.setWin n x).win m = if n = m then x else s.win m :=
  Tbl.getD_set _ _ _ _ _ _ (fun _ => rfl)

@[simp] theorem State.win_setWin_same (n : Nat) (x : Window) : (s.setWin n x).win n = x := by
  simp [State.win_setWin]

theorem State.inS_setInS (n m : Nat) (x : InStrip) : (s.setInS n x).inS m = if n = m then x else s.inS m :=
  Tbl.getD_set _ _ _ _ _ _ (fun _ => rfl)

@[simp] theorem State.inS_setInS_same (n : Nat) (x : InStrip) : (s.setInS n x).inS n = x := by
  simp [State.inS_setInS]

theorem State.ouS_setOuS (n m : Nat) (x : OutStrip) : (s.setOuS n x).ouS m = if n = m then x else s.ouS m :=
  Tbl.getD_set _ _ _ _ _ _ (fun _ => rfl)

@[simp] theorem State.ouS_setOuS_same (n : Nat) (x : OutStrip) : (s.setOuS n x).ouS n = x := by
  simp [State.ouS_setOuS]

theorem State.player_setPlayer (n m : Nat) (x : Player) : (s.setPlayer n x).player m = if n = m then x else s.player m :=
  Tbl.getD_set _ _ _ _ _ _ (fun _ => rfl)

@[simp] theorem State.player_setPlayer_same (n : Nat) (x : Player) : (s.setPlayer n x).player n = x := by
  simp [State.player_setPlayer]

/-! ## Events: what raising one leaves alone -/

theorem State.deliver_only (c n p l k : Nat) :
    ∃ q e, s.deliver c n p l k = { s with evq := q, evtLost := e } := by
  unfold State.deliver
  split
  · exact ⟨_, _, rfl⟩
  · exact ⟨s.evq, s.evtLost, rfl⟩

theorem State.deliverAll_only (c n p l : Nat) :
    ∃ q e, s.deliverAll c n p l = { s with evq := q, evtLost := e } := by
  have key : ∀ (ks : List Nat) (t : State), (∃ q e, t = { s with evq := q, evtLost := e }) →
      ∃ q e, ks.foldl (fun t k => t.deliver c n p l k) t = { s with evq := q, evtLost := e } := by
    intro ks
    induction ks with
    | nil => exact fun t h => h
    | cons k ks ih =>
      rintro t ⟨q, e, rfl⟩
      obtain ⟨q', e', h⟩ := State.deliver_only { s with evq := q, evtLost := e } c n p l k
      exact ih _ ⟨q', e', h⟩
  exact key _ s ⟨s.evq, s.evtLost, rfl⟩

/-- Raising an event changes the event queues, their lost counts, the fault list and the messages to other nodes. -/
theorem State.raise_only (c p : Nat) : ∃ q e f m, s.raise c p =
    { s with evq := q, evtLost := e, zk := { s.zk with alarm := { s.zk.alarm with faults := f } }, msgOut := m } := by
  obtain ⟨q, e, h⟩ := State.deliverAll_only s c s.node p (s.sctr % 2 ^ 32)
  unfold State.raise
  simp only [h]
  split
  · exact ⟨_, _, _, s.msgOut, rfl⟩
  · exact ⟨_, _, _, _, rfl⟩

@[simp] theorem State.raise_pending (c p : Nat) : (s.raise c p).pending = s.pending := by
  obtain ⟨q, e, f, m, h⟩ := State.raise_only s c p; rw [h]

@[simp] theorem State.raise_mem (c p : Nat) : (s.raise c p).mem = s.mem := by
  obtain ⟨q, e, f, m, h⟩ := State.raise_only s c p; rw [h]

@[simp] theorem State.raise_regs (c p : Nat) : (s.raise c p).regs = s.regs := by
  obtain ⟨q, e, f, m, h⟩ := State.raise_only s c p; rw [h]

@[simp] theorem State.raise_next (c p : Nat) : (s.raise c p).next = s.next := by
  obtain ⟨q, e, f, m, h⟩ := State.raise_only s c p; rw [h]

@[simp] theorem State.raise_live (c p : Nat) : (s.raise c p).live = s.live := by
  obtain ⟨q, e, f, m, h⟩ := State.raise_only s c p; rw [h]

@[simp] theorem State.raise_marks (c p : Nat) : (s.raise c p).marks = s.marks := by
  obtain ⟨q, e, f, m, h⟩ := State.raise_only s c p; rw [h]

@[simp] theorem State.raise_ini (c p : Nat) : (s.raise c p).ini = s.ini := by
  obtain ⟨q, e, f, m, h⟩ := State.raise_only s c p; rw [h]

@[simp] theorem State.raise_freeCtr (c p : Nat) : (s.raise c p).freeCtr = s.freeCtr := by
  obtain ⟨q, e, f, m, h⟩ := State.raise_only s c p; rw [h]

@[simp] theorem State.raise_sctr (c p : Nat) : (s.raise c p).sctr = s.sctr := by
  obtain ⟨q, e, f, m, h⟩ := State.raise_only s c p; rw [h]

@[simp] theorem State.raise_started (c p : Nat) : (s.raise c p).started = s.started := by
  obtain ⟨q, e, f, m, h⟩ := State.raise_only s c p; rw [h]

@[simp] theorem State.raise_sat (c p : Nat) : (s.raise c p).sat = s.sat := by
  obtain ⟨q, e, f, m, h⟩ := State.raise_only s c p; rw [h]

@[simp] theorem State.raise_tly (c p : Nat) : (s.raise c p).tly = s.tly := by
  obtain ⟨q, e, f, m, h⟩ := State.raise_only s c p; rw [h]

@[simp] theorem State.raise_memc (c p : Nat) : (s.raise c p).memc = s.memc := by
  obtain ⟨q, e, f, m, h⟩ := State.raise_only s c p; rw [h]

@[simp] theorem State.raise_mover (c p : Nat) : (s.raise c p).mover = s.mover := by
  obtain ⟨q, e, f, m, h⟩ := State.raise_only s c p; rw [h]

@[simp] theorem State.raise_queues (c p : Nat) : (s.raise c p).queues = s.queues := by
  obtain ⟨q, e, f, m, h⟩ := State.raise_only s c p; rw [h]

@[simp] theorem State.raise_cus (c p : Nat) : (s.raise c p).cus = s.cus := by
  obtain ⟨q, e, f, m, h⟩ := State.raise_only s c p; rw [h]

@[simp] theorem State.raise_evMask (c p : Nat) : (s.raise c p).evMask = s.evMask := by
  obtain ⟨q, e, f, m, h⟩ := State.raise_only s c p; rw [h]

@[simp] theorem State.raise_subs (c p : Nat) : (s.raise c p).subs = s.subs := by
  obtain ⟨q, e, f, m, h⟩ := State.raise_only s c p; rw [h]

@[simp] theorem State.raise_eng (c p : Nat) : (s.raise c p).eng = s.eng := by
  obtain ⟨q, e, f, m, h⟩ := State.raise_only s c p; rw [h]

@[simp] theorem State.raise_engine (c p : Nat) : (s.raise c p).engine = s.engine := by
  obtain ⟨q, e, f, m, h⟩ := State.raise_only s c p; rw [h]

@[simp] theorem State.raise_fdc (c p : Nat) : (s.raise c p).fdc = s.fdc := by
  obtain ⟨q, e, f, m, h⟩ := State.raise_only s c p; rw [h]

@[simp] theorem State.raise_mod (c p : Nat) : (s.raise c p).mod = s.mod := by
  obtain ⟨q, e, f, m, h⟩ := State.raise_only s c p; rw [h]

@[simp] theorem State.raise_mon (c p : Nat) : (s.raise c p).mon = s.mon := by
  obtain ⟨q, e, f, m, h⟩ := State.raise_only s c p; rw [h]

@[simp] theorem State.raise_sar (c p : Nat) : (s.raise c p).sar = s.sar := by
  obtain ⟨q, e, f, m, h⟩ := State.raise_only s c p; rw [h]

@[simp] theorem State.raise_ports (c p : Nat) : (s.raise c p).ports = s.ports := by
  obtain ⟨q, e, f, m, h⟩ := State.raise_only s c p; rw [h]

@[simp] theorem State.raise_ref (c p : Nat) : (s.raise c p).ref = s.ref := by
  obtain ⟨q, e, f, m, h⟩ := State.raise_only s c p; rw [h]

@[simp] theorem State.raise_tbs (c p : Nat) : (s.raise c p).tbs = s.tbs := by
  obtain ⟨q, e, f, m, h⟩ := State.raise_only s c p; rw [h]

@[simp] theorem State.raise_eth (c p : Nat) : (s.raise c p).eth = s.eth := by
  obtain ⟨q, e, f, m, h⟩ := State.raise_only s c p; rw [h]

@[simp] theorem State.raise_csc (c p : Nat) : (s.raise c p).csc = s.csc := by
  obtain ⟨q, e, f, m, h⟩ := State.raise_only s c p; rw [h]

@[simp] theorem State.raise_esc (c p : Nat) : (s.raise c p).esc = s.esc := by
  obtain ⟨q, e, f, m, h⟩ := State.raise_only s c p; rw [h]

@[simp] theorem State.raise_pwr (c p : Nat) : (s.raise c p).pwr = s.pwr := by
  obtain ⟨q, e, f, m, h⟩ := State.raise_only s c p; rw [h]

@[simp] theorem State.raiseIf_pending (b : Bool) (c p : Nat) : (s.raiseIf b c p).pending = s.pending := by
  cases b <;> simp [State.raiseIf]

@[simp] theorem State.raiseIf_mem (b : Bool) (c p : Nat) : (s.raiseIf b c p).mem = s.mem := by
  cases b <;> simp [State.raiseIf]

@[simp] theorem State.raiseIf_regs (b : Bool) (c p : Nat) : (s.raiseIf b c p).regs = s.regs := by
  cases b <;> simp [State.raiseIf]

@[simp] theorem State.raiseIf_next (b : Bool) (c p : Nat) : (s.raiseIf b c p).next = s.next := by
  cases b <;> simp [State.raiseIf]

@[simp] theorem State.raiseIf_live (b : Bool) (c p : Nat) : (s.raiseIf b c p).live = s.live := by
  cases b <;> simp [State.raiseIf]

@[simp] theorem State.raiseIf_marks (b : Bool) (c p : Nat) : (s.raiseIf b c p).marks = s.marks := by
  cases b <;> simp [State.raiseIf]

@[simp] theorem State.raiseIf_ini (b : Bool) (c p : Nat) : (s.raiseIf b c p).ini = s.ini := by
  cases b <;> simp [State.raiseIf]

@[simp] theorem State.raiseIf_freeCtr (b : Bool) (c p : Nat) : (s.raiseIf b c p).freeCtr = s.freeCtr := by
  cases b <;> simp [State.raiseIf]

@[simp] theorem State.raiseIf_sctr (b : Bool) (c p : Nat) : (s.raiseIf b c p).sctr = s.sctr := by
  cases b <;> simp [State.raiseIf]

@[simp] theorem State.raiseIf_started (b : Bool) (c p : Nat) : (s.raiseIf b c p).started = s.started := by
  cases b <;> simp [State.raiseIf]

@[simp] theorem State.raiseIf_sat (b : Bool) (c p : Nat) : (s.raiseIf b c p).sat = s.sat := by
  cases b <;> simp [State.raiseIf]

@[simp] theorem State.raiseIf_tly (b : Bool) (c p : Nat) : (s.raiseIf b c p).tly = s.tly := by
  cases b <;> simp [State.raiseIf]

@[simp] theorem State.raiseIf_memc (b : Bool) (c p : Nat) : (s.raiseIf b c p).memc = s.memc := by
  cases b <;> simp [State.raiseIf]

@[simp] theorem State.raiseIf_mover (b : Bool) (c p : Nat) : (s.raiseIf b c p).mover = s.mover := by
  cases b <;> simp [State.raiseIf]

@[simp] theorem State.raiseIf_queues (b : Bool) (c p : Nat) : (s.raiseIf b c p).queues = s.queues := by
  cases b <;> simp [State.raiseIf]

@[simp] theorem State.raiseIf_cus (b : Bool) (c p : Nat) : (s.raiseIf b c p).cus = s.cus := by
  cases b <;> simp [State.raiseIf]

@[simp] theorem State.raiseIf_evMask (b : Bool) (c p : Nat) : (s.raiseIf b c p).evMask = s.evMask := by
  cases b <;> simp [State.raiseIf]

@[simp] theorem State.raiseIf_subs (b : Bool) (c p : Nat) : (s.raiseIf b c p).subs = s.subs := by
  cases b <;> simp [State.raiseIf]

@[simp] theorem State.raiseIf_eng (b : Bool) (c p : Nat) : (s.raiseIf b c p).eng = s.eng := by
  cases b <;> simp [State.raiseIf]

@[simp] theorem State.raiseIf_engine (b : Bool) (c p : Nat) : (s.raiseIf b c p).engine = s.engine := by
  cases b <;> simp [State.raiseIf]

@[simp] theorem State.raiseIf_fdc (b : Bool) (c p : Nat) : (s.raiseIf b c p).fdc = s.fdc := by
  cases b <;> simp [State.raiseIf]

@[simp] theorem State.raiseIf_mod (b : Bool) (c p : Nat) : (s.raiseIf b c p).mod = s.mod := by
  cases b <;> simp [State.raiseIf]

@[simp] theorem State.raiseIf_mon (b : Bool) (c p : Nat) : (s.raiseIf b c p).mon = s.mon := by
  cases b <;> simp [State.raiseIf]

@[simp] theorem State.raiseIf_sar (b : Bool) (c p : Nat) : (s.raiseIf b c p).sar = s.sar := by
  cases b <;> simp [State.raiseIf]

@[simp] theorem State.raiseIf_ports (b : Bool) (c p : Nat) : (s.raiseIf b c p).ports = s.ports := by
  cases b <;> simp [State.raiseIf]

@[simp] theorem State.raiseIf_ref (b : Bool) (c p : Nat) : (s.raiseIf b c p).ref = s.ref := by
  cases b <;> simp [State.raiseIf]

@[simp] theorem State.raiseIf_tbs (b : Bool) (c p : Nat) : (s.raiseIf b c p).tbs = s.tbs := by
  cases b <;> simp [State.raiseIf]

@[simp] theorem State.raiseIf_eth (b : Bool) (c p : Nat) : (s.raiseIf b c p).eth = s.eth := by
  cases b <;> simp [State.raiseIf]

@[simp] theorem State.raiseIf_csc (b : Bool) (c p : Nat) : (s.raiseIf b c p).csc = s.csc := by
  cases b <;> simp [State.raiseIf]

@[simp] theorem State.raiseIf_esc (b : Bool) (c p : Nat) : (s.raiseIf b c p).esc = s.esc := by
  cases b <;> simp [State.raiseIf]

@[simp] theorem State.raiseIf_pwr (b : Bool) (c p : Nat) : (s.raiseIf b c p).pwr = s.pwr := by
  cases b <;> simp [State.raiseIf]

@[simp] theorem State.setSat_pending (b : Bool) (k : Nat) : (s.setSat b k).pending = s.pending := by
  cases b <;> rfl

@[simp] theorem State.setSat_mem (b : Bool) (k : Nat) : (s.setSat b k).mem = s.mem := by
  cases b <;> rfl

@[simp] theorem State.setSat_regs (b : Bool) (k : Nat) : (s.setSat b k).regs = s.regs := by
  cases b <;> rfl

@[simp] theorem State.setSat_next (b : Bool) (k : Nat) : (s.setSat b k).next = s.next := by
  cases b <;> rfl

@[simp] theorem State.setSat_live (b : Bool) (k : Nat) : (s.setSat b k).live = s.live := by
  cases b <;> rfl

@[simp] theorem State.setSat_marks (b : Bool) (k : Nat) : (s.setSat b k).marks = s.marks := by
  cases b <;> rfl

@[simp] theorem State.setSat_ini (b : Bool) (k : Nat) : (s.setSat b k).ini = s.ini := by
  cases b <;> rfl

@[simp] theorem State.setSat_freeCtr (b : Bool) (k : Nat) : (s.setSat b k).freeCtr = s.freeCtr := by
  cases b <;> rfl

@[simp] theorem State.setSat_sctr (b : Bool) (k : Nat) : (s.setSat b k).sctr = s.sctr := by
  cases b <;> rfl

@[simp] theorem State.setSat_started (b : Bool) (k : Nat) : (s.setSat b k).started = s.started := by
  cases b <;> rfl

@[simp] theorem State.setSat_tly (b : Bool) (k : Nat) : (s.setSat b k).tly = s.tly := by
  cases b <;> rfl

@[simp] theorem State.setSat_memc (b : Bool) (k : Nat) : (s.setSat b k).memc = s.memc := by
  cases b <;> rfl

@[simp] theorem State.setSat_mover (b : Bool) (k : Nat) : (s.setSat b k).mover = s.mover := by
  cases b <;> rfl

@[simp] theorem State.setSat_queues (b : Bool) (k : Nat) : (s.setSat b k).queues = s.queues := by
  cases b <;> rfl

@[simp] theorem State.setSat_cus (b : Bool) (k : Nat) : (s.setSat b k).cus = s.cus := by
  cases b <;> rfl

@[simp] theorem State.setSat_evq (b : Bool) (k : Nat) : (s.setSat b k).evq = s.evq := by
  cases b <;> rfl

@[simp] theorem State.setSat_evMask (b : Bool) (k : Nat) : (s.setSat b k).evMask = s.evMask := by
  cases b <;> rfl

@[simp] theorem State.setSat_subs (b : Bool) (k : Nat) : (s.setSat b k).subs = s.subs := by
  cases b <;> rfl

@[simp] theorem State.setSat_evtLost (b : Bool) (k : Nat) : (s.setSat b k).evtLost = s.evtLost := by
  cases b <;> rfl

@[simp] theorem State.setSat_msgOut (b : Bool) (k : Nat) : (s.setSat b k).msgOut = s.msgOut := by
  cases b <;> rfl

@[simp] theorem State.setSat_eng (b : Bool) (k : Nat) : (s.setSat b k).eng = s.eng := by
  cases b <;> rfl

@[simp] theorem State.setSat_engine (b : Bool) (k : Nat) : (s.setSat b k).engine = s.engine := by
  cases b <;> rfl

@[simp] theorem State.setSat_fdc (b : Bool) (k : Nat) : (s.setSat b k).fdc = s.fdc := by
  cases b <;> rfl

@[simp] theorem State.setSat_mod (b : Bool) (k : Nat) : (s.setSat b k).mod = s.mod := by
  cases b <;> rfl

@[simp] theorem State.setSat_mon (b : Bool) (k : Nat) : (s.setSat b k).mon = s.mon := by
  cases b <;> rfl

@[simp] theorem State.setSat_sar (b : Bool) (k : Nat) : (s.setSat b k).sar = s.sar := by
  cases b <;> rfl

@[simp] theorem State.setSat_ports (b : Bool) (k : Nat) : (s.setSat b k).ports = s.ports := by
  cases b <;> rfl

@[simp] theorem State.setSat_ref (b : Bool) (k : Nat) : (s.setSat b k).ref = s.ref := by
  cases b <;> rfl

@[simp] theorem State.setSat_tbs (b : Bool) (k : Nat) : (s.setSat b k).tbs = s.tbs := by
  cases b <;> rfl

@[simp] theorem State.setSat_eth (b : Bool) (k : Nat) : (s.setSat b k).eth = s.eth := by
  cases b <;> rfl

@[simp] theorem State.setSat_csc (b : Bool) (k : Nat) : (s.setSat b k).csc = s.csc := by
  cases b <;> rfl

@[simp] theorem State.setSat_zk (b : Bool) (k : Nat) : (s.setSat b k).zk = s.zk := by
  cases b <;> rfl

@[simp] theorem State.setSat_esc (b : Bool) (k : Nat) : (s.setSat b k).esc = s.esc := by
  cases b <;> rfl

@[simp] theorem State.setSat_pwr (b : Bool) (k : Nat) : (s.setSat b k).pwr = s.pwr := by
  cases b <;> rfl

/-! ## Delay buffers, the self-test's fill, the mover's turn, SCTR reads -/

@[simp] theorem State.eccSeen_mem (a : Nat) : (s.eccSeen a).mem = s.mem := by
  unfold State.eccSeen State.eccRecord
  repeat' split
  all_goals first | rfl | simp

@[simp] theorem State.eccRead_mem (a : Nat) : (s.eccRead a).mem = s.mem := by simp [State.eccRead]

theorem dlyStep_wf (l : DlyBuf) (d n fill : Nat) (x : Int) (h : Memory.wf s.mem = true) :
    Memory.wf (dlyStep l d n fill x s).2.mem = true := by
  have hw : Memory.wf (if l.addr n < l.top then s.putWord (l.addr n) (Word.ofInt x) else s).mem = true := by
    split
    · exact State.putWord_wf s _ _ h
    · exact h
  unfold dlyStep
  generalize (if l.addr n < l.top then s.putWord (l.addr n) (Word.ofInt x) else s) = t at hw
  dsimp only
  split
  · exact hw
  · split <;> simpa using hw

theorem dlyBlock_wf (l : DlyBuf) (d n fill : Nat) (xs : List Int) (h : Memory.wf s.mem = true) :
    Memory.wf (dlyBlock l d n fill xs s).2.2.mem = true := by
  induction xs generalizing n fill s with
  | nil => exact h
  | cons x xs ih => exact ih _ _ _ (dlyStep_wf _ l d n fill x h)

theorem sramFill_wf (h : Memory.wf s.mem = true) : Memory.wf (sramFill s).mem = true := Tbl.wf_filter _ h

/-- While a descriptor runs, the mover takes no other. -/
theorem dmaServe_busy (n c : Nat) (h : s.mover.cur = some c) : dmaServe n s = s := by
  cases n <;> simp [dmaServe, h]

/-- A read of SCTR changes the reader's holding registers and the place in the block that SCTR has reached. -/
theorem sctrServe_only (i : Init) (v : Nat) :
    sctrServe i v s = { s with ini := (sctrServe i v s).ini, engine := { s.engine with pos := v - s.sctr } } := rfl

/-- A tone whose ramp is at 0 adds nothing. -/
@[simp] theorem toneAdd_off (th : Nat) (amp : Word) : toneAdd th amp 0 = 0 := rfl

end Sys2Proof.Machine
end

