-- ==== Sys2Proof/Laws/Tally.lean ====
section
/-!
SUPPORT. What issuing a Tally instruction does: the fetch leaves the core as its results retire, and results in flight
retire in order, the later-issued last.
-/

namespace Sys2Proof.Machine

open Sys2Proof

/-! ## The fetch -/

theorem State.eccRecord_tly (s : State) (a : Nat) (u : Bool) : (s.eccRecord a u).tly = s.tly := by
  unfold State.eccRecord; cases u <;> simp

theorem State.eccSeen_tly (s : State) (a : Nat) : (s.eccSeen a).tly = s.tly := by
  unfold State.eccSeen; split
  · rfl
  · exact State.eccRecord_tly s a _

theorem mastersAfter_tly (c : Nat) (s : State) : (mastersAfter c s).tly = s.tly := by
  unfold mastersAfter; split <;> rfl

theorem writeSeal_tly (z : Seal) (s : State) : (writeSeal z s).tly = s.tly := rfl

theorem giveUp_tly (c f : Nat) (s : State) : (giveUp c f s).tly = s.tly := by
  unfold giveUp; split
  · exact (mastersAfter_tly _ _).trans rfl
  · rfl

/-- The core an instruction reads: the one whose due results have retired. -/
theorem fetched_core (k j : Nat) (s : State) : (fetched k s).core j = if k = j then (s.core k).retire else s.core j := by
  have h : (fetched k s).tly = (s.setCore k (s.core k).retire).tly := by
    unfold fetched
    simp only []
    split
    · rw [giveUp_tly, State.eccSeen_tly]
    · rw [State.eccSeen_tly]
  have e : (fetched k s).core j = (s.setCore k (s.core k).retire).core j :=
    congrArg (fun x : Tally => Tbl.getD x.cores j ({} : TCore)) h
  rw [e, State.core_setCore]

@[simp] theorem fetched_core_same (k : Nat) (s : State) : (fetched k s).core k = (s.core k).retire := by
  simp [fetched_core]

/-! ## Banks -/

@[simp] theorem TCore.bank_setBank (c : TCore) (h g : Bool) (b : TBank) :
    (c.setBank h b).bank g = if h = g then b else c.bank g := by
  cases h <;> cases g <;> rfl

/-! ## Results in flight -/

/-- Retiring touches the two banks and the list of results alone. -/
theorem retireList_only (n : Nat) (fl : List TFlight) (c : TCore) :
    ∃ m h f, retireList n fl c = { c with main := m, shadow := h, flight := f } := by
  induction fl generalizing c with
  | nil => exact ⟨c.main, c.shadow, [], rfl⟩
  | cons g fl ih =>
    unfold retireList
    split
    · obtain ⟨m, h, f, e⟩ := ih (c.setBank g.shadow ((c.bank g.shadow).apply g.res))
      rw [e]
      cases hg : g.shadow <;> exact ⟨m, h, f, rfl⟩
    · exact ⟨c.main, c.shadow, g :: fl, rfl⟩

@[simp] theorem TCore.retire_inShadow (c : TCore) : c.retire.inShadow = c.inShadow := by
  obtain ⟨m, h, f, e⟩ := retireList_only c.cyc c.flight c
  unfold TCore.retire; rw [e]; rfl

/-- A bank once `n` cycles' results have retired, from a list of results. -/
def bankAfter (n : Nat) (fl : List TFlight) (h : Bool) (b : TBank) : TBank :=
  match fl with
  | [] => b
  | f :: t => if f.due ≤ n then bankAfter n t h (if f.shadow = h then b.apply f.res else b) else b

theorem retireList_bank (n : Nat) (fl : List TFlight) (c : TCore) (h : Bool) :
    (retireList n fl c).bank h = bankAfter n fl h (c.bank h) := by
  induction fl generalizing c with
  | nil => cases h <;> rfl
  | cons f t ih =>
    unfold retireList bankAfter
    split
    · rw [ih]
      congr 1
      rw [TCore.bank_setBank]
      split
      · rename_i e; rw [e]
      · rfl
    · cases h <;> rfl

/-- A result that is not due by `n` changes nothing a bank shows at `n`. -/
theorem bankAfter_insert_late (n : Nat) (f : TFlight) (fl : List TFlight) (h : Bool) (b : TBank) (hf : n < f.due) :
    bankAfter n (flightInsert f fl) h b = bankAfter n fl h b := by
  induction fl generalizing b with
  | nil => simp [flightInsert, bankAfter]; omega
  | cons g t ih =>
    unfold flightInsert
    split
    · unfold bankAfter
      split
      · exact ih _
      · rfl
    · rename_i hg
      have h1 : ¬ f.due ≤ n := by omega
      have h2 : ¬ g.due ≤ n := by omega
      simp [bankAfter, h1, h2]

/-- A result due at `n` retires last of those due by `n`. -/
theorem bankAfter_insert_due (n : Nat) (f : TFlight) (fl : List TFlight) (h : Bool) (b : TBank) (hf : f.due = n) :
    bankAfter n (flightInsert f fl) h b =
      if f.shadow = h then (bankAfter n fl h b).apply f.res else bankAfter n fl h b := by
  induction fl generalizing b with
  | nil => simp [flightInsert, bankAfter, hf]
  | cons g t ih =>
    unfold flightInsert
    split
    · rename_i hg
      have : g.due ≤ n := by omega
      simp only [bankAfter, this, if_true]
      exact ih _
    · rename_i hg
      have h1 : f.due ≤ n := by omega
      have h2 : ¬ g.due ≤ n := by omega
      simp [bankAfter, h1, h2]

/-! ## One instruction against a NOP -/

theorem TCore.setBank_flight (c : TCore) (fl : List TFlight) (h : Bool) (b : TBank) :
    (c.withFlight fl).setBank h b = (c.setBank h b).withFlight fl := by cases h <;> rfl

theorem TCore.ticks_flight (c : TCore) (fl : List TFlight) (n : Nat) :
    (c.withFlight fl).ticks n = (c.ticks n).withFlight fl := rfl

theorem loopAdvance_flight (c : TCore) (fl : List TFlight) :
    loopAdvance (c.withFlight fl) = (loopAdvance c).withFlight fl := by
  have e (h : Bool) : (c.withFlight fl).bank h = c.bank h := rfl
  have p : (c.withFlight fl).pc = c.pc := rfl
  have q : (c.withFlight fl).inShadow = c.inShadow := rfl
  unfold loopAdvance
  simp only [e, p, q, TCore.setBank_flight]
  generalize c.bank c.inShadow = b
  by_cases h0 : b.loopN = 0 ∨ c.pc ≠ b.loopHi
  · rw [if_pos h0, if_pos h0]; rfl
  · by_cases h1 : b.loopN = 1
    · rw [if_neg h0, if_neg h0, if_pos h1, if_pos h1]; rfl
    · rw [if_neg h0, if_neg h0, if_neg h1, if_neg h1]; rfl

theorem delayAdvance_flight (c : TCore) (fl : List TFlight) (d : TDelay) :
    delayAdvance (c.withFlight fl) d = (delayAdvance c d).withFlight fl := by
  unfold delayAdvance
  by_cases h0 : 1 < d.left
  · rw [if_pos h0, if_pos h0]; rfl
  · cases h1 : d.rti
    · rw [if_neg h0, if_neg h0]; rfl
    · rw [if_neg h0, if_neg h0]; rfl

/-- Where the core goes after an instruction does not depend on the results in flight. -/
theorem gotoNext_flight (c : TCore) (fl : List TFlight) (g : TGoto) :
    gotoNext (c.withFlight fl) g = (gotoNext c g).withFlight fl := by
  cases g with
  | jump t r => rfl
  | skip n => rfl
  | seq =>
    have e : (c.withFlight fl).delay = c.delay := rfl
    unfold gotoNext
    simp only [e]
    cases c.delay with
    | none => exact loopAdvance_flight c fl
    | some d => exact delayAdvance_flight c fl d

/-- An instruction that changes no bank at issue leaves the core as a NOP does, but for its results in flight. -/
theorem issue_results (c : TCore) (rs : List (Nat × TResult)) :
    c.issue { bank := c.bank c.inShadow, results := rs } =
      (c.issue { bank := c.bank c.inShadow }).withFlight (launchOn c.cyc c.inShadow rs c.flight) := by
  have e (b : TBank) : (c.setBank c.inShadow b).launch rs =
      ((c.setBank c.inShadow b).launch []).withFlight (launchOn c.cyc c.inShadow rs c.flight) := by
    have h1 : (c.setBank c.inShadow b).cyc = c.cyc := by unfold TCore.setBank; split <;> rfl
    have h2 : (c.setBank c.inShadow b).inShadow = c.inShadow := by
      have : (c.setBank c.inShadow b).st = c.st := by unfold TCore.setBank; split <;> rfl
      unfold TCore.inShadow at this ⊢; rw [this]
    have h3 : (c.setBank c.inShadow b).flight = c.flight := by unfold TCore.setBank; split <;> rfl
    unfold TCore.launch
    rw [h1, h2, h3]; rfl
  unfold TCore.issue
  rw [e, TCore.ticks_flight, gotoNext_flight]

theorem launchOn_late (cyc : Nat) (sh : Bool) (n : Nat) (rs : List (Nat × TResult)) (h : ∀ r ∈ rs, n < cyc + r.1)
    (fl : List TFlight) (g : Bool) (b : TBank) :
    bankAfter n (launchOn cyc sh rs fl) g b = bankAfter n fl g b := by
  unfold launchOn
  induction rs generalizing fl with
  | nil => rfl
  | cons r rs ih =>
    rw [List.foldl_cons, ih (fun x hx => h x (List.mem_cons_of_mem _ hx))]
    exact bankAfter_insert_late n _ fl g b (h r (List.mem_cons_self))

theorem launchOn_due (cyc : Nat) (sh : Bool) (n : Nat) (rs : List (Nat × TResult)) (h : ∀ r ∈ rs, cyc + r.1 = n)
    (fl : List TFlight) (b : TBank) :
    bankAfter n (launchOn cyc sh rs fl) sh b = rs.foldl (fun b r => b.apply r.2) (bankAfter n fl sh b) := by
  unfold launchOn
  induction rs generalizing fl with
  | nil => rfl
  | cons r rs ih =>
    rw [List.foldl_cons, List.foldl_cons, ih (fun x hx => h x (List.mem_cons_of_mem _ hx))]
    rw [bankAfter_insert_due n _ fl sh b (h r (List.mem_cons_self))]
    simp

theorem State.bankIn_eq (s : State) (k : Nat) (h : Bool) (n : Nat) :
    s.bankIn k h n = bankAfter ((s.core k).cyc + n) (s.core k).flight h ((s.core k).bank h) := by
  unfold State.bankIn; rw [retireList_bank]

theorem runCore_next (k : Nat) (f : TBank → TEffect) (s : State) (h : canIssue k s = true) :
    runCore k f s = (fetched k s).setCore k ((s.core k).retire.issue (f ((s.core k).retire.bank (s.core k).inShadow))) := by
  unfold runCore
  rw [if_pos h]
  simp only [fetched_core_same, TCore.retire_inShadow]

theorem setCore_only (k : Nat) (s : State) (c : TCore) : OnlyCore k s (s.setCore k c) :=
  ⟨rfl, rfl, fun j hj => by rw [State.core_setCore, if_neg (fun e => hj e.symm)]⟩

theorem setCore_onlyCore (k : Nat) (s : State) (c d : TCore) : OnlyCore k (s.setCore k c) (s.setCore k d) :=
  ⟨rfl, rfl, fun j hj => by rw [State.core_setCore, State.core_setCore, if_neg (fun e => hj e.symm), if_neg (fun e => hj e.symm)]⟩

theorem atPc_cyc (c : TCore) (p : Nat) : (c.atPc p).cyc = c.cyc ∧ (c.atPc p).flight = c.flight := ⟨rfl, rfl⟩

theorem setBank_keeps (c : TCore) (h : Bool) (b : TBank) : (c.setBank h b).cyc = c.cyc ∧ (c.setBank h b).flight = c.flight := by
  cases h <;> exact ⟨rfl, rfl⟩

theorem gotoNext_keeps (c : TCore) (g : TGoto) : (gotoNext c g).cyc = c.cyc ∧ (gotoNext c g).flight = c.flight := by
  cases g with
  | jump t r => exact ⟨rfl, rfl⟩
  | skip n => exact ⟨rfl, rfl⟩
  | seq =>
    unfold gotoNext
    cases c.delay with
    | none =>
      unfold loopAdvance
      generalize c.bank c.inShadow = b
      simp only []
      by_cases h0 : b.loopN = 0 ∨ c.pc ≠ b.loopHi
      · rw [if_pos h0]; exact ⟨rfl, rfl⟩
      · by_cases h1 : b.loopN = 1
        · rw [if_neg h0, if_pos h1]; exact setBank_keeps _ _ _
        · rw [if_neg h0, if_neg h1]; exact setBank_keeps _ _ _
    | some d =>
      show (delayAdvance c d).cyc = _ ∧ (delayAdvance c d).flight = _
      unfold delayAdvance
      by_cases h0 : 1 < d.left
      · rw [if_pos h0]; exact ⟨rfl, rfl⟩
      · cases h1 : d.rti <;> (rw [if_neg h0]; exact ⟨rfl, rfl⟩)

theorem issue_keeps (c : TCore) (b : TBank) (g : TGoto) : (c.issue { bank := b, goto := g }).cyc = c.cyc + 1 ∧
    (c.issue { bank := b, goto := g }).flight = c.flight := by
  unfold TCore.issue
  have h := gotoNext_keeps (((c.setBank c.inShadow b).launch []).ticks 1) g
  have k := setBank_keeps c c.inShadow b
  exact ⟨h.1.trans (congrArg (· + 1) k.1), h.2.trans k.2⟩

theorem delivers_of (i : Instr) (core : Fin 64) (s : State) (lat : Nat) (hl : 0 < lat) (rs : TBank → List (Nat × TResult)) (w : TBank → Delivery)
    (hc : canIssue core s = true)
    (hi : exec i s = .next (runCore core (fun b => { bank := b, results := rs b }) s))
    (hr : ∀ r ∈ rs (s.tbank core), r.1 = lat)
    (hw : ∀ b0, let b := (rs (s.tbank core)).foldl (fun b r => b.apply r.2) b0
      { b with d := b0.d, a := b0.a, st := b0.st } = b0 ∧
      (∀ r, b.dr r = given (w b0).d r (b0.dr r)) ∧ (∀ r, b.ar r = given (w b0).a r (b0.ar r)) ∧
      ∀ j, j < 32 → b.st.bit j = given (w b0).st j (b0.st.bit j)) :
    Delivers i core s lat w := by
  have e (f) := runCore_next core f s hc
  refine ⟨_, _, hi, rfl, ?_, ?_⟩
  · rw [e, e]
    refine ⟨setCore_onlyCore _ _ _ _, ?_⟩
    simp only [State.core_setCore_same]
    rw [← TCore.retire_inShadow, issue_results]
    rfl
  · have key : ∀ n, ((runCore core (fun b => { bank := b, results := rs b }) s).bankIn core (s.core core).inShadow n =
        bankAfter ((s.core core).retire.cyc + 1 + n) (launchOn (s.core core).retire.cyc (s.core core).inShadow (rs (s.tbank core)) (s.core core).retire.flight)
          (s.core core).inShadow (((s.core core).retire.issue { bank := (s.core core).retire.bank (s.core core).retire.inShadow }).bank (s.core core).inShadow)) ∧
        ((runCore core (fun b => { bank := b }) s).bankIn core (s.core core).inShadow n =
        bankAfter ((s.core core).retire.cyc + 1 + n) (s.core core).retire.flight
          (s.core core).inShadow (((s.core core).retire.issue { bank := (s.core core).retire.bank (s.core core).retire.inShadow }).bank (s.core core).inShadow)) := by
      intro n
      rw [e, e, State.bankIn_eq, State.bankIn_eq]
      simp only [State.core_setCore_same]
      have k := issue_keeps (s.core core).retire ((s.core core).retire.bank (s.core core).inShadow) .seq
      constructor
      · rw [← TCore.retire_inShadow, issue_results]
        rw [← TCore.retire_inShadow] at k
        show bankAfter (TCore.cyc (TCore.issue _ _) + n) _ _ (TCore.bank (TCore.issue _ _) _) = _
        rw [k.1, TCore.retire_inShadow]
        rfl
      · rw [k.1, k.2, TCore.retire_inShadow]
    constructor
    · intro n hn
      rw [(key n).1]
      refine (launchOn_late _ _ _ _ ?_ _ _ _).trans (key n).2.symm
      intro r h; rw [hr r h]; omega
    · simp only []
      rw [(key _).1]
      have := launchOn_due (s.core core).retire.cyc (s.core core).inShadow ((s.core core).retire.cyc + 1 + (lat - 1)) (rs (s.tbank core)) (fun r h => by rw [hr r h]; omega)
        (s.core core).retire.flight (((s.core core).retire.issue { bank := (s.core core).retire.bank (s.core core).retire.inShadow }).bank (s.core core).inShadow)
      rw [this]
      have k2 := (key (lat - 1)).2
      have k3 : ((runCore core (fun b => { bank := b }) s).bankIn core (s.core core).inShadow (lat - 1)) = bankAfter ((s.core core).retire.cyc + 1 + (lat - 1)) (s.core core).retire.flight
          (s.core core).inShadow (((s.core core).retire.issue { bank := (s.core core).retire.bank (s.core core).retire.inShadow }).bank (s.core core).inShadow) := k2
      rw [k3]
      exact hw _

/-! ## ALU results and flags -/

theorem dr_setD (b : TBank) (k r : Nat) (v : Word) : (b.setD k v).dr r = given [(k, v)] r (b.dr r) := by
  unfold TBank.dr TBank.setD given
  simp only [List.find?]
  rw [Tbl.getD_set _ _ _ _ _ _ (fun _ => rfl)]
  by_cases h : k = r
  · simp [h]
  · have : (k == r) = false := by simp [h]
    simp [h, this]

/-- Bit `j` of a merged word. -/
theorem bit_mergeMask (a b m : Word) (j : Nat) : (mergeMask a b m).bit j = if m.bit j then b.bit j else a.bit j := by
  unfold mergeMask Word.bit
  simp only [BitVec.getLsbD_or, BitVec.getLsbD_and, BitVec.getLsbD_not]
  by_cases h : j < 32
  · cases hm : m.getLsbD j <;> simp [h]
  · have e (w : Word) : w.getLsbD j = false := BitVec.getLsbD_of_ge _ _ (by omega)
    simp [e]

theorem flags_zncv (st : Word) (z n c v : Bool) (j : Nat) (hj : j < 32) :
    (mergeMask st (packW [(0, bitOf z), (1, bitOf n), (2, bitOf c), (3, bitOf v)]) 0xF).bit j =
      given [(0, z), (1, n), (2, c), (3, v)] j (st.bit j) := by
  rw [bit_mergeMask]
  match j with
  | 0 => cases z <;> cases n <;> cases c <;> cases v <;> rfl
  | 1 => cases z <;> cases n <;> cases c <;> cases v <;> rfl
  | 2 => cases z <;> cases n <;> cases c <;> cases v <;> rfl
  | 3 => cases z <;> cases n <;> cases c <;> cases v <;> rfl
  | k + 4 =>
    have h : ∀ j : Fin 32, 4 ≤ j.val → (0xF : Word).bit j = false := by decide
    rw [h ⟨k + 4, hj⟩ (by simp)]
    simp [given]

theorem gives_alu (i : Instr) (core : Fin 64) (s : State) (rd : BitVec 5) (res fl : TBank → Word) (mask : Word)
    (v : Word) (L : List (Nat × Bool)) (hc : canIssue core s = true)
    (hi : exec i s = .next (runCore core (fun b => aluEff b rd (res b) mask (fl b)) s))
    (hv : res (s.tbank core) = v)
    (hf : ∀ st j, j < 32 → (if mask = 0 then st else mergeMask st (fl (s.tbank core)) mask).bit j = given L j (st.bit j)) :
    Delivers i core s 1 (fun _ => { d := [(rd.toNat, v)], st := L }) := by
  refine delivers_of i core s 1 (by decide)
    (fun b => (1, .d rd.toNat (res b)) :: (if mask = 0 then [] else [(1, .flags mask (fl b))])) _ hc hi ?_ ?_
  · intro r hr
    by_cases h : mask = 0 <;> simp [h] at hr
    · rw [hr]
    · rcases hr with h | h
      · rw [h]
      · rw [h.2]
  · intro b0
    have hf := hf b0.st
    by_cases h : mask = 0
    · simp only [h, if_true, List.foldl, hv, TBank.apply] at hf ⊢
      exact ⟨rfl, fun r => dr_setD _ _ _ _, fun r => rfl, hf⟩
    · simp only [h, if_false, List.foldl, hv, TBank.apply] at hf ⊢
      exact ⟨rfl, fun r => dr_setD _ _ _ _, fun r => rfl, hf⟩

theorem ok_zncv (fl : Word) (z n c v : Bool) (h : fl = packW [(0, bitOf z), (1, bitOf n), (2, bitOf c), (3, bitOf v)]) (st : Word) (j : Nat) (hj : j < 32) :
    (if maskZNCV = 0 then st else mergeMask st fl maskZNCV).bit j = given [(0, z), (1, n), (2, c), (3, v)] j (st.bit j) := by
  rw [if_neg (by decide), h]; exact flags_zncv st z n c v j hj

theorem flags_zn (st : Word) (z n c v : Bool) (j : Nat) (hj : j < 32) :
    (mergeMask st (packW [(0, bitOf z), (1, bitOf n), (2, bitOf c), (3, bitOf v)]) 0x3).bit j =
      given [(0, z), (1, n)] j (st.bit j) := by
  rw [bit_mergeMask]
  match j with
  | 0 => cases z <;> cases n <;> cases c <;> cases v <;> rfl
  | 1 => cases z <;> cases n <;> cases c <;> cases v <;> rfl
  | k + 2 =>
    have h : ∀ j : Fin 32, 2 ≤ j.val → (0x3 : Word).bit j = false := by decide
    rw [h ⟨k + 2, hj⟩ (by simp)]
    simp [given]

theorem flags_znv (st : Word) (z n c v : Bool) (j : Nat) (hj : j < 32) :
    (mergeMask st (packW [(0, bitOf z), (1, bitOf n), (2, bitOf c), (3, bitOf v)]) 0xB).bit j =
      given [(0, z), (1, n), (3, v)] j (st.bit j) := by
  rw [bit_mergeMask]
  match j with
  | 0 => cases z <;> cases n <;> cases c <;> cases v <;> rfl
  | 1 => cases z <;> cases n <;> cases c <;> cases v <;> rfl
  | 2 => cases z <;> cases n <;> cases c <;> cases v <;> rfl
  | 3 => cases z <;> cases n <;> cases c <;> cases v <;> rfl
  | k + 4 =>
    have h : ∀ j : Fin 32, 4 ≤ j.val → (0xB : Word).bit j = false := by decide
    rw [h ⟨k + 4, hj⟩ (by simp)]
    simp [given]

theorem out32_eq (x : Int) : sats32 x = out32 x := by
  unfold sats32 out32 sat32 s32Min s32Max
  by_cases h : x < -2 ^ 31 ∨ 2 ^ 31 - 1 < x
  · rw [decide_eq_true h]; apply decide_eq_true; omega
  · rw [decide_eq_false h]; apply decide_eq_false; omega

theorem near32_eq (x : Int) : satWord x = near32 x := by
  unfold satWord near32 sat32 s32Min s32Max
  by_cases h : x < -2 ^ 31
  · rw [if_pos h, show max (-2147483648) (min 2147483647 x) = -2147483648 by omega]; rfl
  · by_cases h2 : 2 ^ 31 - 1 < x
    · rw [if_neg h, if_pos h2, show max (-2147483648) (min 2147483647 x) = 2147483647 by omega]; rfl
    · rw [if_neg h, if_neg h2, show max (-2147483648) (min 2147483647 x) = x by omega]

theorem carry_eq (a b : Word) : decide (b.toNat ≤ a.toNat) = decide (2 ^ 32 ≤ a.toNat + (~~~b).toNat + 1) := by
  have hb := b.isLt
  have : (~~~b).toNat = 2 ^ 32 - 1 - b.toNat := by simp [BitVec.toNat_not]
  rw [this]
  congr 1
  apply propext; omega

theorem shl_eq (w : Word) (n : Nat) : shlBy w n = w <<< n := by
  unfold shlBy
  split
  · rename_i h; simp [BitVec.shiftLeft_eq_zero h]
  · rfl

theorem shr_eq (w : Word) (n : Nat) : shrBy w n = w >>> n := by
  unfold shrBy
  split
  · rename_i h; simp [BitVec.ushiftRight_eq_zero h]
  · rfl

theorem ok_zn (fl : Word) (z n c v : Bool) (h : fl = packW [(0, bitOf z), (1, bitOf n), (2, bitOf c), (3, bitOf v)]) (st : Word) (j : Nat) (hj : j < 32) :
    (if maskZN = 0 then st else mergeMask st fl maskZN).bit j = given [(0, z), (1, n)] j (st.bit j) := by
  rw [if_neg (by decide), h]; exact flags_zn st z n c v j hj

theorem ok_znv (fl : Word) (z n c v : Bool) (h : fl = packW [(0, bitOf z), (1, bitOf n), (2, bitOf c), (3, bitOf v)]) (st : Word) (j : Nat) (hj : j < 32) :
    (if maskZNV = 0 then st else mergeMask st fl maskZNV).bit j = given [(0, z), (1, n), (3, v)] j (st.bit j) := by
  rw [if_neg (by decide), h]; exact flags_znv st z n c v j hj

end Sys2Proof.Machine
end

