-- ==== Sys2Proof/Machine/Latency.lean ====
section
/-!
DEFINITION. The latency of a path through this node by its LIVE configuration (R224 to R227), in M samples.
-/

namespace Sys2Proof.Machine

open Sys2Proof

/-- The length of a sample of a domain (R226). -/
def State.sampleTime (s : State) (dom : Nat) : Rat :=
  match dom with
  | 1 => 1 / (s.hRatio : Rat)
  | 2 => 3
  | _ => 1

/-- The declared delay of a task, in samples of its domain; a limiter's is LOOKAHEAD, at most 48 (R227). -/
def State.taskDelay (s : State) (core task : Nat) : Nat :=
  match Tbl.find (Tbl.getD s.zk.images core {}).delays task with
  | some (some d) => d
  | some none => min 48 (Config.lookahead s.live core task)
  | none => 0

/-- The tasks of a strip: those that the VALID entries of the LIVE set give it; KIND 0 an input strip, 1 an output strip. -/
def State.tasksTime (s : State) (kind idx dom : Nat) : Rat :=
  ((entriesOf s.live kind idx).map (fun e => (s.taskDelay e.1 (e.2.2.fld 13 4) : Rat) * s.sampleTime dom)).sum

/-- What an input strip adds: its DELAY, and its task where DYN_EN = 1. -/
def State.inTime (s : State) (i : Nat) : Rat :=
  let dom := pfld s.live (keyIS i 0) 1 2
  (pfld s.live (keyIS i 0x20) 0 11 : Rat) * s.sampleTime dom +
    (if pbit s.live (keyIS i 0x1C) 0 then s.tasksTime 0 i dom else 0)

/-- What an output strip adds: its alignment DELAY, and its task. -/
def State.outTime (s : State) (k : Nat) : Rat :=
  let dom := pfld s.live (keyOS k 0) 1 2
  (pfld s.live (keyOS k 0xC) 0 17 : Rat) * s.sampleTime dom +
    (if pbit s.live (keyOS k 8) 0 then s.tasksTime 1 k dom else 0)

/-- What a rate bridge between two domains adds (R52). -/
def bridgeTime (a b : Nat) : Rat := if a = b then 0 else if a = 2 ∨ b = 2 then 96 else 48

/-- x − e of a path from an input strip, or from a raw tap where none, to an output strip. A locally returned channel
ends one path and begins another, with e = x (R228; log entry 98). -/
def State.pathTime (s : State) (i : Option Nat) (dom k : Nat) : Rat :=
  48 + i.elim 0 s.inTime + s.outTime k + bridgeTime dom (pfld s.live (keyOS k 0) 1 2)

end Sys2Proof.Machine
end

