-- ==== Sys2Proof/Machine/Pins.lean ====
section
/-!
DEFINITION. What the device's pins show, as a function of its state: the custody gate (R418), the pin states of every condition
(R234, R281, R284, R302, R305, R428, R555), and the bits of an audio port's frame (R236). No command reads them: they are what
the world outside sees.
-/

namespace Sys2Proof.Machine

open Sys2Proof

/-! ## Pin states (R418, R555) -/

/-- What the device does at a pin: nothing, nothing but the weak keeper that holds a gated pad's last level while no device drives
it (R418), a level, a voltage in mV, or the signal of its block. -/
inductive PinDrive where
  | highZ
  | kept
  | input
  | low
  | high
  | volts (mV : Nat)
  | signal
  deriving DecidableEq, Repr

/-- Pin groups of R555 that are no bridge, control line or audio port. -/
inductive PinGroup where
  /-- OC, FB, BRS, BCLR, MV, MI, SIN, BAT_V, BAT_I, THM, CTL_IN -/
  | sense
  /-- BVMID, and SVREF with THMREF -/
  | bvmid
  | svref
  | pdmClk (c : Nat)
  | rgmiiTx
  | mdio
  | laneTx (lane : Nat)
  | cuslsel
  | custmo
  | escrow
  | mainFlash
  | dram
  /-- W0 or W1 MISO, with the level of its CS -/
  | miso (cs : Bool)
  /-- HIRQ, W2_TXD -/
  | windows
  | supen
  deriving DecidableEq, Repr

/-- Reset has been released and the boot runs or has run. -/
def State.booted (s : State) : Bool := s.pwr.phase == .awake

/-- Reset is held while the supplies are on or rise. -/
def State.inReset (s : State) : Bool := s.pwr.phase == .held || s.pwr.phase == .rising

/-- The ROM takes a download and drives the window's outputs: the partner shows 00, or there is none (R551). -/
def State.romDownload (s : State) : Bool :=
  s.booted && !s.started && s.bootMode != 0 && decide (s.pwr.step ≤ 1) && (s.cus.partner == 0 || !s.cus.paired)

/-- The device shows 10 or 11, so its custody-gated pins are driven (R418). -/
def State.seated (s : State) : Bool := s.cus.own == 2 || s.cus.own == 3

/-- CUSO: the code a device shows with core power, else high-impedance, which reads 00 (R417, R555). -/
def State.cuso (s : State) : Option Nat := if s.booted then some s.cus.own else none

/-- CUSLSEL of a ROLE = A device: high from showing 10 to leaving 11, low after it, high-impedance elsewhere (R428, R555).
DEDUCED: it is low while the device that has left enters Vault (log entry 96). -/
def State.cuslsel (s : State) : PinDrive :=
  if s.cus.roleB then .highZ
  else if s.seated then .high
  else if s.pwr.phase = .entering then .low else .highZ

/-- The lane switches of the pair select this ROLE = A device: CUSLSEL is high; low or undriven selects B (R428). -/
def State.laneSwitchA (s : State) : Bool := s.cuslsel == .high

/-- A custody-gated pad that this device does not drive: with no supply it is high-impedance, else its keeper holds it (R418). -/
def State.undriven (s : State) : PinDrive := if s.pwr.phase = .off then .highZ else .kept

/-- The state of a pin group (R418, R555). -/
def State.pinState (s : State) : PinGroup → PinDrive
  | .sense => if s.booted then .input else .highZ
  | .bvmid => if s.seated then .volts 900 else .highZ
  | .svref => if s.seated then .volts 1800 else s.undriven
  | .pdmClk c => if !s.booted then .highZ else if s.pdmRuns c then .signal else .low
  | .rgmiiTx =>
    if !s.booted then .highZ else if (List.range 2).any (fun m => s.bitN (macReg m 0) 1) then .signal else .low
  | .mdio => if s.booted && s.eth.mdio then .signal else .highZ
  | .laneTx k =>
    if s.booted && (if k < 12 then (s.cp (k / 4)).st != 0 else s.bitN (macReg (k - 10) 0) 1) then .signal else .highZ
  | .cuslsel => s.cuslsel
  | .custmo =>
    match s.pwr.phase with
    | .off => .highZ
    | .vault => .highZ
    | _ => if s.cus.own = 2 then .signal else if s.cus.own = 3 && s.cus.cause != 6 then .signal else .low
  | .escrow => if s.cus.escDrive then .signal else s.undriven
  | .mainFlash => if s.booted then .signal else if s.inReset then .high else .highZ
  | .dram => if s.booted && decide (2 ≤ s.pwr.step) then .signal else if s.booted || s.inReset then .low else .highZ
  | .miso cs =>
    if s.cus.own = 2 || s.romDownload then (if cs then .highZ else .signal) else s.undriven
  | .windows => if s.cus.own = 2 || s.romDownload then .signal else s.undriven
  | .supen =>
    match s.pwr.phase with
    | .off => .low
    | .vault => .low
    | .entering => .low
    | .retry => .low
    | _ => .high

/-! ## Bridge and control pins -/

/-- AP and AN of a channel (R284): driven by a seated device only, low where nothing of R274 drives a pulse. Their keepers hold the
last level for the custody guard: from the custody decision of the boot on. -/
def State.bridgePins (s : State) (n : Nat) : PinDrive :=
  if !s.seated then (if s.booted && decide (5 ≤ s.pwr.step) then .kept else .highZ)
  else match (s.br n).row with
    | .released => .low
    | .low => .low
    | _ => if (s.br n).cut && !(s.br n).modeS then .low else .signal

/-- CTL_OUT`k` (R305, R418, R555). -/
def State.ctlOut (s : State) (k : Nat) : PinDrive :=
  match s.ctlDriven k with
  | none => if s.cus.own = 2 then .highZ else s.undriven
  | some b => if b then .high else .low

/-! ## Audio ports (R234, R236) -/

/-- The four pins of an audio port. -/
inductive PortPin where
  | bclk
  | fsync
  | din
  | dout
  deriving DecidableEq, Repr

/-- R234: the master drives BCLK and FSYNC; a port that is not enabled leaves all four pins. A give-up for the loss of XO_IN
drives them low (R420). -/
def State.portPin (s : State) (p : Nat) (pin : PortPin) : PinDrive :=
  if !s.booted || !(s.ptEn p || (s.port p).ending) then .highZ
  else match pin with
    | .din => .input
    | .dout => .signal
    | _ => if !s.ptMaster p then .input
      else if s.cus.own = 3 ∧ s.cus.cause = 6 then .low else .signal

def State.ptFmt (s : State) (p : Nat) : Nat := s.fldN (aptReg p 0) 1 2

/-- BCLKs from the frame start to the first data bit of slot 0. -/
def State.ptDelay (s : State) (p : Nat) : Nat :=
  match s.ptFmt p with
  | 0 => 1
  | 1 => 0
  | _ => s.fldN (aptReg p 0) 14 1

/-- FSYNC in BCLK `k` of a frame. -/
def State.fsyncAt (s : State) (p k : Nat) : Bool :=
  let level := match s.ptFmt p with
    | 0 => decide (s.ptSlotW p ≤ k)
    | 1 => decide (k < s.ptSlotW p)
    | _ => decide (k < if s.bitN (aptReg p 0) 15 then s.ptSlotW p else 1)
  level != s.bitN (aptReg p 0) 17

/-- The device launches on the rising BCLK edge and samples on the falling one. -/
def State.launchRising (s : State) (p : Nat) : Bool := s.bitN (aptReg p 0) 16

/-- Bits of a slot: the word MSB first, then zeros. -/
def slotBits (word slotw : Nat) (w : Int) : List Bool :=
  (List.range slotw).map (fun k => decide (k < word) && decide ((w / 2 ^ (word - 1 - k)) % 2 = 1))

/-- The word that a slot's bits bring: the first WORD bits, MSB first, signed; the others are ignored. -/
def slotWord (word : Nat) (bits : List Bool) : Int :=
  wrapS word ((bits.take word).foldl (fun (v : Nat) (b : Bool) => 2 * v + bitOf b) 0 : Nat)

/-- The data bits of a frame, from the first bit of slot 0 on; none in a slot that is high-impedance. -/
def State.doutBits (s : State) (p : Nat) : List (Option Bool) :=
  (s.port p).dout.flatMap (fun v => match v with
    | none => List.replicate (s.ptSlotW p) none
    | some w => (slotBits (s.ptWord p) (s.ptSlotW p) w).map some)

/-- DOUT in BCLK `k` of the frame in progress: bit `k` less the delay; before it, the last bit of the frame before. -/
def State.doutAt (s : State) (p k : Nat) : Option Bool :=
  if k < s.ptDelay p then (s.port p).doutPrev.bind (fun w => (slotBits (s.ptWord p) (s.ptSlotW p) w).getLast?)
  else (s.doutBits p).getD (k - s.ptDelay p) none

end Sys2Proof.Machine
end

