-- ==== Sys2Proof/Machine/Wire.lean ====
section
/-!
DEFINITION. Frames as they stand on the lines: the CRC-32 of IEEE 802.3, an Ethernet frame with its FCS (R367), a cascade
frame as 64-bit words (R396), and the 64b/66b coding of a cascade lane (R391, R393).
-/

namespace Sys2Proof.Machine

open Sys2Proof

/-- The CRC-32 of IEEE 802.3 over bytes in order; of none it is 0. -/
def crcBytes (bs : List Byte) : BitVec 32 := ~~~ (bs.foldl crcByte 0xFFFFFFFF)

/-- The `n` bytes of a number, least significant first. -/
def leBytes (n v : Nat) : List Byte := (List.range n).map (fun i => BitVec.ofNat 8 (v / 256 ^ i))

/-- The frame a MAC sent last, with the FCS it appended (R367). -/
def State.onWire (s : State) (m : Nat) : List Byte :=
  (s.mac m).sent ++ leBytes 4 (crcBytes (s.mac m).sent).toNat

/-! ## The cascade frame (R396) -/

/-- The CRC-32 of words in order, each word's bytes least significant first. -/
def crcWords (ws : List (BitVec 64)) : BitVec 32 := crcBytes (ws.flatMap (fun w => leBytes 8 w.toNat))

/-- Bytes as words, the first byte lowest. -/
def wordOfBytes (bs : List Byte) : BitVec 64 :=
  pack64 ((List.range 8).map (fun i => (8 * i, (bs.getD i 0).toNat)))

/-- The bytes of a frame's message segment. -/
def segmentBytes (f : CascadeFrame) : List Byte := (f.msg.elim [] Config.msgBytes).take 232

/-- Words 0 to 35. -/
def frameHead (f : CascadeFrame) : List (BitVec 64) :=
  [pack64 [(0, 0xC5), (8, f.node % 64), (15, bitOf f.up), (16, f.grade % 16), (20, f.depth % 8), (24, f.version % 256)],
    BitVec.ofNat 64 f.sctr,
    pack64 [(0, f.n % 2 ^ 14), (14, f.sub % 8), (32, f.meas % 2 ^ 20)],
    BitVec.ofNat 64 f.map, BitVec.ofNat 64 f.w4, BitVec.ofNat 64 f.w5,
    pack64 [(0, f.mseq % 65536), (16, f.mack % 65536), (32, (segmentBytes f).length)]] ++
  (List.range 29).map (fun i => wordOfBytes ((segmentBytes f).drop (8 * i)))

/-- The payload: 12 words a channel, the earlier sample in the lower half. -/
def framePayload (f : CascadeFrame) : List (BitVec 64) :=
  (List.range f.n).flatMap (fun c =>
    let xs := frameChan f c
    (List.range 12).map (fun i =>
      pack64 [(0, (Word.ofInt (xs.getD (2 * i) 0)).toNat), (32, (Word.ofInt (xs.getD (2 * i + 1) 0)).toNat)]))

/-- PCRC as it is sent: inverted in a frame that carries a transit channel of no valid frame (R409). -/
def pcrcSent (f : CascadeFrame) : BitVec 32 :=
  if f.pcrc = 2 then ~~~ crcWords (framePayload f) else crcWords (framePayload f)

/-- The frame's words in order; word `w` goes to logical lane `w` mod 4. -/
def frameWords (f : CascadeFrame) : List (BitVec 64) :=
  frameHead f ++ [(crcWords (frameHead f)).setWidth 64] ++ framePayload f ++ [pack64 [(0, 0xE1), (32, (pcrcSent f).toNat)]]

/-- The words that a port's logical lane sends of the frame of this block. -/
def State.laneWords (s : State) (p lane : Nat) : List (BitVec 64) :=
  match (s.cp p).sent with
  | some f => (((List.range (frameWords f).length).zip (frameWords f)).filter (fun e => e.1 % 4 == lane)).map (fun e => e.2)
  | none => []

/-! ## 64b/66b (R391, R393) -/

/-- The block of a frame's word: words 0 and the last are control blocks. -/
def frameBlock (f : CascadeFrame) (w : Nat) : Block66 :=
  ⟨w == 0 || w == 37 + 12 * f.n, (frameWords f).getD w 0⟩

/-- The scrambler 1 + x^39 + x^58 on one bit: the bit sent, and the last 58 bits sent. -/
def scrambleBit (st : BitVec 58) (b : Bool) : Bool × BitVec 58 :=
  let o := (b != st.getLsbD 38) != st.getLsbD 57
  (o, (st <<< 1) ||| (if o then 1 else 0))

/-- Scramble bits in the order in which they are sent. -/
def scramble (st : BitVec 58) : List Bool → List Bool × BitVec 58
  | [] => ([], st)
  | b :: t =>
    let r := scrambleBit st b
    let q := scramble r.2 t
    (r.1 :: q.1, q.2)

/-- The receiver's inverse. -/
def descramble (st : BitVec 58) : List Bool → List Bool
  | [] => []
  | b :: t => ((b != st.getLsbD 38) != st.getLsbD 57) :: descramble ((st <<< 1) ||| (if b then 1 else 0)) t

/-- A lane's transmitter: block slots since its last marker, the SEQ of the next one, and the last 58 bits scrambled. -/
structure LaneTx where
  slot : Nat := 0
  seq : Nat := 0
  scr : BitVec 58 := 0
  deriving DecidableEq, Repr

/-- The bits of a 64-bit word in the order of the line, bit 0 first. -/
def lineBits (w : BitVec 64) : List Bool := (List.range 64).map w.getLsbD

/-- One block slot of logical lane `lane`: after 16,384 blocks a marker, sent unscrambled and extra to the blocks; then the block, its
header as it is and its 64 bits scrambled. -/
def laneSlot (lane : Nat) (b : Block66) (x : LaneTx) : List Bool × LaneTx :=
  let hdr := fun (c : Block66) => [c.sync.getLsbD 0, c.sync.getLsbD 1]
  let m := marker lane x.seq
  let due := decide (16384 ≤ x.slot)
  let lead := if due then hdr m ++ lineBits m.bits else []
  let r := scramble x.scr (lineBits b.bits)
  (lead ++ hdr b ++ r.1, { slot := if due then 1 else x.slot + 1, seq := if due then (x.seq + 1) % 256 else x.seq, scr := r.2 })

/-- The block slots of a logical lane in turn. -/
def laneSlots (lane : Nat) : List Block66 → LaneTx → List Bool × LaneTx
  | [], x => ([], x)
  | b :: bs, x =>
    let r := laneSlot lane b x
    let q := laneSlots lane bs r.2
    (r.1 ++ q.1, q.2)

/-- What lane `n` of a cascade port puts on the line for the port's frame of this block, from a transmitter's state: TX_INV inverts
it. A lane whose slot no word fills sends an idle block. -/
def State.laneLine (s : State) (n : Nat) (x : LaneTx) : List Bool × LaneTx :=
  let bs := match (s.cp (n / 4)).sent with
    | some f => (List.range ((38 + 12 * f.n + 3) / 4)).map (fun k =>
        let w := 4 * k + n % 4
        if w < 38 + 12 * f.n then frameBlock f w else idleBlock)
    | none => [idleBlock]
  let r := laneSlots (n % 4) bs x
  (r.1.map (fun b => b != s.bitN (0x100D0000 + 0x40 * n) 1), r.2)

/-- The main transmit tap in units of 1/40 of the swing (R390). -/
def State.mainTap (s : State) (n : Nat) : Nat :=
  let w := s.reg (0x100D0000 + 0x40 * n)
  40 - w.fld 4 3 - w.fld 8 4

end Sys2Proof.Machine
end

