-- ==== Sys2Proof/Tests/Slice0.lean ====
section
/-!
SUPPORT. The model's own tests: each check of WellFormed refuses an ill-formed term, words written out from the encoding tables
decode, the spec's worked examples come out, and for each statement a concrete state and operands that meet its hypotheses.
-/

namespace Sys2Proof.Tests

open Sys2Proof Sys2Proof.Machine

/-! ## WellFormed: each check refuses (R186) -/

theorem test_wf_ldq : (Instr.ldq 0 6 1).wf = false ∧ (Instr.ldq 0 8 1).wf = true := by decide
theorem test_wf_stq : (Instr.stq 0 3 1).wf = false ∧ (Instr.stq 0 4 1).wf = true := by decide
theorem test_wf_wrp : (Instr.wrp 0 3 1 2).wf = false ∧ (Instr.wrp 0 2 1 2).wf = true := by decide
theorem test_wf_rdp : (Instr.rdp 0 2 3 1).wf = false ∧ (Instr.rdp 0 2 0 1).wf = true := by decide
theorem test_wf_qmac : (Instr.qmac 0 2 0 4 false false false).wf = false ∧ (Instr.qmac 0 4 1 4 false false false).wf = false ∧
    (Instr.qmac 0 4 0 5 false false false).wf = false ∧ (Instr.qmac 0 4 0 5 true false false).wf = true := by decide
theorem test_wf_amv : (Instr.amv 0 1 2 true 0).wf = false ∧ (Instr.amv 0 1 0 true 3).wf = false ∧
    (Instr.amv 0 1 0 true 0).wf = true := by decide
theorem test_wf_expx : (Instr.expx 0 1 8 true).wf = false ∧ (Instr.expx 0 1 8 false).wf = true := by decide
theorem test_wf_norm : (Instr.norm 0 5 4 5).wf = false ∧ (Instr.norm 0 5 4 6).wf = true := by decide
theorem test_wf_bexp : (Instr.bexp 0 1 2).wf = false ∧ (Instr.bexp 0 1 4).wf = true := by decide
theorem test_wf_b : (Instr.b 0 15 0).wf = false ∧ (Instr.b 0 14 0).wf = true := by decide
theorem test_wf_rep : (Instr.rep 0 false 0 3).wf = false ∧ (Instr.rep 0 true 1 32).wf = false ∧
    (Instr.rep 0 true 1 31).wf = true := by decide
theorem test_wf_qput : (Instr.qput 0 1 0).wf = false ∧ (Instr.qput 0 28 0).wf = true := by decide

/-! ## Words written out from R185 to R187: OP in [31:26], then the format's fields -/

-- arithmetic and immediates
theorem test_word_nop_add_addi : tallyDecode 0 0x00000000 = some (.nop 0) ∧ tallyDecode 0 0x04430000 = some (.add 0 2 3 0) ∧
    tallyDecode 0 0x40A5FFFF = some (.addi 0 5 5 0xFFFF) := by decide
-- load, and the words that chapter 08 writes out: clear A0, TAPMV, EXT of A0 by 27, NORM
theorem test_word_load_mac : tallyDecode 0 0x60040000 = some (.ldPost 0 0 1) ∧ tallyDecode 0 0xA1008000 = some (.mac 0 2 0 4) ∧
    tallyDecode 0 0xA8000800 = some (.amv 0 0 0 true 0) ∧ tallyDecode 0 0xC04C0000 = some (.tapmv 0 0 19 false) := by decide
theorem test_word_ext_norm : tallyDecode 0 0xB01402D8 = some (.ext 0 5 0 27 true) ∧
    tallyDecode 0 0xC8A43000 = some (.norm 0 5 4 6) := by decide
theorem test_word_control : tallyDecode 0 0xE2800010 = some (.b 0 10 0x10) ∧ tallyDecode 0 0xF4000000 = some (.tend 0) := by decide
-- NOP with a field set, an unassigned OP, COND 15
theorem test_word_undefined : tallyDecode 0 0x00000001 = none ∧ tallyDecode 0 0xFC000000 = none ∧
    tallyDecode 0 0xE3C00000 = none := by decide

/-! ## Worked examples of the spec -/

-- R35 to R38: the table of narrowed sums
theorem test_narrow_ties : narrow (5 * 2 ^ 27 + 2 ^ 26) 27 = 6 ∧ narrow (6 * 2 ^ 27 + 2 ^ 26) 27 = 6 ∧
    narrow (5 * 2 ^ 27 + 2 ^ 26 - 1) 27 = 5 ∧ narrow (-6 * 2 ^ 27 + 2 ^ 26) 27 = -6 ∧ narrow (-7 * 2 ^ 27 + 2 ^ 26) 27 = -6 := by decide
theorem test_narrow_saturates : narrow ((2 ^ 31 - 1) * 2 ^ 27 + 2 ^ 26) 27 = 0x7FFFFFFF ∧
    narrowSats ((2 ^ 31 - 1) * 2 ^ 27 + 2 ^ 26) 27 = true := by decide
-- R39
theorem test_polarity : negSat (-0x80000000) = 0x7FFFFFFF ∧ negSat 5 = -5 := by decide
-- R201, R202: the table of EXPX
theorem test_expx : (([0x40000000, 0x80000000, 0x08000000, 0xF8000000, 0x00600000, 1, 0, 0xFFFFFFFF] : List Word).map expx32) =
    [0, 0, 3, 4, 8, 30, 31, 31] := by decide
-- R160: a ring of 24 M samples
theorem test_pointer_ring : pointerNext 0x440 8 96 = 0x448 ∧ pointerNext 0x458 8 96 = 0x400 ∧
    pointerNext 0x400 (-8) 96 = 0x458 ∧ pointerNext 0x440 8 0 = 0x448 := by decide
-- R137 to R140: one sample through a section
theorem test_section : biquad { b0 := 0x08000000, b1 := 0x10000000, b2 := 0x08000000, a1 := -0x18000000, a2 := 0x04000000 }
    { x1 := 0x01000000, x2 := 0, y1 := 0x0080000000000003, y2 := 5 } 0x02000000 =
    (0x04000000, { x1 := 0x02000000, x2 := 0x01000000, y1 := 0x0080000000000001, y2 := 0x0080000000000003 }, false) := by decide
-- R117: EXPO_8 over 4,800 samples at sample 2,400, and the gain there
theorem test_ramp : rampVal [(3, { cfg := 0x0012C003, start := 0 })] 3 2400 = 63161284 ∧
    rampGain 0x08000000 0 63161284 = 0x07878788 := by decide
-- R76: the selector's mix
theorem test_selector : weightB 0 180 240 false = 0x06000000 ∧
    narrow (0x04000000 * (unity - 0x06000000) + 0x02000000 * 0x06000000) 27 = 0x02800000 := by decide
-- R518: a rotated write and read
theorem test_rotate : rotl8 0x44332211 1 = 0x33221144 ∧ rotr8 0x44332211 1 = 0x11443322 := by decide

/-! ## States of the tests -/

/-- The state after a command, where it answers one. -/
def after (i : Instr) (s : State) : State :=
  match exec i s with
  | .next t => t
  | _ => s

/-- Core 0 as given, its task 0 enabled with a fence of 100 cycles; D3 = 5, D4 = −2, A1 = 9, P0 and P1 at data words. -/
def coreState (c : TCore) : State :=
  ((State.reset.setCore 0 { c with
    main := { c.main with d := [(3, 5), (4, 0xFFFFFFFE)], a := [(1, 9)], p := [(0, 0x440), (1, 0x500)], m := [(0, 8)], l := [(0, 96)] },
    shadow := { c.shadow with d := [(3, 5)], p := [(0, 0x440), (1, 0x500)] } }).setWord 0x0241C000 0x80000000).setWord 0x0241C004 100

def inRun : State := coreState { st := .run }
def inHandler : State := coreState { st := .handler, back := .run, iret := 7 }

/-- What register D`r` of core 0 reads `n` cycles after the next instruction, once `i` has issued. -/
def dAfter (i : Instr) (s : State) (n r : Nat) : Word := ((after i s).bankIn 0 (s.core 0).inShadow n).dr r

/-! ## Tally commands: the hypotheses are met, and what a form delivers -/

set_option maxRecDepth 1000000

theorem witness_canIssue : canIssue 0 inRun = true ∧ canIssue 0 inHandler = true := ⟨rfl, rfl⟩
theorem witness_cleanWord : inRun.cleanWord 0 ∧ inHandler.cleanWord 0 := ⟨rfl, rfl⟩
theorem witness_plain : (inRun.core 0).retire.plain ∧ (inHandler.core 0).retire.plain := ⟨⟨rfl, Or.inl rfl⟩, ⟨rfl, Or.inl rfl⟩⟩
theorem test_add : dAfter (.add 0 2 3 4) inRun 0 2 = 3 := rfl
theorem test_sub : dAfter (.sub 0 2 3 4) inRun 0 2 = 7 := rfl
theorem test_addi : dAfter (.addi 0 2 3 0xFFFF) inRun 0 2 = 4 := rfl
theorem test_asr : dAfter (.asri 0 2 4 1) inRun 0 2 = 0xFFFFFFFF := rfl
theorem test_min_max : dAfter (.min 0 2 3 4) inRun 0 2 = 0xFFFFFFFE ∧ dAfter (.max 0 2 3 4) inRun 0 2 = 5 := ⟨rfl, rfl⟩
theorem test_lui_movi : dAfter (.lui 0 2 0x8000) inRun 0 2 = 0x80000000 ∧ dAfter (.movi 0 2 0x8000) inRun 0 2 = 0xFFFF8000 := ⟨rfl, rfl⟩
theorem test_cmp_flags : (((after (.cmp 0 4 3) inRun).bankIn 0 false 0).st.fld 0 4) = 6 := rfl
-- a product reads from the third cycle on, not from the second
theorem test_mac : (((after (.mac 0 1 3 4) inRun).bankIn 0 false 2).ar 1).toInt = -1 ∧
    (((after (.mac 0 1 3 4) inRun).bankIn 0 false 1).ar 1).toInt = 9 := ⟨rfl, rfl⟩
theorem witness_qmac : (4 : BitVec 3) = 4 ∧ (8 : BitVec 5).toNat % 4 = 0 ∧ (12 : BitVec 5).toNat % 4 = 0 := by decide
-- half of 9 is a tie: to even; read from the second cycle on
theorem test_ext : dAfter (.ext 0 2 1 1 true) inRun 1 2 = 4 := rfl
theorem test_expx_norm : dAfter (.expx 0 2 3 false) inRun 0 2 = 28 ∧ dAfter (.norm 0 2 3 6) inRun 0 2 = 0x50000000 ∧
    dAfter (.norm 0 2 3 6) inRun 0 6 = 28 := ⟨rfl, rfl, rfl⟩
-- the least of four sign runs and Dd: MOVI's 31 against words 0, 0, 0, 5
theorem test_bexp : dAfter (.bexp 0 5 0) (after (.movi 0 5 31) inRun) 0 5 = 28 := rfl
-- BEXP's candidate in the statement, at both ends
theorem witness_bexp : ((28 : Word).toInt ≤ (31 : Word).toInt) ∧ ∀ i, i < 4 → (28 : Word).toInt ≤ (signRun (inRun.tbank 0 |>.dr i) : Int) := by
  refine ⟨by decide, fun i h => ?_⟩
  match i, h with
  | 0, _ => decide
  | 1, _ => decide
  | 2, _ => decide
  | 3, _ => decide
-- stores: the highest word a core may write, and the first it may not
theorem witness_store_edge : wordAddr 0x13FFF = 0x13FFC ∧ wordAddr 0x14000 = 0x14000 ∧ wordAddr 0x17FFF = 0x17FFC ∧
    wordAddr 0x18000 = 0x18000 := by decide
theorem test_store : (after (.stPost 0 3 0) inRun).word 0x02408440 = 5 ∧ ((after (.stPost 0 3 0) inRun).tbank 0).pr 0 = 0x448 := ⟨rfl, rfl⟩
theorem test_load : dAfter (.ldPost 0 7 0) (inRun.setWord 0x02408440 77) 1 7 = 77 ∧
    dAfter (.ldPost 0 7 0) (inRun.setWord 0x02408440 77) 0 7 = 0 := ⟨rfl, rfl⟩
theorem witness_clean_store : inRun.cleanStore 0 := fun _ _ _ => rfl
theorem witness_clean : inRun.cleanAt 0 [0x440, 0x444] := by
  intro a h
  simp only [List.mem_cons, List.not_mem_nil, or_false] at h
  rcases h with rfl | rfl <;> rfl
theorem test_tapmv : (after (.tapmv 0 1 3 false) (inRun.setWord 0x02408440 7)).word 0x02408500 = 7 ∧
    (((after (.tapmv 0 1 3 false) (inRun.setWord 0x02408440 7)).bankIn 0 false 2).ar 1).toInt = 44 := ⟨rfl, rfl⟩
theorem test_wrp_l : ((after (.wrp 0 2 2 4) inRun).tbank 0).lr 2 = 0x1FFFC := rfl
theorem test_addp : ((after (.addp 0 0 0xFFC0) inRun).tbank 0).pr 0 = 0x400 := rfl

/-! ### Sequencing: delay slots, loops, transfers -/

theorem test_nop_wraps : ((after (.nop 0) (coreState { st := .run, pc := 8191 })).core 0).pc = 0 := rfl
theorem test_delay_two : ((after (.nop 0) (coreState { st := .run, pc := 4, delay := some ⟨2, 90, false⟩ })).core 0).pc = 5 ∧
    ((after (.nop 0) (coreState { st := .run, pc := 5, delay := some ⟨1, 90, false⟩ })).core 0).pc = 90 := ⟨rfl, rfl⟩
theorem test_delay_rti : let s := coreState { st := .handler, back := .run, iret := 33, pc := 5, delay := some ⟨1, 0, true⟩ }
    ((after (.nop 0) s).core 0).pc = 33 ∧ ((after (.nop 0) s).core 0).st = .run := ⟨rfl, rfl⟩
theorem test_loop_back : let s := coreState { st := .run, pc := 6, main := { loopN := 2, loopLo := 5, loopHi := 6 } }
    ((after (.nop 0) s).core 0).pc = 5 ∧ ((after (.nop 0) s).tbank 0).loopN = 1 := ⟨rfl, rfl⟩
theorem test_loop_end : let s := coreState { st := .run, pc := 6, main := { loopN := 1, loopLo := 5, loopHi := 6 } }
    ((after (.nop 0) s).core 0).pc = 7 ∧ ((after (.nop 0) s).tbank 0).loopN = 0 := ⟨rfl, rfl⟩
theorem test_branch : ((after (.b 0 0 99) inRun).core 0).delay = some ⟨2, 99, false⟩ ∧
    ((after (.b 0 1 99) inRun).core 0).delay = some ⟨2, 3, false⟩ := ⟨rfl, rfl⟩
theorem witness_cond : (condTable 0)[14]? = some true ∧ (condTable 0)[0]? = some true ∧ (condTable 0)[1]? = some false := by decide
theorem test_call_ret : dAfter (.call 0 50) inRun 0 31 = 3 ∧ ((after (.ret 0) inRun).core 0).delay = some ⟨2, 0, false⟩ := ⟨rfl, rfl⟩
theorem test_rti : ((after (.rti 0) inHandler).core 0).delay = some ⟨2, 0, true⟩ ∧ (inHandler.core 0).inShadow = true := ⟨rfl, rfl⟩
theorem test_rep : ((after (.rep 0 false 2 3) inRun).tbank 0).loopN = 3 ∧ ((after (.rep 0 false 2 3) inRun).tbank 0).loopHi = 2 ∧
    ((after (.rep 0 false 2 0) inRun).core 0).pc = 3 := ⟨rfl, rfl, rfl⟩
theorem witness_rep_edge : (inRun.core 0).pc + (127 : BitVec 7).toNat ≤ 8191 ∧ 0 < (1 : BitVec 7).toNat ∧ (31 : BitVec 16).toNat < 32 := by decide

/-! ### Faults, interrupts, services -/

theorem test_undefined : ((after (.undefinedInstruction 0 0xFC000000) inRun).core 0).cause = 4 ∧
    ((after (.undefinedInstruction 0 0xFC000000) inRun).core 0).fixedOut = [0] ∧
    ((after (.undefinedInstruction 0 0xFC000000) inHandler).core 0).pc = 7 := ⟨rfl, rfl, rfl⟩
theorem test_rti_in_task : ((after (.rti 0) inRun).core 0).cause = 2 := rfl
theorem test_branch_in_slot : ((after (.b 0 0 1) (coreState { st := .run, delay := some ⟨2, 9, false⟩ })).core 0).cause = 2 := rfl
theorem test_call_in_loop : let s := coreState { st := .run, pc := 5, main := { loopN := 1, loopLo := 5, loopHi := 6 } }
    canIssue 0 s = true ∧ ((after (.call 0 1) s).core 0).cause = 2 := ⟨rfl, rfl⟩
theorem test_illegal_store : let s := inRun.setCore 0 { inRun.core 0 with main := { p := [(0, 0x14000)] } }
    ((after (.stPost 0 3 0) s).core 0).cause = 3 := rfl
theorem test_tend_in_handler : ((after (.tend 0) inHandler).core 0).cause = 2 ∧ (after (.tend 0) inHandler).ien 0 = 0 := ⟨rfl, rfl⟩
theorem test_interrupt : let s := (coreState { st := .run, pc := 9, pend := 6 }).setReg 0x10040000 0xF0
    ((after (.interruptEntry 0) s).core 0).iret = 9 ∧ ((after (.interruptEntry 0) s).core 0).pend = 4 ∧
    ((after (.interruptEntry 0) s).core 0).st = .handler := ⟨rfl, rfl, rfl⟩
theorem test_forced_exit : let s := coreState { st := .handler, back := .run, iret := 7, handCyc := 70000 }
    ((after (.handlerForcedExit 0) s).core 0).cause = 7 ∧ ((after (.handlerForcedExit 0) s).core 0).pc = 7 := ⟨rfl, rfl⟩
theorem test_fence : let s := coreState { st := .run, taskCyc := 100 }
    ((after (.fenceExpiry 0) s).core 0).cause = 1 ∧ ((after (.fenceExpiry 0) s).core 0).done = true := ⟨rfl, rfl⟩
theorem test_doorbell : ((after (.doorbellRing 0) inRun).core 0).pend = 1 := rfl
theorem test_mark : ((after (.cycleMark 0) ((coreState { st := .run, taskCyc := 50 }).setReg 0x10040014 50)).core 0).pend = 8 := rfl
theorem test_start_stop : ((after (.start 0) State.reset).core 0).st = .waitRel ∧ ((after (.stop 0) inRun).core 0).stopReq = true := ⟨rfl, rfl⟩
theorem test_cluster_mark : (after (.clusterMark 3) State.reset).tly.marks = [3] := rfl
theorem test_image_write : (after (.tallyImageWrite 0 0x02400000 0xF4000000) State.reset).word 0x02400000 = 0xF4000000 ∧
    ((after (.tallyImageWrite 0 0x02400000 0xF4000000) inRun).core 0).dropCount = 1 := ⟨rfl, rfl⟩
theorem test_dispatch : let s := coreState { st := .dispatch }
    inputsDelivered 0 0 s = true ∧ ((after (.taskDispatch 0 0) s).core 0).st = .run := ⟨rfl, rfl⟩
theorem witness_next_task : NextTask (coreState { st := .dispatch }) 0 0 (some 0) :=
  ⟨Nat.le_refl 0, by decide, rfl, fun i _ h => absurd h (Nat.not_lt_zero i)⟩
theorem test_tend : ((after (.tend 0) inRun).core 0).ended = [0] ∧ ((after (.tend 0) inRun).core 0).st = .waitRel := ⟨rfl, rfl⟩
theorem witness_tend_fence : 0 + (((inRun.core 0).retire.flight.foldl (fun n f => max n f.due) 1) - 0) ≤ inRun.wcyc 0 0 := by decide
theorem witness_tally_form : TallyInv State.reset ∧ isTally (.nop 0) = true ∧ isTally (.fenceExpiry 0) = true := by
  refine ⟨⟨rfl, fun k => ?_⟩, rfl, rfl⟩
  have h : State.reset.core k = {} := rfl
  rw [h]
  refine ⟨by decide, by decide, by decide, by decide, by decide, by decide, by decide, by decide, by decide,
    ⟨fun r => ⟨by simp [TBank.lr, Tbl.getD, Tbl.find], rfl⟩, rfl, by decide, by decide⟩,
    ⟨fun r => ⟨by simp [TBank.lr, Tbl.getD, Tbl.find], rfl⟩, rfl, by decide, by decide⟩, (fun d h => nomatch h), ?_⟩
  intro f h
  simp at h

/-! ## The engine: strips, sections, rods, checks -/

/-- A state whose processing stage runs a parameter set over the reset values, with these feeds and source slots. -/
def engState (ps : Tbl Word) (feeds slots : Tbl (List Int)) : State :=
  let s := State.running 480 [] [] false
  { s with eng := ps, engine := { s.engine with feeds := feeds, slots := slots } }

/-- A block whose first samples are given. -/
def block (xs : List Int) : List Int := xs ++ List.replicate (24 - xs.length) 0

theorem test_boundary_before_start : after (.blockBoundary 3) State.reset = State.reset := rfl
theorem test_raw_tap : let s := engState [(tapKey 5, 0x80000200)] [(0x200, block [9])] []
    s.enB (tapKey 5) 31 = true ∧ Tbl.find (after (.stripProcess (.rawTap 5)) s).engine.slots 6917 = some (block [9]) := ⟨rfl, rfl⟩
-- a channel up to H at the default ratio of 2: a 97-tap filter's first sum
theorem witness_bridge_channel : let s := engState [(rbKey 0, 0x80000005)] [] [(5, block [1])]
    s.slotDom 5 = rbInDom s.eng 0 ∧ s.slotReady 5 = true ∧ (Tbl.getD s.engine.bridges 0 {}).done = false := ⟨rfl, rfl, rfl⟩

/-- Input strip 2 enabled on feed 512, its mute open. -/
def stripOpen : State :=
  let s := engState [(keyIS 2 0, 0x00F00001), (keyIS 2 4, 0x02000200)] [(0x200, block [0x01000000, -3])] []
  s.setInS 2 { s.inS 2 with mute := {} }

theorem witness_input_strip : (stripOpen.enp (keyIS 2 0)).bit 0 = true ∧ (stripOpen.inS 2).phase = .waiting ∧
    (stripOpen.enp (keyIS 2 0x18)).fld 16 2 = 0 ∧ (stripOpen.readFeed 0x200 0).2 = false ∧ stripOpen.enB (keyIS 2 0x1C) 0 = false := by decide
theorem test_input_strip : Tbl.find (after (.stripProcess (.inStrip 2)) stripOpen).engine.slots 2 = some (block [0x01000000, -3]) := rfl

/-- Output strip 1 enabled on rod 0's slot, its mute open, with a chain of section 9 whose b0 is 0.5. -/
def outState (cnt dest : Nat) : State :=
  let s := engState [(keySec 9 4, 0x10000000), (keyOS 1 0, 0x00000001), (keyOS 1 4, BitVec.ofNat 32 (9 + cnt * 0x10000)),
    (keyOS 1 0x18, BitVec.ofNat 32 dest)] [] [(2048, block [8, -5])]
  s.setOuS 1 { s.ouS 1 with mute := {} }

theorem witness_output_strip : let s := outState 0 0x00050001
    (s.osSource 1).1 = true ∧ (s.osSource 1).2.2 = 0 ∧ (s.osSource 1).2.1.length = s.blockLen 0 ∧ destOf s.eng 1 = some (1, 5) ∧
    s.destDom (1, 5) = 0 ∧ destConf s.eng 1 = false := by decide
theorem test_output_strip : Tbl.find (after (.stripProcess (.outStrip 1)) (outState 0 0x00050001)).engine.outs 0x10005 =
    some (block [8, -5]) := rfl
theorem witness_section : let s := outState 1 0
    (s.enp (keyOS 1 4)).fld 16 5 = 1 ∧ destOf s.eng 1 = none ∧ Tbl.find s.engine.secs.fades 9 = none ∧ (s.osSource 1).1 = true := by decide
theorem test_section_in_chain : ((after (.stripProcess (.outStrip 1)) (outState 1 0)).ouS 1).given.take 3 = [4, -2, 0] ∧
    ((after (.stripProcess (.outStrip 1)) (outState 1 0)).hist 9).x1 = 0 := ⟨rfl, rfl⟩
theorem witness_fade : let s := outState 1 0
    let t := s.setSecs { s.engine.secs with fades := [(9, ⟨10, {}, 0⟩)] }
    Tbl.find t.engine.secs.fades 9 = some ⟨10, {}, 0⟩ ∧ (10 : Nat) ≠ 9 ∧
    ((after (.stripProcess (.outStrip 1)) t).ouS 1).given.take 2 = [4, -2] := ⟨rfl, by decide, rfl⟩


theorem test_wrap72 : wrapS 72 (2 ^ 71) = -2 ^ 71 ∧ wrapS 72 (2 ^ 72 + 3) = 3 := by decide
theorem witness_tiers : let s := engState [] [] []
    s.tierDone 0 = true ∧ s.stripsDone = true ∧ s.tiersBelow 4 = true ∧ s.engine.abx.released = false := by decide
theorem test_release : let s := engState [] [] []
    (after .collectorRelease { s with tly := { s.tly with marks := [0, 1, 2, 3] } }).engine.abx.released = true ∧
    (after .collectorRelease { s with tly := { s.tly with marks := [0, 1, 3] } }).engine.abx.released = false := ⟨rfl, rfl⟩
theorem test_tier : (after (.tierComplete 3) (engState [] [] [])).engine.abx.tiers = [3] := rfl
theorem test_check : let t := after (.check .amend) State.reset
    t.engine.abx.chkBusy = true ∧ t.engine.abx.chkRun = true ∧ t.engine.abx.amdOther = .frozen ∧ t.engine.abx.mainOther = .building ∧
    (after (.check .full) t).engine.abx.chkIgn = true := ⟨rfl, rfl, rfl, rfl, rfl⟩
theorem test_check_waits : let s := State.reset.setAbx { State.reset.engine.abx with amdOther := .draining }
    (after (.check .amend) s).engine.abx.chkRun = false ∧ (after .checkStart (after (.check .amend) s)).engine.abx.chkRun = false := ⟨rfl, rfl⟩
theorem test_check_abort : (after .abort (after (.check .full) State.reset)).engine.abx.status = 8 ∧
    (after .abort (after (.check .full) State.reset)).engine.abx.mainOther = .building ∧ after .abort State.reset = State.reset := ⟨rfl, rfl, rfl⟩

/-! ## Bus, pages, NEXT -/

theorem test_sram_store : (after (.registerWrite 4 0x03000011 0xAABBCCDD) State.reset).word 0x03000010 = 0xAABBCCDD := rfl
theorem test_posted_register : (after (.registerWrite 0 0x1002C000 480) State.reset).reg 0x1002C000 = 480 ∧
    (after (.registerWrite 0 0x10040018 0xFFFFFFFF) State.reset).reg 0x10040018 = 0xFFFF := ⟨rfl, rfl⟩
theorem test_no_target : (after (.registerWrite 2 0x0FFFFFF0 1) State.reset).memc.fabErr = 1 ∧ memTarget 0x0FFFFFF0 = none ∧
    isRegAddr 0x0FFFFFF0 = false := ⟨rfl, rfl, rfl⟩
theorem witness_no_register : isRegAddr 0x10001FF0 = true ∧ memTarget 0x10001FF0 = none ∧ regDef 0x10001FF0 = none := by decide
theorem test_sctr_hold : (after (.sctrLoRead 3 23) { State.reset with sctr := 2 ^ 32 - 24 }).iniReg 0x10000104 3 = 0 ∧
    (after (.sctrLoRead 3 2) { State.reset with sctr := 2 ^ 32 }).iniReg 0x10000104 3 = 1 := ⟨rfl, rfl⟩
theorem test_odly_absent : (after (.odlyEnWrite 0 0x80000003) State.reset).reg 0x10038008 = 3 ∧
    State.reset.fldN 0x10130080 0 2 = 0 := ⟨rfl, rfl⟩
theorem test_odly_taken : (after (.odlyEnWrite 0 0x80000003) (State.reset.setReg 0x10130080 1)).reg 0x10038008 = 0x80000003 ∧
    (after (.odlyEnWrite 0 0) (State.reset.setReg 0x10038008 0x80000003)).reg 0x10038008 = 0 := ⟨rfl, rfl⟩
theorem witness_odly_delays : let s := { State.reset with live := [(keyOS 0 0, 1), (keyOS 0 0xC, 7)] }
    0 ∈ enabledOS s.live ∧ pfld s.live (keyOS 0 0xC) 0 17 ≠ 0 ∧ after (.odlyEnWrite 0 0) s = s := ⟨by decide, by decide, rfl⟩
-- page 1 is not LIVE after reset; the last word of its amendment area, and a word of the LIVE page
theorem test_page_edges : (after (.pageWrite 0 0x0210FFFC 5) State.reset).word 0x0210FFFC = 5 ∧
    (after (.pageWrite 0 0x0210FFFC 5) State.reset).engine.abx.wrDrop = 0 ∧
    (after (.pageWrite 0 0x00000000 5) State.reset).engine.abx.wrDrop = 1 := ⟨rfl, rfl, rfl⟩
theorem witness_param : ParamAt State.reset 2 0x10038108 (keyIS 0 8) ∧ ParamAt State.reset 2 0x10020004 0x10020004 :=
  ⟨Or.inl ⟨2, by decide, rfl, rfl⟩, Or.inr (Or.inr (Or.inr ⟨1, rfl, Or.inr (Or.inr ⟨by decide, by decide, Or.inl rfl⟩)⟩))⟩
theorem test_next_write : (after (.nextWrite 2 0x10038108 0x04000000) State.reset).nxt (keyIS 0 8) = 0x04000000 ∧
    (after (.nextWrite 2 0x10038108 0x04000000) State.reset).liv (keyIS 0 8) = 0x08000000 ∧
    (after (.nextWrite 2 0x10038108 0x04000000) State.reset).marks = [keyIS 0 8] := ⟨rfl, rfl, rfl⟩

/-! ## The commit unit and the tree commit -/

-- R112 to R125: the earliest boundary is two blocks away: C = 48 is taken at SCTR 0, C = 47 is refused
theorem test_arm_edge : (after (.commitArm 0) (State.reset.setReg 0x1002C000 48)).engine.cmt.armed = some ⟨48, false, false⟩ ∧
    (after (.commitArm 0) (State.reset.setReg 0x1002C000 47)).engine.cmt.reason = 0x20 := ⟨rfl, rfl⟩
theorem test_arm_busy : let s := after (.commitArm 0) (State.reset.setReg 0x1002C000 48)
    (after (.commitArm 0) s).engine.cmt.armIgn = true ∧ (after .cancel s).engine.cmt.cancelled = true ∧
    (after .confirm s).engine.cmt.confirm = true ∧ after .cancel State.reset = State.reset := ⟨rfl, rfl, rfl, rfl⟩

/-- A commit armed for C = 50 at its boundary. -/
def atB (page cond : Bool) (c : Commit) : State :=
  let s := State.running 48 [] [] true
  { s with
    next := [(keyIS 0 8, 0x04000000)], marks := [keyIS 0 8]
    engine := { s.engine with cmt := { c with armed := some ⟨50, page, cond⟩, state := 1 } } }

theorem witness_alone : (atB false false {}).unitAlone := ⟨rfl, rfl, by decide⟩
theorem test_commit_cancelled : (after .commitResolve (atB false false { cancelled := true })).engine.cmt.reason = 0x24 ∧
    (after .commitResolve (atB false true {})).engine.cmt.reason = 0x23 := ⟨rfl, rfl⟩
theorem test_commit_taken : (after .commitResolve (atB false false {})).liv (keyIS 0 8) = 0x04000000 ∧
    (after .commitResolve (atB false false {})).engine.cmt.epoch = 1 ∧
    (after .commitResolve (atB false false {})).engine.cmt.swapped = some 48 := ⟨rfl, rfl, rfl⟩
theorem test_commit_no_image : (after .commitResolve (atB true false {})).engine.cmt.reason = 0x22 := rfl
theorem test_commit_early : (after .commitResolve { atB false false {} with sctr := 24 }).engine.cmt.state = 1 := rfl

/-- PREPARE with TAG 5 was received in block 10; node 3 of the tree. -/
def prepared (block : Nat) : State :=
  let s := (State.running (24 * block) [] [] true).setReg 0x100E0000 3
  s.withTree { s.csc.tree with phase := 1, tag := some 5, prepAt := 10, target := 1200 }

theorem test_answer_timeout_edge : (after .answerTimeout (prepared 18)).csc.tree.ans = 2 ∧
    after .answerTimeout (prepared 17) = prepared 17 ∧ (prepared 18).cscRole ≠ 1 := ⟨rfl, rfl, by decide⟩
theorem test_answer : (after (.commitAnswerWrite 0x105) (prepared 11)).csc.tree.ans = 1 ∧
    (after (.commitAnswerWrite 0x205) (prepared 11)).csc.tree.ans = 2 ∧
    (after (.commitAnswerWrite 0x104) (prepared 11)).csc.tree.ans = 0 := ⟨rfl, rfl, rfl⟩

/-! ## Rods -/

/-- Rod 0 of the processing stage's page 0, tier 0, in domain M: one bead of source 5 at gain 0.5 (FROM = TO); `cnt` beads listed
from index 0 on with `split` + 1 pieces. -/
def rodState (cnt split : Nat) : State :=
  let s := engState [] [] [(5, block [100, -7])]
  let s := (s.setWord 0x01000004 (BitVec.ofNat 32 (cnt + split * 2 ^ 20 + 2 ^ 31)))
  let s := ((s.setWord 0 5).setWord 4 0x04000000).setWord 8 0x04000000
  ((s.setWord 16 5).setWord 20 0x08000000).setWord 24 0x08000000

theorem witness_rod_piece : let s := rodState 1 0
    (rodPieces (s.rod 0 0))[0]? = some (false, 0, 1) ∧ (s.rod 0 0).en = true ∧ s.tiersBelow (s.rod 0 0).tier = true ∧
    s.slotReady 5 = true ∧ s.slotDom 5 = (s.rod 0 0).dom ∧ s.memc.ecc = [] := by decide
theorem test_rod_unsplit : Tbl.find (after (.lanePieceDone 0 0) (rodState 1 0)).engine.slots 2048 = some (block [50, -4]) := rfl
theorem test_rod_split : let t := after (.lanePieceDone 0 1) (after (.lanePieceDone 0 0) (rodState 2 1))
    Tbl.find t.engine.slots 2048 = none ∧
    Tbl.find (after (.collectorPartial 0 1) (after (.collectorPartial 0 0) t)).engine.slots 2048 = some (block [150, -10]) := ⟨rfl, rfl⟩
-- the checker: an image with an enabled rod whose one bead names a source that exists, and one of tier beyond its source
theorem test_checker_ok : ((rodState 1 0).checkImage 0 0).status = 0 := rfl

/-! ## Chains, ports, PDM -/

/-- Chain 40 (a PDM chain) enabled with L = 8, its FIR off, as reset gives its other registers. -/
def chainState : State :=
  (State.running 480 [] [] true).setReg 0x10050A00 0x00080001

theorem witness_chain : chainState.chEn 40 = true ∧ chainState.chErr 40 = false ∧ chainState.chL 40 = 8 ∧
    chainState.chFir 40 = false := by decide
theorem test_window : boxAt 8 0 = 1 ∧ boxAt 8 28 = 1 ∧ boxAt 8 29 = 0 := ⟨rfl, rfl, rfl⟩
theorem test_rms_end : let s := (State.reset.setChain 3 { acc := 3 * 2 ^ 30, cnt := 1 }).setReg 0x100500DC 1
    ((after (.rmsWindowEnd 3) s).chain 3).ms = 3 ∧ ((after (.rmsWindowEnd 3) s).chain 3).seq = 1 := ⟨rfl, rfl⟩
theorem test_chain_clears : ((after (.pkClr 3) (State.reset.setChain 3 { pk := 9, hold := 2 })).chain 3).pk = 0 ∧
    ((after (.chainRestart 3) State.reset).chain 3).settling = true ∧
    (after (.rmsWinWrite 3 77) State.reset).reg 0x100500DC = 77 := ⟨rfl, rfl, rfl⟩
theorem test_settling : let s := State.reset.setChain 3 { age := 5000, settling := true }
    ((after (.settlingEnd 3) s).chain 3).settling = false ∧ (s.chain 3).wake = false := ⟨rfl, rfl⟩
theorem test_coefficient : (after (.fdcCoefWrite 2 5 7) State.reset).reg 0x10052814 = 7 ∧
    (after .fdcDropClr { State.reset with fdc := { drop := 4 } }).fdc.drop = 0 := ⟨rfl, rfl⟩
theorem test_coefficient_used : let s := State.reset.setReg 0x10050A00 0x00080003
    s.chEn 40 = true ∧ s.chFir 40 = true ∧ (after (.fdcCoefWrite 0 5 7) s).fdc.drop = 1 ∧ (after (.fdcCoefWrite 1 5 7) s).fdc.drop = 0 := ⟨rfl, rfl, rfl, rfl⟩

/-- Port 1 as given: a master at 48 kHz with the reset frame. -/
def portState (x : Port) (cfg ctl : Word) : State :=
  (((State.running 480 [] [] true).setReg 0x10060080 cfg).setReg 0x10060084 ctl).setPort 1 x

theorem test_port_off : ((after (.portDisable 1) (portState { st := .acquire } 0 1)).port 1).st = .off ∧
    ((after (.portDisable 1) (portState { st := .run, inFrame := true } 0 1)).port 1).ending = true := ⟨rfl, rfl⟩
theorem test_port_clear : ((after (.clrcnt 1) (portState { slipDrop := 3, slipArmed := false } 0 1)).port 1).slipDrop = 0 := rfl
theorem test_mask_write : ((after (.maskWrite 1 true 5 99) (portState {} 0 0)).port 1).pendAt = 99 ∧
    (after (.maskWrite 1 true 5 99) (portState {} 0 0)).reg 0x10060090 = 5 := ⟨rfl, rfl⟩
theorem test_pdm_clock : (after (.pdmClockStart 1) (chainState.setReg 0x10061000 2)).ports.pdmRun = 2 ∧
    ((after (.pdmClockStart 1) (chainState.setReg 0x10061000 2)).chain 36).wake = true := ⟨rfl, rfl⟩
theorem test_pdm_stuck : (after (.pdmStuck 15) State.reset).ports.stuck = 0x8000 := rfl
theorem test_slave_repeat : let s := portState { st := .run, next := 481, runAt := 0, lastVals := [240] } 0x00000000 1
    s.ptMaster 1 = false ∧ ((after (.slipRepeat 1) s).port 1).next = 482 := ⟨rfl, rfl⟩
theorem test_bad_length : ((after (.incorrectFrameLength 1) (portState { st := .run } 0 1)).port 1).underruns =
    1 := rfl

/-! ## Bridges -/

/-- Channel 5 as given, seated and enabled, its rail at 2,048. -/
def brState (c : BrCh) : State :=
  let s := (State.running 480 [] [] true).setReg 0x10070140 1
  ({ s with cus := { s.cus with own := 2 } }.setBr 5 c).setBank 0 { rail := 2048, good := 2048, valid := true }

theorem test_bridge_states : ((after (.carrierPeriodStart 5) (brState {})).br 5).st = .cmUp ∧
    ((after (.carrierPeriodStart 5) (brState { st := .lvlUp, lam := 65536, row := .pattern })).br 5).st = .run ∧
    ((after (.carrierPeriodStart 5) ((brState { st := .lvlDn }).setReg 0x10070140 0)).br 5).st = .cmDn := ⟨rfl, rfl, rfl⟩
theorem witness_overrides : ((brState {}).br 5).row.overrides = false := by decide
theorem witness_runs : (brState { st := .run, lam := 65536, lamTo := 65536, row := .pattern }).brRuns 5 := by
  refine ⟨rfl, rfl, rfl, rfl, rfl, rfl, rfl, ?_, rfl, rfl, rfl, rfl, rfl, ?_, rfl, rfl, rfl, rfl, ?_⟩ <;> decide
-- with an empty history and no error the drive is 0: both pulses are half the period
theorem test_silence : let t := after (.carrierPeriodStart 5) (brState { st := .run, lam := 65536, lamTo := 65536, row := .pattern })
    (t.br 5).wA = 128 ∧ (t.br 5).wB = 128 ∧ (t.br 5).errs = [0] := ⟨rfl, rfl, rfl⟩
theorem test_bridge_enable : (after (.bridgeEnable 5) State.reset).reg 0x10070140 = (State.reset.reg 0x10070140) ||| 1 ∧
    ((after (.bridgeDisable 5) (brState { offByClear := true })).br 5).offByClear = false := ⟨rfl, rfl⟩
theorem test_range : ((after (.rangeChange 5 7) (brState { st := .run })).br 5).ranging = .waiting 0 ∧
    ((after (.rangeChange 5 7) (brState {})).br 5).fsq = 7 * 65536 := ⟨rfl, rfl⟩
theorem test_latch : ((after (.clrLatch 5) (brState { st := .latched })).br 5).clrReq = true ∧
    ((after (.verdict 5 2) (brState { st := .retry, step := .dwell })).br 5).verdict = 2 ∧
    ((after (.retriesReset 5) (brState { st := .run, runN := 3840000, retries := 2 })).br 5).retries = 0 := ⟨rfl, rfl, rfl⟩
theorem test_clear_pin : let s := after (.bclrActive 0) ((brState { st := .run }).setBank 0 { ctl := 0 })
    let t := after (.carrierPeriodStart 5) (after (.bclrRelease 0) s)
    (s.bank 0).clear = true ∧ ((after (.bclrRelease 0) s).br 5).st = .run ∧ (t.br 5).offByClear = true ∧ (t.br 5).st = .lvlDn := ⟨rfl, rfl, rfl, rfl⟩
-- R276: CLRRES = 1 with CLEAR_CODE = 1 resumes from the common-mode ramp
theorem test_clear_resumes : let s := (brState { st := .run, ended := true }).setBank 0 { ctl := 3 }
    ((after (.carrierPeriodStart 5) s).br 5).st = .cmUp ∧ ((after (.carrierPeriodStart 5) s).br 5).ended = false := ⟨rfl, rfl⟩
-- R277 at its edges: 2,037 and 2,059 are errors, 2,038 and 2,058 are not
theorem test_clock_window : (after (.clockErrorWindow 2037) State.reset).mod.clkErr = true ∧
    (after (.clockErrorWindow 2059) State.reset).mod.clkErr = true ∧ (after (.clockErrorWindow 2038) State.reset).mod.clkErr = false ∧
    (after (.clockErrorWindow 2058) State.reset).mod.clkErr = false := ⟨rfl, rfl, rfl, rfl⟩
theorem test_clock_recovers : let bad : State := { State.reset with mod := { clkErr := true, goodWins := 479 } }
    (after (.clockErrorWindow 2048) bad).mod.clkErr = false ∧ (after .edgeClockStopped State.reset).mod.clkStopped = true := ⟨rfl, rfl⟩
-- the fourth OC of eight periods trips; the third cuts the pulse
theorem test_trip : ((after (.ocDetect 5 128) (brState { st := .run, wA := 128, wB := 128, oc := 0xE })).br 5).st = .trip ∧
    ((after (.ocDetect 5 128) (brState { st := .run, wA := 128, wB := 128, oc := 0x6 })).br 5).st = .run ∧
    ((after (.ocDetect 5 128) (brState { st := .run, wA := 128, wB := 128, oc := 0x6 })).br 5).wA = 0 := ⟨rfl, rfl, rfl⟩
theorem test_oc_while_low : ((after (.ocDetect 5 0) (brState { st := .run, wA := 10, wB := 10 })).br 5).ocIdle = true := rfl
theorem test_retry : let s := (brState { st := .trip, tripN := 384000 }).setReg 0x10070140 3
    ((after (.tripTimerExpiry 5) s).br 5).st = .retry := rfl
theorem test_dwell_end : let c : BrCh := { st := .retry, step := .dwell, dwellN := 1023 * 384, verdict := 2, retries := 2 }
    ((after (.retryDwellEnd 5) (brState c)).br 5).st = .latched ∧
    ((after (.retryDwellEnd 5) (brState { c with verdict := 1 })).br 5).st = .lvlUp := ⟨rfl, rfl⟩
theorem witness_no_owner : ((brState {}).monG 1).owner ≠ some 5 := by decide

/-! ## Supervision, contacts, control lines -/

theorem test_slot_start : let s := (State.running 24000 [] [] true).setReg 0x10080104 1
    (after .scanSlotStart s).mon.slotAt = some 2 ∧ ((after .scanSlotStart s).monG 1).cur = 2 ∧
    ((after .scanSlotStart s).monC 6).slotOpen = true ∧ ((after .scanSlotStart s).monC 5).slotOpen = false := ⟨rfl, rfl, rfl, rfl⟩
theorem test_slot_once : let s := State.running 24000 [] [] true
    after .scanSlotStart (after .scanSlotStart s) = after .scanSlotStart s ∧ (State.running 24024 [] [] true).sctr % 12000 ≠ 0 := ⟨rfl, by decide⟩
theorem test_window_latch : let s := fun (lost : Bool) => (State.running 11976 [] [] true).setMonC 4 { slotOpen := true, lost := lost, sums := [2 ^ 24 * 5] }
    ((after (.windowLatch 4) (s false)).monC 4).latched.headD 0 = 5 ∧ ((after (.windowLatch 4) (s true)).monC 4).latched = [] ∧
    ((after (.windowLatch 4) (s true)).monC 4).cause = 3 ∧ ((after (.windowLatch 4) (s true)).monC 4).seq = 1 := ⟨rfl, rfl, rfl, rfl⟩
-- a line judged without a reference changes nothing but that it has been judged
theorem test_judged : let s := State.reset.setMonC 4 { seq := 3, valid := true, cls := 1, latched := [8, 4], clipped := true }
    ((after (.supEvaluate 4) s).monC 4).judged = 3 ∧ ((after (.supEvaluate 4) s).monC 4).lineFault = false := ⟨rfl, rfl⟩
-- R301 at the reset thresholds and no hysteresis: 80 SHORT, 81 and 946 ACTIVE, 947 and 3,278 NORMAL, 3,279 OPEN
theorem test_contact_codes : let s := (State.reset.setReg 0x10084000 0x00010001)
    (([80, 81, 946, 947, 3278, 3279] : List (BitVec 12)).map (fun c => ((after (.sinSample 0 c) s).sinAt 0).state)) = [2, 1, 1, 0, 0, 3] := rfl
theorem test_contact_debounce : let s := (State.reset.setReg 0x10084000 0x00020001)
    ((after (.sinSample 0 80) s).sinAt 0).state = 3 ∧ ((after (.sinSample 0 80) (after (.sinSample 0 80) s)).sinAt 0).state = 2 := ⟨rfl, rfl⟩
theorem test_threshold_write : ((after (.sinThresholdWrite false 0x01000010) (State.reset.setSin 4 { run := 3 })).sinAt 4).run = 0 ∧
    (after (.sinThresholdWrite false 0xFFFFFFFF) State.reset).reg 0x10084004 = 0x0FFF0FFF := ⟨rfl, rfl⟩
theorem test_level_write : (after (.ctlLevelWrite 1 5) State.reset).reg 0x10160004 = 5 ∧ (after (.ctlLevelWrite 1 5) State.reset).mon.ctl.written = 2 := ⟨rfl, rfl⟩
theorem test_ctl_in : let s := State.reset.setReg 0x10160024 2
    (after (.ctlInSample 9 true) s).mon.ctl.inLvl = 0 ∧ (after (.ctlInSample 9 true) (after (.ctlInSample 9 true) s)).mon.ctl.inLvl = 0x200 := ⟨rfl, rfl⟩
theorem test_pulse_end : (after (.ctlPulseEnd ⟨63, 0⟩) { State.reset with mon := { State.reset.mon with ctl := { pulse := 2 ^ 63 + 1 } } }).mon.ctl.pulse = 1 := rfl

/-! ## Reserve -/

/-- Seated, with a battery of 200 Ah and a mains line on CTL_IN 3. -/
def rsvState (r : Reserve) : State :=
  let s := (State.running 480 [] [] true).setReg 0x10090000 7
  { s with cus := { s.cus with own := 2 }, zk := { s.zk with rsv := { r with par := [(1, 200), (14, 3)] } } }

theorem test_sar : ((after (.sarSlot 10) (rsvState {})).sar.slot = 1) ∧ Tbl.getD (after (.sarSlot 10) (rsvState {})).sar.codes 0 (0, 0) = (10, 1) := ⟨rfl, rfl⟩
theorem test_sar_edges : (after (.sarSlot 10) { rsvState {} with sar := { slot := 7, frame := 124, sup := 3 } }).sar.sup = 4 ∧
    (after (.sarSlot 10) { rsvState {} with sar := { slot := 7, frame := 123 } }).sar.frame = 124 := ⟨rfl, rfl⟩
theorem test_qclr : (after .qclr { State.reset with sar := { qacc := 5, qcnt := 2 } }).sar.qacc = 0 ∧
    (after .qaccLoRead { State.reset with sar := { qacc := -1, qcnt := 2 } }).sar.heldHi = 0xFFFF := ⟨rfl, rfl⟩
theorem test_dms : let s := { rsvState {} with sctr := 48000 }
    (after .dmsLatch s).sar.dmsSeq = 1 ∧ (after .dmsLatch (after .dmsLatch s)).sar.dmsSeq = 1 := ⟨rfl, rfl⟩
theorem witness_mains : 0 ≤ (rsvState {}).rsvPar 14 ∧ (rsvState {}).rsvPar 14 < 32 ∧ (rsvState {}).rsvPar 1 ≠ 0 := by
  have h : (rsvState {}).rsvPar 14 = 3 := rfl
  have h2 : (rsvState {}).rsvPar 1 = 200 := rfl
  rw [h, h2]
  exact ⟨by decide, by decide, by decide⟩
theorem test_mains : (after .mainsSample (rsvState { mainsRun := 9 })).zk.rsv.lost = true ∧
    (after .mainsSample (rsvState { mainsRun := 8 })).zk.rsv.mainsRun = 9 := ⟨rfl, rfl⟩
theorem test_charge_off : (after .reserveSecond State.reset) = State.reset := rfl

/-! ## References and time bases -/

theorem test_slot_proves : let s := (State.running 480 [] [] true).setRefSlot 4 { onTime := 2 }
    ((after (.referenceEvent 4 ⟨5, 0⟩) s).refSlot 4).q = 1 ∧ ((after (.referenceEvent 4 ⟨5, 0⟩) s).refSlot 4).phase = 5 := by decide
-- R351: base 2 stands 1 ns before a multiple of 500,000 ns, and passes it in its next tick; while it stands there is no event
theorem test_base_event : let s := ((State.running 480 [] [] true).setReg 0x100B0200 1).setTb 2 { val := 499999 * 2 ^ 40 }
    (s.baseEvent 2 = none) ∧ ((tbRun 1 s).baseEvent 2).isSome = true := by decide
-- reset WIN 50,000, HYS 5,000, PROVE 30: |f| = 45,000 counts, 45,001 starts again
theorem test_slot_qualifies : let s := fun (n : Nat) => (State.running 480 [] [] true).setRefSlot 2 { q := 1, count := n, fresh := true }
    ((after (.slotMeasurement 2 45000) (s 29)).refSlot 2).q = 2 ∧ ((after (.slotMeasurement 2 45000) (s 28)).refSlot 2).count = 29 ∧
    ((after (.slotMeasurement 2 45001) (s 29)).refSlot 2).count = 0 := ⟨rfl, rfl, rfl⟩
-- QUALIFIED: 50,000 stands, 50,001 dwells
theorem test_slot_dwell : let s := (State.running 480 [] [] true).setRefSlot 2 { q := 2, fresh := true }
    ((after (.slotMeasurement 2 50000) s).refSlot 2).count = 0 ∧ ((after (.slotMeasurement 2 50001) s).refSlot 2).count = 1 := ⟨rfl, rfl⟩
theorem test_slot_lost : ((after (.slotLost 2) (State.reset.setRefSlot 2 { q := 2 })).refSlot 2).q = 0 := rfl
theorem test_freq_write : (after (.refFreqWrite 0xFFFFFFFF) (State.reset.setReg 0x100A0000 4)).ref.freqNext = some (-1) := rfl
theorem test_base_step : let s := (State.reset.setReg 0x100B0000 1).setReg 0x100B0024 3
    ((after (.tbsStep 0 0) s).tb 0).val = 3 * 2 ^ 40 := rfl
theorem test_base_ticks : let s := State.reset.setReg 0x100B0000 1
    ((after (.tbNsRead 1 0 2) s).tb 0).val = 2 * (0x0411AAAA * 2 ^ 16 + 0xAAAB) := rfl
theorem test_trigger_late : let s := State.reset.setReg 0x100B1004 0
    ((after (.triggerArm 0 0) s).trg 0).armed = false := rfl
theorem test_trigger_waits : let s := State.reset.setReg 0x100B100C 500
    ((after (.triggerArm 0 0) s).trg 0).armed = true ∧ ((after (.triggerDisarm 0) (after (.triggerArm 0 0) s)).trg 0).armed = false := ⟨rfl, rfl⟩
theorem test_capture : let s := State.reset.setReg 0x100B2000 1
    ((after (.captureEdge 0 true 0) s).capU 0).valid = true ∧
    ((after (.captureEdge 0 true 0) (after (.captureEdge 0 true 0) s)).capU 0).ovr = 1 ∧
    ((after (.rel 0) (after (.captureEdge 0 true 0) s)).capU 0).valid = false := ⟨rfl, rfl, rfl⟩

/-! ## MACs and streams -/

/-- MAC 1 with these control bits, taking every destination; queues 3 (of 16 bytes) and 5 (of 32 bytes) with one free buffer at 0x03002000. -/
def macState (ctl : Word) : State :=
  let s := (((State.reset.setReg 0x100C4000 ctl).setReg 0x100C4010 (BitVec.ofNat 32 (5 + 3 * 2 ^ 7 + 5 * 2 ^ 14 + 3 * 2 ^ 21))).setReg
    0x10110060 (BitVec.ofNat 32 (1 + 4 * 8))).setReg 0x101100A0 (BitVec.ofNat 32 (1 + 2 + 4 * 8 + 0x10 * 256))
  (s.setQueue 3 { count := 1, wr := 1 }).setWord 0x03000000 0x03002000

/-- A frame of 64 bytes of this EtherType to a group's address. -/
def frame64 (t : List Byte) : EthFrame :=
  { bytes := [1, 2, 3, 4, 5, 6, 7, 8, 9, 10, 11, 12] ++ t ++ List.replicate 50 0, fcsOk := true }

theorem witness_frame : (macState 0x401).rxCounter 1 (frame64 [0x12, 0x34]) = 0 ∧ (macState 0x401).queEsize 3 = 16 ∧
    (macState 0x401).queEsize 5 = 32 ∧ (macState 0x401).queue 3 = { count := 1, wr := 1 } ∧
    (macState 0x401).queEntry 5 0 = 0x03000400 ∧ (macState 0x401).queHead 3 = [0x03002000, 0, 0, 0] := by decide
theorem test_frame_delivered : let t := after (.frameReceive 1 (frame64 [0x12, 0x34])) (macState 0x401)
    (t.queue 3).count = 0 ∧ (t.queue 5).count = 1 ∧ t.word 0x03000400 = 0x40 ∧ t.word 0x03000404 = 0x03002000 ∧ t.byte 0x0300200C = 0x12 := by
  decide
-- 13 bytes count as RX_DROP; 63 bytes as RX_RUNT
theorem test_frame_short : (after (.frameReceive 1 { bytes := List.replicate 13 0, fcsOk := true }) (macState 0x401)).mac 1 = { cnt := [(1, 1)] } ∧
    ((after (.frameReceive 1 { bytes := List.replicate 63 0, fcsOk := true }) (macState 0x401)).mac 1).cnt = [(2, 1)] := by decide
-- a PAUSE of 3 quanta of 512 bit times
theorem test_pause : let f : EthFrame := { bytes := beBytes 6 0x0180C2000001 ++ [0, 0, 0, 0, 0, 0, 0x88, 0x08, 0, 1, 0, 3] ++ List.replicate 46 0, fcsOk := true }
    ((after (.frameReceive 1 f) (macState 0x801)).mac 1).paused = 1536 := by decide
theorem test_no_buffer : ((after (.frameReceive 1 (frame64 [0x12, 0x34])) ((macState 0x401).setQueue 3 {})).mac 1).nobufTold = true := by decide

-- a frame of TXQ: the descriptor's bytes, padded to 60, and its word returns on TXDONE
theorem test_transmit : let s := (((((macState 2).setQueue 3 {}).setQueue 5 { count := 1, wr := 1 }).setWord 0x03000400 20).setWord 0x03000404
      0x03003000).setWord 0x0300040C 0x77
    let t := after (.frameTransmit 1) s
    (t.mac 1).sent.length = 60 ∧ t.word 0x03000000 = 0x77 ∧ t.word 0x03000004 = 0 ∧ (t.queue 3).count = 1 := by decide
theorem test_collision : let s := ((((macState 0x82).setQueue 3 {}).setQueue 5 { count := 1, wr := 1 }))
    s.txChoice 1 ≠ .none ∧ ((after (.collision 1 false) s).mac 1).attempts = 1 := by decide
theorem witness_ready : let s := (macState 2).setMac 1 { ready := [{ stream := 4, bytes := [1] }] }
    ((after (.frameTransmit 1) s).mac 1).sent = 1 :: List.replicate 59 0 ∧ ((after (.frameTransmit 1) s).stx 4).sent = 1 := by decide
-- RX stream 33: 2 channels of 48 samples at 24 bits; SPP code 5 is refused
theorem test_rx_stream : let s := fun (spp : Nat) => State.reset.setReg 0x100C6040 (BitVec.ofNat 32 (2 + 16 * spp + 8 + 128))
    ((after (.streamRxEnable 33) (s 3)).srx 33).st = 1 ∧ ((after (.streamRxEnable 33) (s 5)).srx 33).cfgErr = true := by decide
theorem test_tx_stream : let s := ({ State.reset with sctr := 100 }).setReg 0x100C7040 (BitVec.ofNat 32 (2 + 16 * 3))
    ((after (.streamTxEnable 33) s).stx 33).start = 144 ∧ ((after (.streamTxDisable 33) (after (.streamTxEnable 33) s)).stx 33).on = false := by decide
theorem test_mdio : (after (.mdioDone 0xBEEF) (after .mdioGo (State.reset.setReg 0x100C0024 0x04000000))).reg 0x100C0024 = 0x0400BEEF := by decide

/-! ## The cascade -/

/-- Node 5, a follower, at block 100, port 0 enabled with 16 channels and its four lanes aligned. -/
def cscState (x : CscPort) : State :=
  let s := ((State.running 2400 [] [] true).setReg 0x100E0000 (BitVec.ofNat 32 (2 + 5 * 4))).setReg 0x100E0100 (BitVec.ofNat 32 (1 + 16 * 2))
  let lane := fun (n : Nat) (u : State) => u.setLane n { lock := true, marker := true, logical := n, seq := 9 }
  (((lane 3 (lane 2 (lane 1 (lane 0 s)))))).setCp 0 { x with seqOk := true }

theorem witness_lanes : (cscState { st := 3 }).lanesAligned 0 := by
  refine ⟨fun i hi => ?_, fun k hk => ⟨k, hk, ?_⟩, rfl⟩
  · rcases i with _ | _ | _ | _ | i <;> first | exact ⟨rfl, rfl, by decide, rfl⟩ | omega
  · rcases k with _ | _ | _ | _ | k <;> first | rfl | omega
-- the second marker missed loses the lane, the first does not
theorem test_marker_missed : let s := (cscState { st := 3 }).setLane 2 { lock := true, marker := true, logical := 2, seq := 9, missed := 1 }
    ((after (.markerMissed 2) (cscState { st := 3 })).cp 0).st = 3 ∧ ((after (.markerMissed 2) s).cp 0).st = 1 ∧
    (after (.markerMissed 2) s).lane 2 = { lock := true, logical := 2, seq := 9, missed := 2, mark := 1, turn := some false } := by decide
theorem test_marker_receive : let s := (cscState {}).setLane 2 { lock := true, seen := true, seq := 255 }
    (after (.markerReceive 2 2 0xFF0002A7 2000) s).lane 2 = { lock := true, marker := true, seen := true, logical := 2, seq := 0, skew := 1023, turn := some true } := by decide
theorem test_port_enable : ((after (.cascadePortEnable 0) (cscState {})).cp 0).st = 1 ∧ ((after (.cascadePortDisable 0) (cscState { st := 3 })).cp 0).st = 0 ∧
    ((after (.cascadePortEnable 1) (cscState {})).cp 1).st = 1 := by decide
theorem test_map_hold : ((after (.mapHoldExpiry 0) (cscState { st := 3, map := 7, rxMap := 3 })).cp 0).map = 3 := by decide
-- a segment 4 blocks old goes again; one 3 blocks old does not
theorem test_resend : let x := fun (b : Nat) => ({ st := 3, sendIdx := 1, win := [{ seq := 1, sentAt := some b, msg := .scope 0 0 true }] } : CscPort)
    ((after (.segmentResend 0) (cscState (x 96))).cp 0).sendIdx = 0 ∧ ((after (.segmentResend 0) (cscState (x 97))).cp 0).sendIdx = 1 := by decide
-- NODE 63 is refused; so is LEADER with a NODE other than 0
theorem test_role_write : (after (.cascadeRoleWrite (BitVec.ofNat 32 (2 + 63 * 4))) (cscState {})).csc.cfgErr = true ∧
    (after (.cascadeRoleWrite 5) (cscState {})).csc.cfgErr = true ∧ (after (.cascadeRoleWrite 1) (cscState {})).csc.cfgErr = false := by decide
theorem test_frame_send : ((after (.cascadeFrameSend 0) (cscState { st := 2, own := 7 })).cp 0).sent.map (fun f => (f.node, f.up, f.sctr, f.n, f.meas)) =
    some (5, true, 2400, 16, 7) := by decide
/-- A frame of the leader, in place. -/
def downFrame : CascadeFrame := { up := false, sctr := 2400, map := 1, t0 := 0 }
theorem witness_in_place : (cscState { st := 2 }).inPlace 0 downFrame := ⟨by decide, rfl⟩
-- the second frame accepted brings the port up; DIR the same way refuses it with REASON 1
theorem test_frame_receive : let s := cscState { st := 2, okRun := 1 }
    ((after (.cascadeFrameReceive 0 downFrame) s).cp 0).st = 3 ∧ ((after (.cascadeFrameReceive 0 downFrame) s).cp 0).map = 0 ∧
    ((after (.cascadeFrameReceive 0 downFrame) (cscState { st := 2 })).cp 0).st = 2 ∧
    ((after (.cascadeFrameReceive 0 { downFrame with up := true }) s).cp 0).st = 4 ∧
    ((after (.cascadeFrameReceive 0 { downFrame with up := true }) s).cp 0).reason = 1 := by decide
-- the fourth block without a frame takes the port back to ALIGNED
theorem test_deadline : ((after (.cascadeFrameDeadline 0) (cscState { st := 3, missRun := 3 })).cp 0).st = 2 ∧
    ((after (.cascadeFrameDeadline 0) (cscState { st := 3, missRun := 2 })).cp 0).st = 3 ∧
    ((after (.cascadeFrameDeadline 0) (cscState { st := 3, handled := some 100 })).cp 0).lost = 0 := by decide

/-! ## Custody -/

/-- A device with its escrow port and this custody state. -/
def cusState (c : Custody) : State := { State.running 2400 [] [] false with cus := c, pwr := { phase := .awake, step := 7 } }

theorem test_give_up : let t := after (.giveUp 9) ((cusState { own := 2, escDrive := true }).setReg 0x100F0000 5)
    t.cus.own = 3 ∧ t.cus.cause = 9 ∧ t.cus.fwcode = 5 ∧ t.cus.escDrive = false ∧ (t.esc.sealA.map (fun z => z.cause)) = some 9 := by decide
theorem test_give_up_not_seated : (after (.giveUp 3) (cusState { own := 1 })).cus.own = 1 ∧
    (after (.giveup 7) (cusState { own := 0 })).fldN 0x100F0000 0 4 = 7 := by decide
-- the fourth restart within 600 s, 28,800,000 samples, holds the device; one that lies a sample further back no longer counts
theorem test_restarts : let s := fun (first : Nat) => { cusState { own := 3, restarts := [28800000, 200, first] } with sctr := 28800100 }
    (after (.selfRestart 0x08) (s 100)).cus.held = true ∧ (after (.selfRestart 0x08) (s 99)).cus.held = false ∧
    (after (.selfRestart 0x08) (s 99)).cus.roleB = true ∧ (after (.selfRestart 0x08) (s 100)).cus.roleB = false := by decide
-- a partner that already shows 01 makes a device that gives up let go of its pins
theorem test_give_up_at_01 : let t := after (.giveUp 9) (cusState { own := 2, partner := 1 })
    t.cus.own = 0 ∧ t.pwr.phase = .entering ∧ t.cus.latch = false := by decide
theorem test_partner_absent : (after .partnerAbsentTimeout (cusState { own := 3, paired := true, partner := 0 })).cus.own = 0 := by decide
theorem test_guard : let t := after .guardExpiry (cusState { own := 1, guard := true })
    t.cus.own = 2 ∧ t.cus.escDrive = true ∧ t.esc.image.isSome = true := by decide
theorem test_yield : (after .yieldTimeout (cusState { own := 1, yielding := true })).pwr.phase = .entering := by decide
-- 01 against 01: A guards, B yields; 10 against 10: B gives way
theorem test_cusp : (after (.cuspChange 1) (cusState { own := 1 })).cus.guard = true ∧
    (after (.cuspChange 1) (cusState { own := 1, roleB := true })).cus.yielding = true ∧
    (after (.cuspChange 2) (cusState { own := 2, roleB := true })).cus.own = 0 ∧ (after (.cuspChange 2) (cusState { own := 2 })).cus.own = 2 := by decide
theorem test_cusp_wakes : let s := ({ cusState { own := 0, partner := 2 } with pwr := { phase := .vault } }).setReg 0x10150000 0x20
    (after (.cuspChange 0) s).pwr.phase = .rising ∧ (after (.cuspChange 2) s).pwr.phase = .vault := by decide
theorem test_visit : let s := { cusState { own := 0, paired := true, partner := 2 } with pwr := { phase := .vault } }
    let beat := fun (n : Word) => ([0, 0, 0, 0, 0, 0, n] : List Word) ++ [crc32 [0, 0, 0, 0, 0, 0, n]]
    (after (.presenceVisit [beat 4, beat 5]) s).cus.own = 1 ∧ (after (.presenceVisit [beat 4, beat 6]) s).pwr.phase = .entering := by
  decide +kernel
-- two hours without a visit, STBY_CHECK being 1
theorem test_standby_missing : let s := fun (at' : Nat) =>
      { (cusState { own := 2, paired := true, escDrive := true }).setReg 0x100F0000 0x100 with sctr := at' }
    (after .custodyStandbyMissing (s 345600000)).esc.nextSeq = (cusState {}).esc.nextSeq + 1 ∧
    (after .custodyStandbyMissing (s 345599999)).esc.nextSeq = (cusState {}).esc.nextSeq := by decide
-- R425, source 4: its own seal of SCTR 4,801, rounded up; 01 follows at the next boundary
theorem test_resume : let z : Seal := { cause := 1, fwcode := 0, sctr := 4801, tb := 0, bridges := [] }
    let s := { cusState { own := 0 } with started := false, sctr := 0, pwr := { phase := .awake, step := 5, resume := true }, esc := { sealA := some z } }
    (after (.resume {} none) s).cus.own = 0 ∧ (after (.resume {} none) s).sctr = 4824 ∧ (after (.resume {} none) s).cus.sctrSrc = 4 ∧
    (after (.blockBoundary 0) (after (.resume {} none) s)).cus.own = 1 := by decide +kernel
theorem test_checkpoint : let s := cusState { own := 2, escDrive := true }
    (after .checkpointSeal s).esc.covered = s.esc.nextSeq ∧ (after .checkpointSeal s).esc.journal.map (fun e => e.kind) = [7] := by decide

/-! ## Power, reset and boot -/

/-- A device in this power state. -/
def pwrState (p : Power) : State := { State.running 2400 [] [] false with pwr := p }

theorem test_por : (after (.por 0x1F) (pwrState { phase := .awake })).pwr.straps = 0x1F ∧ (after (.por 0x1F) (pwrState { phase := .awake })).cus.roleB = true := by
  decide
theorem test_supplies : (after .supplyGood (pwrState { phase := .rising })).pwr.phase = .awake ∧
    (after (.supplyRiseTimeout 0x1FE) (pwrState { phase := .rising })).pwr.trip = 1 ∧
    (after (.supplyRiseTimeout 0x1FF) (pwrState { phase := .rising })).pwr.phase = .rising ∧
    (after .supplyRetry (pwrState { phase := .retry })).pwr.phase = .rising := by decide
theorem test_trips : let s := { pwrState { phase := .awake } with cus := { own := 2, escDrive := true } }
    (after (.supplyTrip 5) s).pwr.phase = .rising ∧ (after (.supplyTrip 5) s).cus.cause = 7 ∧ (after (.supplyTrip 1) s).cus.own = 3 ∧
    (after (.supplyTrip 9) s).pwr.phase = .awake := by decide
theorem test_pin_reset : (after .pinReset (pwrState { phase := .awake })).pwr.phase = .held ∧
    (after .pinReset (pwrState { phase := .vault })).pwr.phase = .vault ∧
    (after (.resetRelease 0) (pwrState { phase := .held, resetLow := true })).pwr.phase = .awake ∧
    (after (.resetRelease 0) (pwrState { phase := .vault, resetLow := true })).pwr.phase = .rising := by decide
theorem test_enter : (after .enter (pwrState { phase := .awake })).pwr.phase = .entering ∧
    (after .vaultEntered (pwrState { phase := .entering })).pwr.phase = .vault ∧
    (after .vaultEntered (pwrState { phase := .entering, wakeSeen := some 2 })).pwr.wakeSrc = 2 ∧
    (after .enter { pwrState { phase := .awake } with cus := { own := 2 } }).pwr.err = true := by decide
theorem test_wake : (after (.wake 4) (pwrState { phase := .vault })).pwr.phase = .rising ∧
    (after (.wake 1) (pwrState { phase := .entering, wakeSeen := some 4 })).pwr.wakeSeen = some 1 ∧
    (after (.wake 3) ((pwrState { phase := .vault }).setReg 0x10150000 0x40)).pwr.phase = .vault ∧
    (after .wakeTimerExpiry ((pwrState { phase := .vault }).setReg 0x10150000 0x42)).pwr.phase = .vault := by decide

-- FIPS 180-4's example "abc", and the P-256 signature of "sample" in RFC 6979, A.2.5
theorem test_sha256 : sha256 [0x61, 0x62, 0x63] = bigBytes 32 0xBA7816BF8F01CFEA414140DE5DAE2223B00361A396177A9CB410FF61F20015AD := by
  decide +kernel
theorem test_ecdsa : ecVerify 0x60FED4BA255A9D31C961EB74C6356D68C049B8923B61FA6CE669622E60F29FB6
    0x7903FE1008B8BC99A41AE9E95628BC64F2F1B20C2D7E9F5177A3C294D4462299
    0xEFD48B2AACB6A8FD1140DD9CD45E81D69D2C877B56AAF991C34D0EA84EAF3716
    0xF7CB1C942D657C41D436C7A1B6E29F65F3E900DBB9AFF4064DC4AB2F843ACDA8
    (bigNat (sha256 [0x73, 0x61, 0x6D, 0x70, 0x6C, 0x65])) = true := by decide +kernel

/-- The public key of `image`, its signature, and the SHA-256 of its body of 64 zeros. -/
def imageKey : List Byte := bigBytes 32 0xF9EBE464147CC102D92324D099D927C1A50E42D57A08A116FFEC0A29819D8C65 ++
  bigBytes 32 0x70BAF7D12888902A6A0C1D67ADD103123C859AB69BF8E9431C9384930D4B7EEE
def imageSig : List Byte := bigBytes 32 0x53C5A47B0F3273D7333320D3DC363B241A99928781B9D8827D9660A01DCDF9E9 ++
  bigBytes 32 0x16B0BCCCDF754631AC1AE925817713B98623813CF0ED06FD26D1E4BB29792FEE

/-- The words of bytes, the least significant first. -/
def wordsOf : List Byte → List Word
  | a :: b :: c :: d :: t => (d ++ c ++ b ++ a) :: wordsOf t
  | _ => []

/-- An image of rollback index 5, laid out by R432 and signed outside this package. -/
def image : List Word :=
  [0x5A4B5231, 0, 5, 64] ++ wordsOf (bigBytes 32 0xF5A5FD42D16A20302798EF6ED309979B43003D2320D9F0E8EA9831A92759FB4B ++ imageKey ++ imageSig) ++
    List.replicate 36 0

/-- A device whose key hash is that of the image's key accepts it up to a counter of 5; a changed word fails. -/
theorem test_image (h : Config.keyHash = sha256 imageKey) : imageFail 5 image = 0 ∧ imageFail 6 image = 5 ∧
    imageFail 5 (image.set 4 0) = 3 ∧ imageFail 5 (image.set 70 1) = 4 ∧ imageFail 5 (image.set 3 63) = 1 := by
  unfold imageFail
  rw [h]
  decide +kernel

/-- Awake after reset, the counter at 5, an image of this index accepted by download on W0. -/
def bootState (index : Word) : State :=
  { State.reset with pwr := { phase := .awake, straps := 2, counter := 5, dlWords := [0x5A4B5231, 0, index], dlState := 1 } }

theorem witness_image : (bootState 5).acceptedImage = some (5, false, true) ∧
    ({ State.reset with pwr := { phase := .awake } } : State).acceptedImage = none := by decide +kernel
-- both slots of empty flash fail at the magic word; a failed self-test stops the boot
theorem test_boot : let flash : State := { State.reset with pwr := { phase := .awake } }
    (after (.boot 0 1 [] none 0) flash).pwr.step = 1 ∧ (after (.boot 0 1 [] none 0) flash).pwr.failA = 1 ∧ (after (.boot 0 1 [] none 0) flash).pwr.failB = 1 ∧
    (after (.boot 0 1 [] none 0) (bootState 5)).pwr.index = 5 ∧ (after (.boot 3 1 [] none 0) (bootState 5)).pwr.stFail = 3 ∧
    (after (.boot 0 1 [] none 0) (bootState 5)).cus.own = 1 ∧ (after (.boot 0 2 [] none 0) (bootState 5)).dramSize = 2 := by decide +kernel
theorem test_boot_resumes : (after (.boot 0 1 [] none 0) { bootState 5 with cus := { paired := true, sawLeave := true } }).pwr.resume = true ∧
    (after (.boot 0 1 [] none 0) { bootState 5 with cus := { partner := 2, paired := true } }).cus.own = 0 ∧
    (after (.boot 0 1 [] none 499) { bootState 5 with cus := { paired := true, roleB := true }, pwr := { (bootState 5).pwr with cold := true } }).cus.escDrive = false ∧
    (after (.boot 0 1 [] none 500) { bootState 5 with cus := { paired := true, roleB := true }, pwr := { (bootState 5).pwr with cold := true } }).cus.escDrive = true := by
  decide +kernel
theorem test_download : let s : State := { State.reset with pwr := { phase := .awake, straps := 1, counter := 5 } }
    (after (.downloadFrame (List.replicate 63 0)) s).pwr.dlState = 0 ∧ (after (.downloadFrame (List.replicate 64 0)) s).pwr.dlState = 2 ∧
    (after (.downloadFrame [1]) { s with pwr := { phase := .awake } }).pwr.dlWords = [] := by decide +kernel
-- R434: 600 s after seating
theorem test_rollback : let s := fun (at' : Nat) => { State.running at' [] [] true with cus := { own := 2 }, pwr := { counter := 5, index := 70 } }
    (after .rollbackBlow (s 28800000)).pwr.counter = 64 ∧ (after .rollbackBlow (s 28799999)).pwr.counter = 5 := by decide

/-! ## Windows and host commands -/

/-- A seated device at block 20, owned from W0 with MAINT, its journal open; W2's MAINT pin is low; plan 7 and roll 9 exist, rod 0 is enabled. -/
def hostState : State :=
  let s := ((State.running 480 [] [] true).setReg 0x1010000C 0x80000000).setWord 0x01000004 0x80000000
  { s with cus := { own := 2, escDrive := true }, zk := { s.zk with
      owner := { owned := true, maint := true }, maintPin := true, rolls := [(5 * 2 ^ 20 + 9, { members := [1 * 2 ^ 20 + 4] })]
      alarm := { s.zk.alarm with plan := [(7, { defn := [0x80000000, 0x80000000] })], faults := [⟨0x0A0D, 7, false⟩] } } }

/-- A request of W0 with SEQ 6. -/
def req (args : List Word) : Req := { win := 0, seq := 6, args := args }

/-- Status, reason and results of the last answer that a window owes. -/
def reply (t : State) (w : Nat) : Nat × Nat × List Word :=
  let ws := ((t.win w).owed.getLast?.bind (fun o => o.words)).getD []
  ((ws.getD 2 0).fld 0 8, (ws.getD 2 0).fld 8 8, ws.drop 3)

theorem witness_host : hostState.calm := by
  refine ⟨rfl, rfl, rfl, rfl, rfl, rfl, rfl, rfl, rfl, rfl, rfl, rfl, rfl, rfl, fun w hw => ?_⟩
  rcases w with _ | _ | _ | _ | w <;> exact ⟨rfl, rfl⟩
theorem witness_receives : hostState.receives (req [1]) :=
  ⟨rfl, by decide, by decide, fun o ho => absurd ho (by show ¬ o ∈ ([] : List RespSlot); exact List.not_mem_nil)⟩
theorem witness_fresh : hostState.freshWrite (req [1, 2]) :=
  ⟨rfl, ⟨by decide, by decide⟩, by decide, fun a ha => absurd ha (by show ¬ a ∈ ([] : List Audit); exact List.not_mem_nil)⟩
theorem witness_owned : hostState.ownedBy (req []) := ⟨rfl, rfl, rfl, fun h => absurd h (by decide)⟩
theorem witness_units : hostState.unitHere (req [0x00500009, 0x00100004]) 0 [5] ∧ hostState.unitHere (req [0x00500009, 0x00100004]) 1 [1, 2] := by
  refine ⟨⟨rfl, rfl, by decide⟩, ⟨rfl, rfl, by decide⟩⟩

/-- What the device answers to a request of W0. -/
def told (row : Req → Instr) (args : List Word) : Nat × Nat × List Word := reply (after (row (req args)) hostState) 0

theorem test_sys_reads : (told .sysStatus []).2.2.headD 0 = 2 ∧ (told .sysIdent []).2.2.headD 0 = 0x4810A0C5 ∧
    told .sysFwCheck [1] = (0, 0, [1]) ∧ told .ownQuery [] = (0, 0, [0x401]) := by decide
theorem test_object_reads : told .objGet [0x00100004, 0, 2] = (0, 0, [0]) ∧ told .objGet [0x00500009, 0x7001, 0] = (0, 0, [0x08000000]) ∧
    told .objMembers [0x00500009, 0] = (0, 0, [0x00100004]) ∧ told .objList [0, 5, 0] = (0, 0, [9]) := by decide
theorem test_route_reads : (told .routeGet [0x00300000, 0x00100000]).2.2 = [0, 0, 0, 0, 0, 0] ∧ told .routeList [0x00300000, 0] = (0, 0, []) ∧
    (told .routeCost [0]).2.2.length = 4 := by decide
theorem test_scene_message_reads : told .sceneStatus [] = (0, 0, []) ∧ told .sceneList [] = (0, 0, []) ∧ told .msgList [] = (0, 0, []) ∧
    told .msgStatus [0x00600003] = (0, 0, [0, 0, 0, 0]) := by decide
theorem test_alarm_reads : told .alarmPlanGet [7] = (0, 0, [7, 0x80000000, 0x80000000, 0, 0, 0, 0, 0, 0]) ∧
    told .alarmZoneGet [0x00400003] = (0, 0, [0x00400003, 0x800C0000, 0, 0, 0, 0, 0x08000000, 240, 0]) ∧ (told .alarmStatus []).1 = 0 := by decide +kernel
theorem test_monitor_reads : (told .supStatus [0x00900003]).1 = 0 ∧ (told .supStatus [0x00900003]).2.2.length = 4 ∧
    (told .rsvGet [3]).1 = 0 ∧ (told .rsvStatus []).2.2.length = 5 := by decide
theorem test_net_reads : (told .netStatus [0x00E00003]).2.2.length = 12 ∧ (told .netStatus [0x00F00083]).2.2 = [0] ∧
    (told .netStatus [0x00F00003]).2.2.length = 3 ∧ told .regRead [0, 0x03000000, 2] = (0, 0, [0, 0]) := by decide
theorem test_other_reads : (told .clkStatus []).2.2.length = 1 ∧ (told .casTopo []).2.2.length = 12 ∧ (told .cusStatus []).2.2.length = 3 ∧
    told .logRead [0, 10] = (0, 0, [0]) := by decide

/-- What a write of W0 leaves, its status before it. -/
def wrote (row : Req → Instr) (args : List Word) : Nat × State := let t := after (row (req args)) hostState; ((reply t 0).1, t)

theorem test_sys_writes : (wrote .sysRollbackHold [1]).2.zk.rollHold = true ∧ (wrote .sysFwWrite [0x100, 1, 2]).2.byte 0xC1000104 = 2 ∧
    (wrote .sysRestart []).2.cus.own = 3 ∧ (wrote .cusGiveup [15]).2.cus.fwcode = 15 ∧ (wrote .cusGiveup [1]).1 = 3 := by decide
theorem test_own_writes : (wrote .ownClaim []).1 = 0 ∧ (wrote .ownCede [1]).2.zk.owner.offer = some (1, 0) ∧ (wrote .ownCede [0]).1 = 3 ∧
    (wrote .ownRelease []).2.zk.owner = {} ∧ (wrote .ownMaint [0]).2.zk.owner.maint = false ∧ (wrote .ownMaint [2]).1 = 3 ∧
    (wrote .ownAccept []).1 = 1 ∧ (wrote .ownForce []).1 = 1 := by decide
theorem test_own_force : (after (.ownForce { win := 2, seq := 6, args := [] }) hostState).zk.owner = { owned := true, win := 2 } ∧
    (reply (after (.ownCede { win := 1, seq := 6, args := [1] }) hostState) 1).1 = 1 := by decide
theorem test_object_writes : (wrote .objDiscard [0]).1 = 0 ∧ (wrote .objRollCreate [0xFFFFFFFF]).2.zk.rolls.map (fun e => e.1) = [0x500000, 0x500009] ∧
    (wrote .objRollCreate [0x00500009]).1 ≠ 0 := by decide
theorem test_alarm_writes : ((wrote .alarmTrigger [7, 5]).2.plan 7).accept = true ∧ (wrote .alarmTrigger [8, 5]).1 = 3 ∧
    (wrote .alarmSilence [0, 0]).2.zk.alarm.asks = [(0, 0, false)] ∧ (wrote .alarmReset [0, 0]).2.zk.alarm.asks = [(0, 0, true)] ∧
    (wrote .alarmAck [0x0A0D, 7]).2.zk.alarm.faults = [⟨0x0A0D, 7, true⟩] ∧ (wrote .alarmAck [0x0A0D, 8]).1 = 3 := by decide
theorem test_plan_set : ((wrote .alarmPlanSet [8, 0, 0, 0, 0x00400000, 0, 0, 0, 0]).2.plan 8).defn.getD 3 0 = 0x00400000 ∧
    ((wrote .alarmZoneSet [0x00400003, 0, 0, 0, 0, 0, 0, 5, 0]).2.zone 3).defn.getD 6 0 = 5 := by decide
theorem test_monitor_writes : ((wrote .supLearn [0x00900003, 1]).2.monC 3).learnP = 10 ∧ Tbl.find (wrote .rsvSet [3, 5]).2.zk.rsv.par 3 = some 5 ∧
    (wrote .rsvSet [26, 5]).1 = 3 ∧ (wrote .rsvTable (List.replicate 32 1)).2.zk.rsv.table.length = 16 := by decide
theorem test_clock_writes : (wrote .clkPrioSet [3, 2]).2.reg 0x100A004C = 2 ∧ (wrote .clkSlotSet [0x00C00002, 2]).2.reg 0x100A0140 = 2 ∧
    (wrote .clkMapSet [3]).2.zk.gradeMap = some [3] ∧ (wrote .clkLoopSet [1, 2, 3, 4]).2.reg 0x100A0004 = 1 := by decide
theorem test_net_writes : (wrote .netMacSet [0x00E00001, 3]).2.reg 0x100C4000 = 3 ∧ (wrote .netStreamSet [0x00F00021, 0x10]).2.reg 0x100C6040 = 0x10 ∧
    (wrote .netStreamEn [0x00F00001, 0]).1 = 0 ∧ (wrote .casPortSet [0x01000001, 0, 16]).2.reg 0x100E0140 = 0x20 := by decide
theorem test_custody_writes : (wrote .cusHoldSet [1, 2]).2.reg 0x100F0010 = 2 ∧ (wrote .cusStbySet [9]).2.fldN 0x100F0000 8 8 = 9 := by decide
theorem test_reg_log_writes : (wrote .regWrite [0, 0x03000004, 7]).2.byte 0x03000004 = 7 ∧ (wrote .logCheckpoint []).2.esc.journal.map (fun e => e.kind) = [1, 7] ∧
    Tbl.find (wrote .evtMask [3]).2.evMask 0 = some 3 := by decide
theorem test_subscribe : let q : Req := { win := 3, ip := 1, port := 2, seq := 6, args := [3] }
    (after (.evtSubscribe q) hostState).subs = [(0, (1, 2))] ∧ (after (.evtUnsubscribe q) (after (.evtSubscribe q) hostState)).subs = [] := by decide

/-! ## Changes, scenes, services -/

/-- A timing block: WHEN ASAP, STAGE or TIMED, shape 0, 48 samples, at C. -/
def timing (when : Nat) (c : Nat) : List Word := [BitVec.ofNat 32 (when + 48 * 4096), BitVec.ofNat 32 c, 0]

/-- What is armed after a request with a timing block: C, a page with it, and the slot of the change. -/
def armedBy (row : Req → Instr) (args : List Word) : Option (Nat × Bool) :=
  ((wrote row (timing 0 0 ++ args)).2.engine.cmt.armed).map (fun a => (a.c, a.page))

theorem test_obj_set : armedBy .objSet [0x00100004, 0x0300, 0x04000000] = some (528, false) ∧
    armedBy .objSet [0x00500009, 0x7001, 0x04000000] = some (528, false) := by decide
theorem test_route : armedBy .routeSet [0x00300000, 0x00100005, 0x04000000] = some (528, true) ∧
    armedBy .routeClear [0x00300000, 0x00100005] = some (528, false) := by decide
theorem test_rolls : armedBy .objRollAdd [0x00500009, 0x00100006] = some (528, false) ∧
    armedBy .objRollRemove [0x00500009, 0x00100004] = some (528, false) ∧ armedBy .objRollDelete [0x00500009] = some (528, false) := by decide
theorem test_sup_transit : armedBy .supSet [0x00900003, 1, 7] = some (528, false) ∧ armedBy .casTransitSet [1, 2] = some (528, false) ∧
    armedBy .casReturnSet [0x01000001, 2] = some (528, false) := by decide
-- staged and then applied; C before the soonest is BAD_PARAM with REASON 0x20, the soonest itself is taken
theorem test_staged : (wrote .objSet (timing 2 0 ++ [0x00100004, 0x0300, 1])).2.zk.staged.length = 1 ∧
    ((after (.objApply { win := 0, seq := 7, args := timing 0 0 ++ [0] }) (wrote .objSet (timing 2 0 ++ [0x00100004, 0x0300, 1])).2).engine.cmt.armed).isSome =
      true := by decide
theorem test_soonest : (reply (wrote .objSet (timing 1 527 ++ [0x00100004, 0x0300, 1])).2 0).2.1 = 0x20 ∧
    ((wrote .objSet (timing 1 528 ++ [0x00100004, 0x0300, 1])).2.engine.cmt.armed.map (fun a => a.c)) = some 528 := by decide
-- R467: an idle player is stopped at once
theorem test_msg_stop_idle : reply (wrote .msgStop (timing 0 0 ++ [0x00600003])).2 0 = (0, 0, [0, 0, 0xFFFFFFFF, 0, 0]) := by decide

/-- The change of `test_obj_set`, at its boundary. -/
def landing : State := { (wrote .objSet (timing 0 0 ++ [0x00100004, 0x0300, 0x04000000])).2 with sctr := 528 }
theorem test_lands : (after .commitResolve landing).zk.change = none ∧ (after .commitResolve landing).engine.cmt.epoch = 1 ∧
    reply (after .commitResolve landing) 0 = (0, 0, [528, 0, 1, 0, 1]) := by decide

/-- Message 2 of 48 samples, staged, and a scene of this node. -/
def sceneState : State := { hostState with zk := { hostState.zk with
  scenes := [(8, { crc := 0, crcOk := true, nodes := [0], rods := [], beads := [], params := [], paths := [], faultOut := 63, hostPri := 128 })], messages := [(2, { dom := 0, len := 48 })] } }
theorem test_msg_play : (after (.msgPlay (req (timing 2 0 ++ [0x00600003, 0x01300002, 0, 0, 0]))) sceneState).zk.staged.length = 1 := by decide
theorem test_scene : let t := after (.scenePrepare (req [0x01200008, 0])) sceneState
    t.zk.prepared = some 8 ∧ t.engine.abx.chkBusy = true ∧ (t.zk.tree.map (fun o => o.left)) = some [0] ∧
    (after (.sceneRecall (req (timing 0 0 ++ [0x01200008, 0]))) sceneState).zk.prepared = some 8 := by decide
theorem witness_scene : sceneState.freeSlot = some 1 ∧ sceneState.unitFree (some sceneState.zk.tagNext) = true ∧
    sceneState.engine.abx.amdOther = .building ∧ sceneState.engine.abx.mainOther = .building := by decide
theorem witness_scene_fits : sceneState.sceneFits 8 false 1 0 := by
  refine ⟨?_, ?_, ?_⟩ <;> decide
theorem test_scene_commit : let t := after (.scenePrepare (req [0x01200008, 0])) sceneState
    let u : State := { t with zk := { t.zk with tree := none, change := t.zk.change.map (fun ch => { ch with phase := 3 }) } }
    ((after (.sceneCommit { win := 0, seq := 7, args := timing 0 0 ++ [0x01200008] }) u).zk.tree.map (fun o => o.kind)) = some 1 := by decide

theorem test_message_end : let s : State := { hostState with zk := { hostState.zk with players := [(3, { st := 1, msg := 2, start := 0 })] } }
    s.playerState (s.player 3) s.sctr = 0 ∧ ((after (.messageEnd 3) s).player 3).st = 0 := by decide
theorem test_message_staging : ((after (.messageStaging 7 ⟨false, true⟩) { hostState with zk := { hostState.zk with alarm :=
      { hostState.zk.alarm with plan := [(7, { defn := [0x80000000, 0] })] } } }).plan 7).staged = true ∧
    ((after (.messageStaging 7 ⟨false, false⟩) { hostState with zk := { hostState.zk with alarm :=
      { plan := [(7, { defn := [0x80000000, 0] })] } } }).zk.alarm.faults.map (fun f => f.payload)) = [7] := by decide
theorem test_relay : let s : State := { hostState with zk := { hostState.zk with alarm := {} } }
    (after .faultRelayRise s).zk.alarm.relay = true ∧ (after .faultRelayRise hostState).zk.alarm.relay = false := by decide
theorem test_reroute_return : let s : State := { hostState with zk := { hostState.zk with alarm :=
      { zone := [(3, { defn := [0, 0x40000000], failA := true, rerouted := true })] } } }
    ((after (.rerouteReturn 3) s).zone 3).failA = false ∧ ((after (.rerouteReturn 3) s).zone 3).rerouted = false := by decide

/-! ## Windows -/

-- one word does not fill the stream's room; a doorbell of it asserts the interrupt of a waiting response
theorem test_spi : ((after (.spiPut 0 8 [0x02070002, 6]) hostState).win 0).stream = [0x02070002, 6] ∧
    ((after (.spiPut 0 0 [1]) hostState).win 0).stream = [] ∧
    ((after (.spiGetRsp 0 3) (hostState.setWin 0 { rsp := [4, 5] })).win 0).out.drop 1 = [0, 4, 5, 0] ∧
    ((after (.spiBadOp 0 4) hostState).win 0).badOp = 1 ∧ ((after (.spiBadOp 0 3) hostState).win 0).badOp = 0 := by decide
-- R440: a request of the word 0x7E, stuffed, with its CRC-16 worked out by hand; with a bad CRC; and a TYPE of 3
theorem test_uart : ((after (.w2FrameReceive 0x7E [1, 0, 0, 0, 0x7D, 0x5E, 0x24, 0x04] 0x7E) hostState).win 2).frames = [(0, 0, [0x7E])] ∧
    ((after (.w2FrameReceive 0x7E [1, 0, 0, 0, 0x7D, 0x5E, 0x24, 0x05] 0x7E) hostState).win 2).reqDrop = 1 ∧
    ((after (.w2FrameReceive 0x7E [3, 0, 0, 0, 7, 0x8F, 0x39] 0x7E) hostState).win 2).badOp = 1 := by decide
theorem test_datagram : ((after (.w3DatagramReceive 1 2 [0x01000000, 7]) hostState).win 3).frames = [(1, 2, [7])] ∧
    ((after (.w3DatagramReceive 1 2 [0x02000000, 7]) hostState).win 3).badOp = 1 := by decide
-- 367 words go in one datagram, 368 in two
theorem test_response_datagrams : let s := fun (n : Nat) => hostState.setWin 3 { owed := [⟨0x0207, 6, 1, 2, 0, some (Word.ofNat n :: List.replicate (n - 1) 9)⟩] }
    ((after (.responseSend 3) (s 367)).win 3).dgrams.length = 1 ∧ ((after (.responseSend 3) (s 368)).win 3).dgrams.length = 2 := by decide
theorem test_response_spi : ((after (.responseSend 0) (hostState.setWin 0 { owed := [⟨0x0207, 6, 0, 0, 0, some [1, 2]⟩] })).win 0).rsp = [1, 2] := by decide
theorem test_scan_runs_request : let s := hostState.setWin 0 { stream := [0x02070002, 6] }
    reply (after .scanInterval s) 0 = (0, 0, [0x401]) ∧ ((after .scanInterval s).win 0).stream = [] := by decide
theorem test_pins : (after .maintPinHigh hostState).zk.maintPin = false ∧ (after (.windowClrcnt 1) (hostState.setWin 1 { badOp := 3 })).win 1 = {} := by decide
theorem test_cede_lapse : (after .cedeLapse { hostState with zk := { hostState.zk with owner := { owned := true, offer := some (1, 0) } } }).zk.owner =
    { owned := true } := by decide
-- a repeat of a SEQ gets the answer again, with other arguments REASON 1 of FORMAT
theorem test_repeat : let t := (wrote .objRollCreate [0xFFFFFFFF]).2
    let u := after (.responseSend 0) t
    reply (after (.objRollCreate (req [0xFFFFFFFF])) u) 0 = (0, 0, [0x00500000]) ∧
    reply (after (.objRollCreate (req [0x00500003])) u) 0 = (0x0A, 1, []) := by decide
theorem test_bad_frames : reply (after (.ownQuery { win := 0, seq := 0, args := [] }) hostState) 0 = (0x0A, 4, [0x401]) ∧
    reply (after (.ownQuery (req [1])) hostState) 0 = (0x0A, 5, [0x401]) := by decide

/-! ## Memory, queues, the mover, the fabric -/

theorem test_ecc_clears : (after (.eccClr true) { State.reset with memc := { unc := 3, corr := 2 } }).memc = { corr := 2 } ∧
    (after (.eccWriteback 0x03000008) { State.reset with memc := { writeback := [0x600001] } }).memc.writeback = [] := by decide
theorem test_bgt : let s := State.reset.setReg 0x10130000 2
    (after .bgtRegionStart s).memc.testing.contains 128 = true ∧
    (after (.bgtRegionDone 130 false) (after .bgtRegionStart s)).memc.repaired = [130 * 4096] ∧
    (after (.bgtRegionDone 130 true) (after .bgtRegionStart s)).memc.testing.contains 130 = false := by decide
theorem test_bgt_spares : let s : State := { State.reset with memc := { testing := [130], repaired := [130 * 4096 + 1, 130 * 4096 + 2] } }
    (after (.bgtRegionDone 130 false) s).memc.repaired.length = 2 := by decide
theorem test_fabric : (after (.fabricWatchdog 3) hostState).cus.cause = 4 ∧ (after .fabErrClr { State.reset with memc := { fabErr := 5 } }).memc.fabErr = 0 := by
  decide
-- LOGD 4 and 16 are the ends; 3 and 17 are refused, and so is a ring beyond shared SRAM
theorem test_queue_enable : let s := fun (v : Nat) => State.reset.setReg 0x10110040 (BitVec.ofNat 32 v)
    let err := fun (v : Nat) => ((after (.queueEnable 2) (s v)).queue 2).cfgErr
    err (4 * 8) = false ∧ err (16 * 8) = false ∧ err (3 * 8) = true ∧ err (17 * 8) = true ∧ err (4 * 8 + 6) = true ∧
    err (4 * 8 + 0x1FFFC * 256) = false ∧ err (4 * 8 + 0x1FFFD * 256) = true := by decide
theorem test_queue_push_pop : let s := (State.reset.setReg 0x10110040 (BitVec.ofNat 32 (1 + 4 * 8))).setReg 0x10110044 16
    let t := after (.queuePush 2 [7, 8]) (s.setQueue 2 { count := 15, wr := 15 })
    t.queue 2 = { count := 16, wr := 0, flags := 10 } ∧ t.word 0x030000F4 = 8 ∧ ((after (.queuePush 2 [7]) t).queue 2).ovf = 1 ∧
    ((after (.queuePop 2 20) t).queue 2).count = 0 ∧ ((after (.queueOvfClr 2) (after (.queuePush 2 [7]) t)).queue 2).ovf = 0 := by decide

/-- Channel 4's descriptor at 0x03000000: two words from 0x03001000 to 0x03002000, SWAP 2, IRQ. -/
def movState : State :=
  let s := (((State.reset.setWord 0x03000000 0x03001000).setWord 0x03000004 0x03002000).setWord 0x03000008 8).setWord 0x0300000C 0x18
  ((s.setWord 0x03001000 0x44332211).setWord 0x03001004 5).setReg 0x10120180 0x03000000
theorem test_mover : let t := after (.descriptorComplete 4) (after (.dmaStart 4) movState)
    t.word 0x03002000 = 0x11223344 ∧ (t.dma 4).st = .done ∧ t.mover.irq = 0x10 ∧ (t.dma 4).dst = 0x03002008 := by decide
-- the channel started is the lowest that is ready: its descriptor loads at once, or ends it in ERROR
def movStarted : State := movState.setDma 4 { st := .active, last := 0x03000000 }
theorem witness_next_up : movStarted.nextUp 4 := by
  refine ⟨rfl, ⟨by decide, rfl, rfl⟩, fun j hj => ?_⟩
  rcases j with _ | _ | _ | _ | j <;> first | exact fun h => absurd h.2.1 (by decide) | omega
theorem witness_legible : movStarted.legible := by
  have only : ∀ c, c < 32 → (movStarted.dma c).st = .active → c = 4 := by decide
  refine ⟨rfl, fun c h _ => ?_⟩
  rw [only c h.1 h.2.1]
  exact ⟨by decide, by decide, by decide, by decide⟩
theorem test_mover_loads : (after (.dmaStart 4) movState).mover.cur = some 4 ∧ ((after (.dmaStart 4) movState).dma 4).remain = 8 := by decide
theorem test_mover_bad : ((after (.dmaStart 4) (movState.setWord 0x03000008 6)).dma 4).st = .error ∧
    (after (.dmaStart 4) (movState.setWord 0x03000008 6)).mover.cur = none := by decide
theorem test_mover_ends : ((after (.dmaDrained 4 1) (after (.dmaAbort 4) (after (.dmaStart 4) movState))).dma 4).code = 3 ∧
    ((after (.dmaPause 4 true) (after (.dmaStart 4) movState)).dma 4).paused = false ∧
    ((after (.dmaDrained 4 0) (after (.dmaPause 4 true) (after (.dmaStart 4) movState))).dma 4).paused = true ∧
    ((after (.dmaAppend 4) (after (.descriptorComplete 4) (after (.dmaStart 4) movState))).dma 4).db = 1 := by decide
theorem test_drained : let x : DmaCh := { st := .active, loaded := true, aborting := true, src := 0x03001000, dst := 0x03002000, remain := 8 }
    let s : State := { movState with mover := { chans := [(4, x)], cur := some 4 } }
    ((after (.dmaDrained 4 1) s).dma 4).remain = 4 ∧ ((after (.dmaDrained 4 1) s).dma 4).st = .idle := by decide

/-- SUP SET at its boundary: what a lone request's change needs to land. -/
noncomputable def landSup : State := { (wrote .supSet (timing 0 0 ++ [0x00900003, 1, 7])).2 with sctr := 528 }
theorem witness_landing : landSup.engine.cmt.armed = some ⟨528, false, false⟩ ∧ landSup.nextBadCount = 0 ∧
    (enabledOS landSup.next).find? (destConf landSup.next) = none ∧ (landSup.zk.change.map (fun ch => (ch.phase, ch.armedC, ch.edits))) =
      some (2, 528, [.sup 3 1 7]) ∧ landSup.marks = [] ∧ (landSup.win 0).owed.map (fun o => o.words) = [none] := by decide
theorem test_sup_lands : ((after .commitResolve landSup).monC 3).winW = some 7 ∧ reply (after .commitResolve landSup) 0 = (0, 0, [528, 0, 1, 0, 0]) := by
  decide

/-! ## The boundary, QPUT, the clock loop -/

/-- A block that the collector has released, in a device that is not seated. -/
def released : State :=
  let s := State.running 480 [] [] true
  { s with cus := {}, engine := { s.engine with abx := { s.engine.abx with released := true } } }

theorem witness_boundary : released.started = true ∧ released.engine.abx.released = true ∧ released.cus.own ≠ 3 ∧
    released.memc.ecc = [] ∧ (∀ k, k < 64 → lateCore (released.core k) = false) ∧ (∀ p, p < 3 → (released.cp p).acc = none) ∧
    released.cus.own ≠ 2 := ⟨rfl, rfl, by decide, rfl, fun _ _ => rfl, fun _ _ => rfl, by decide⟩
theorem witness_boundary_seated : let s := { released with cus := { own := 2 } }
    s.zk.alarm.plan = [] ∧ s.zk.alarm.zone = [] ∧ s.zk.alarm.asks = [] ∧ s.zk.alarm.dirty = false ∧ s.zk.players = [] ∧
    s.zk.change = none := ⟨rfl, rfl, rfl, rfl, rfl, rfl⟩
theorem test_boundary : (after (.blockBoundary 0) released).sctr = 504 ∧ (after (.blockBoundary 0) released).engine.abx.released = false := by
  decide
-- the last of 16 entries of queue 0, and none more
theorem test_qput : let s := fun (n : Nat) => (inRun.setReg 0x10110000 0x21).setQueue 0 { count := n, wr := n % 16 }
    ((after (.qput 0 0 0) (s 15)).queue 0).count = 16 ∧ (after (.qput 0 0 0) (s 15)).word 0x030000FC = 5 ∧
    ((after (.qput 0 0 0) (s 16)).queue 0).ovf = 1 := by decide
theorem test_snap : (after .snap State.reset).ref.snap = true ∧ ((after (.referenceEvent 5 ⟨5, 0⟩) State.reset).refSlot 5).phase = 5 := by decide

/-! ## Worked examples on a whole command -/

-- R96: two full-scale products that cancel leave −16
theorem test_exact_cancellation : let s := engState [] [] [(5, block [0x7FFFFFFF]), (6, block [-0x80000000])]
    let s := (s.setWord 0x01000004 (BitVec.ofNat 32 (2 + 2 ^ 31)))
    let s := ((s.setWord 0 5).setWord 4 0x7FFFFFFF).setWord 8 0x7FFFFFFF
    let s := ((s.setWord 16 6).setWord 20 0x7FFFFFFF).setWord 24 0x7FFFFFFF
    ((Tbl.find (after (.lanePieceDone 0 0) s).engine.slots 2048).getD []).headD 0 = -16 := by decide
-- R334: one second of 200,000, then 0
theorem test_slot_filter : let s := after (.slotMeasurement 4 200000) ((State.running 480 [] [] true).setRefSlot 4 { q := 2 })
    (s.refSlot 4).f = 25000 ∧ ((after (.slotMeasurement 4 0) s).refSlot 4).f = 21875 := by decide
-- R533: queue 10 of the example ends at entry 1,023
theorem test_queue_example : let s := State.reset.setReg 0x10110140 0x00080053
    s.queEn 10 = true ∧ s.queEsize 10 = 32 ∧ s.queDepth 10 = 1024 ∧ s.queEntry 10 1023 = 0x03027FE0 := by decide
end Sys2Proof.Tests
end

section
/-!
PROOFS. Right after power-on reset no sparse table lists anything, so every reading is the unlisted one: a register's or
a parameter's reset value, an idle unit, a zero byte. What is left is to look the named parameters up in the maps.
-/

namespace Sys2Proof.Machine

open Sys2Proof

/-! ## Readings right after reset -/

@[simp] theorem State.reset_byte (a : Nat) : State.reset.byte a = 0 := Tbl.getD_nil a 0
@[simp] theorem State.reset_reg (a : Nat) : State.reset.reg a = regReset a := Tbl.getD_nil a _
@[simp] theorem State.reset_nxt (k : Nat) : State.reset.nxt k = paramReset k := Tbl.getD_nil k _
@[simp] theorem State.reset_liv (k : Nat) : State.reset.liv k = paramReset k := Tbl.getD_nil k _
@[simp] theorem State.reset_core (k : Nat) : State.reset.core k = {} := Tbl.getD_nil k _
@[simp] theorem State.reset_queue (n : Nat) : State.reset.queue n = {} := Tbl.getD_nil n _

@[simp] theorem State.reset_livF (k lo len : Nat) : State.reset.livF k lo len = Word.fld (paramReset k) lo len :=
  congrArg (Word.fld · lo len) (State.reset_liv k)
@[simp] theorem State.reset_livB (k i : Nat) : State.reset.livB k i = Word.bit (paramReset k) i :=
  congrArg (Word.bit · i) (State.reset_liv k)

/-! ## Reset values of parameters by unit

A strip's and a section's parameters have the reset values of the window that shows one of them at a time. -/

theorem paramReset_keyIS {i off : Nat} (hi : i < 0x4000000) (ho : off < 0x40) :
    paramReset (keyIS i off) = regReset (0x10038100 + off) := by
  have hmod : (0x100000000 + i * 0x40 + off) % 0x40 = off := by omega
  have hlo : ¬ 0x100000000 + i * 0x40 + off < 0x100000000 := by omega
  have hhi : 0x100000000 + i * 0x40 + off < 0x200000000 := by omega
  simp only [paramReset, keyIS, if_neg hlo, if_pos hhi, hmod]

theorem paramReset_keyOS {k off : Nat} (hk : k < 0x4000000) (ho : off < 0x40) :
    paramReset (keyOS k off) = regReset (0x10038200 + off) := by
  have hmod : (0x200000000 + k * 0x40 + off) % 0x40 = off := by omega
  have hIS : ¬ 0x200000000 + k * 0x40 + off < 0x200000000 := by omega
  have hlo : ¬ 0x200000000 + k * 0x40 + off < 0x100000000 := by omega
  have hhi : 0x200000000 + k * 0x40 + off < 0x300000000 := by omega
  simp only [paramReset, keyOS, if_neg hlo, if_neg hIS, if_pos hhi, hmod]

theorem paramReset_keySec {n off : Nat} (hn : n < 0x8000000) (ho : off < 0x20) :
    paramReset (keySec n off) = regReset (0x10030000 + off) := by
  have hmod : (0x300000000 + n * 0x20 + off) % 0x20 = off := by omega
  have hOS : ¬ 0x300000000 + n * 0x20 + off < 0x300000000 := by omega
  have hIS : ¬ 0x300000000 + n * 0x20 + off < 0x200000000 := by omega
  have hlo : ¬ 0x300000000 + n * 0x20 + off < 0x100000000 := by omega
  have hhi : 0x300000000 + n * 0x20 + off < 0x400000000 := by omega
  simp only [paramReset, keySec, if_neg hlo, if_neg hIS, if_neg hOS, if_pos hhi, hmod]

/-! ## What the maps of chapters 03 and 06 give at the windows -/

theorem regReset_isCtl : regReset 0x10038100 = 0x00F00040 := by decide
theorem regReset_isTrim : regReset 0x10038108 = 0x08000000 := by decide
theorem regReset_isMute : regReset 0x10038114 = 1 := by decide
theorem regReset_osGain : regReset 0x10038210 = 0x08000000 := by decide
theorem regReset_osRamp : regReset 0x10038214 = 0x80000000 := by decide
theorem regReset_secB0 : regReset 0x10030004 = 0x20000000 := by decide

/-- Settles O3: the tables are empty, so everything reads its reset value, and the maps give the six named ones. -/
theorem resetValues : Obligations.ResetValues := by
  have xfLen : State.reset.livF (keyIS 7 0) 16 16 = 240 := by
    rw [State.reset_livF, paramReset_keyIS (by omega) (by omega), regReset_isCtl]; decide
  have trim : State.reset.liv (keyIS 7 8) = 0x08000000 := by
    rw [State.reset_liv, paramReset_keyIS (by omega) (by omega), regReset_isTrim]
  have mute : State.reset.livB (keyIS 7 0x14) 0 = true := by
    rw [State.reset_livB, paramReset_keyIS (by omega) (by omega), regReset_isMute]; decide
  have gain : State.reset.liv (keyOS 7 0x10) = 0x08000000 := by
    rw [State.reset_liv, paramReset_keyOS (by omega) (by omega), regReset_osGain]
  have gainMute : State.reset.livB (keyOS 7 0x14) 31 = true := by
    rw [State.reset_livB, paramReset_keyOS (by omega) (by omega), regReset_osRamp]; decide
  have b0 : State.reset.liv (keySec 7 4) = 0x20000000 := by
    rw [State.reset_liv, paramReset_keySec (by omega) (by omega), regReset_secB0]
  have coreStopped : (State.reset.core 0).st = .stopped := by rw [State.reset_core]
  exact ⟨rfl, rfl, rfl, State.reset_wf, State.reset_byte, State.reset_reg,
    fun k => ⟨State.reset_nxt k, State.reset_liv k⟩, State.reset_core, State.reset_queue, coreStopped, rfl,
    xfLen, trim, mute, gain, gainMute, b0⟩

end Sys2Proof.Machine
end

section
/-!
PROOFS. A block of samples through the stages of a strip (R64, R77). A block is written as the function of its sample
number (`samples n x`): the selector, a gain stage and a delay buffer each take such a block to such a block, and the
stages of a strip are these lemmas one after the other. A strip's answer is one state (`inAnswer`, `outAnswer`), of which
each clause of the statements is read off.
-/

namespace Sys2Proof.Machine

open Sys2Proof

/-! ## Samples and words -/

/-- A 32-bit two's complement value. -/
def InS32 (x : Int) : Prop := -(2 ^ 31) ≤ x ∧ x < 2 ^ 31

theorem sat32_inS32 (x : Int) : InS32 (sat32 x) := by
  unfold InS32 sat32 s32Min s32Max
  omega

theorem gainMul_inS32 (g x : Int) : InS32 (gainMul g x) := sat32_inS32 _

theorem toInt_ofInt_of_inS32 {x : Int} (h : InS32 x) : (Word.ofInt x).toInt = x := by
  obtain ⟨lo, hi⟩ := h
  exact BitVec.toInt_ofInt_eq_self (by decide) (by simpa using lo) (by simpa using hi)

/-! ## Blocks -/

theorem State.blockLen_pos (s : State) (dom : Nat) : 0 < s.blockLen dom := by
  unfold State.blockLen State.hRatio
  split
  · split <;> decide
  · split <;> decide

@[simp] theorem length_zeros (n : Nat) : (zeros n).length = n := List.length_replicate

@[simp] theorem length_fitBlock (n : Nat) (xs : List Int) : (fitBlock n xs).length = n := by
  simp [fitBlock]

@[simp] theorem State.length_rampTimes (s : State) (dom : Nat) : (s.rampTimes dom).length = s.blockLen dom := by
  simp [State.rampTimes]

theorem State.length_feedBlock (s : State) (f : Nat) : (s.feedBlock f).length = s.blockLen ((s.feedDom f).getD 0) := by
  unfold State.feedBlock
  split <;> simp

/-- A reader gets a block of its own domain's length, whatever the feed's domain. -/
@[simp] theorem State.length_readFeed (s : State) (f dom : Nat) : (s.readFeed f dom).1.length = s.blockLen dom := by
  unfold State.readFeed
  split
  · simp
  · next d hd =>
    split
    · next h => simp [State.length_feedBlock, hd, h]
    · simp

/-- The block of `n` samples that `x` gives. -/
def samples (n : Nat) (x : Nat → Int) : List Int := (List.range n).map x

@[simp] theorem length_samples (n : Nat) (x : Nat → Int) : (samples n x).length = n := by simp [samples]

theorem getD_samples {n j : Nat} (x : Nat → Int) (h : j < n) : (samples n x).getD j 0 = x j := by
  simp [samples, List.getD_eq_getElem?_getD, h]

theorem samples_succ (n : Nat) (x : Nat → Int) : samples (n + 1) x = x 0 :: samples n (fun j => x (j + 1)) := by
  simp [samples, List.range_succ_eq_map, Function.comp_def]

theorem samples_congr {n : Nat} {x y : Nat → Int} (h : ∀ j, j < n → x j = y j) : samples n x = samples n y :=
  List.map_congr_left (fun j hj => h j (List.mem_range.1 hj))

/-- Every block is the one that its own samples give. -/
theorem samples_getD {n : Nat} {xs : List Int} (h : xs.length = n) : samples n (fun j => xs.getD j 0) = xs := by
  subst h
  refine List.ext_getElem (length_samples _ _) (fun j h₁ h₂ => ?_)
  simp [samples, h₂]

theorem map_samples (f : Int → Int) (n : Nat) (x : Nat → Int) : (samples n x).map f = samples n (fun j => f (x j)) := by
  simp [samples, Function.comp_def]

/-! ## Gain stages (R65, R66) -/

/-- A block of domain `dom` through a gain stage. -/
def State.gainedBlock (s : State) (g : GainSt) (dom : Nat) (xs : List Int) : List Int :=
  (gainBlock g s.engine.rampsEng (s.rampTimes dom) xs).1

theorem gainedBlock_samples (s : State) (g : GainSt) (dom : Nat) (x : Nat → Int) :
    s.gainedBlock g dom (samples (s.blockLen dom) x) = samples (s.blockLen dom) (fun j => s.gained g dom j (x j)) := by
  refine List.ext_getElem (by simp [State.gainedBlock, gainBlock]) (fun j h₁ h₂ => ?_)
  have hj : j < s.blockLen dom := by simpa using h₂
  simp [State.gainedBlock, gainBlock, samples, State.gained, hj]

/-! ## The selector (R72) -/

theorem selPos_selStep (c t : Nat) (sel : Bool) (j : Nat) : selPos (selStep c t sel) t sel j = selPos c t sel (j + 1) := by
  cases sel
  · simp only [selPos, selStep, Bool.false_eq_true, if_false]; omega
  · simp only [selPos, selStep, if_true]; omega

/-- A position beyond XF_LEN weighs as XF_LEN does. -/
theorem weightB_selPos_zero (shape c t : Nat) (sel : Bool) : weightB shape (selPos c t sel 0) t sel = weightB shape c t sel := by
  cases sel
  · rfl
  · simp only [selPos, if_true, Nat.add_zero, weightB]
    rcases Nat.le_total t c with h | h
    · simp [h]
    · rw [Nat.min_eq_right h]

/-- A block through the selector, and the position after it. -/
theorem selBlock_samples (shape t : Nat) (sel : Bool) (c n : Nat) (a b : Nat → Int) :
    selBlock shape t sel c (samples n a) (samples n b) =
      (samples n (fun j => selMix (a j) (b j) (weightB shape (selPos c t sel j) t sel)),
        if n = 0 then c else selPos c t sel n) := by
  induction n generalizing c a b with
  | zero => rfl
  | succ n ih =>
    rw [samples_succ, samples_succ, samples_succ, selBlock, ih]
    simp only [selPos_selStep, weightB_selPos_zero, Nat.succ_ne_zero, if_false]
    cases n with
    | zero => cases sel <;> rfl
    | succ n => rfl

/-! ## Stored words -/

/-- Words stored one after the other. -/
def State.putAll (s : State) (ws : List (Nat × Word)) : State := ws.foldl (fun t e => t.putWord e.1 e.2) s

/-- Storing words changes memory and the memory record alone. -/
theorem State.putAll_only (s : State) (ws : List (Nat × Word)) : ∃ m c, s.putAll ws = { s with mem := m, memc := c } := by
  induction ws generalizing s with
  | nil => exact ⟨s.mem, s.memc, rfl⟩
  | cons e ws ih => exact ih (s.putWord e.1 e.2)

theorem State.putAll_onlyEccEnded (s : State) (ws : List (Nat × Word)) : OnlyEccEnded s (s.putAll ws) := by
  induction ws generalizing s with
  | nil => rfl
  | cons e ws ih =>
    have h := ih (s.putWord e.1 e.2)
    unfold OnlyEccEnded at h ⊢
    exact congrArg (fun m : MemCtl => { m with ecc := s.memc.ecc, writeback := s.memc.writeback }) h

/-- Two words of memory that do not overlap. -/
def WordsApart (e f : Nat × Word) : Prop := e.1 + 4 ≤ f.1 ∨ f.1 + 4 ≤ e.1

/-- Words at places that do not overlap read back, and no other byte changes. -/
theorem State.putAll_stored (s : State) (ws : List (Nat × Word))
    (h : ws.Pairwise WordsApart) : Stored s (s.putAll ws) ws := by
  induction ws generalizing s with
  | nil => exact ⟨by simp, fun _ _ => rfl⟩
  | cons e ws ih =>
    obtain ⟨apart, h⟩ := List.pairwise_cons.1 h
    obtain ⟨reads, keeps⟩ := ih (s.putWord e.1 e.2) h
    have keeps_e : ∀ b, b < 4 → ((s.putWord e.1 e.2).putAll ws).byte (e.1 + b) = (s.putWord e.1 e.2).byte (e.1 + b) :=
      fun b hb => keeps _ (fun f hf => by have : _ ∨ _ := apart f hf; omega)
    refine ⟨fun f hf => ?_, fun a ha => ?_⟩
    · rcases List.mem_cons.1 hf with rfl | hf
      · have word : ((s.putWord f.1 f.2).putAll ws).word f.1 = (s.putWord f.1 f.2).word f.1 := by
          unfold State.word
          rw [keeps_e 1 (by decide), keeps_e 2 (by decide), keeps_e 3 (by decide)]
          exact congrArg (word4 · _ _ _) (keeps_e 0 (by decide))
        exact word.trans (State.word_putWord s f.1 f.2)
      · exact reads f hf
    · calc ((s.putWord e.1 e.2).putAll ws).byte a
        _ = (s.putWord e.1 e.2).byte a := keeps a (fun f hf => ha f (List.mem_cons_of_mem _ hf))
        _ = s.byte a := State.byte_putWord_ne s _ _ _ (ha e List.mem_cons_self)

/-- What is stored is a matter of the two memories alone. -/
theorem Stored.of_mem {s t s' t' : State} {ws : List (Nat × Word)} (h : Stored s t ws) (hs : s'.mem = s.mem) (ht : t'.mem = t.mem) :
    Stored s' t' ws := by
  have byteS : ∀ a, s'.byte a = s.byte a := fun a => congrArg (Tbl.getD · a 0) hs
  have byteT : ∀ a, t'.byte a = t.byte a := fun a => congrArg (Tbl.getD · a 0) ht
  simpa only [Stored, State.word, byteS, byteT] using h

/-! ## Delay buffers (R69, R70, R79) -/

section
variable {l : DlyBuf} {s : State}

theorem DlyBuf.addr_add_len (n : Nat) : l.addr (n + l.len) = l.addr n := by
  rw [DlyBuf.addr, DlyBuf.addr, Nat.add_right_comm, Nat.add_mod_right]

theorem DlyBuf.addr_lt_top (n : Nat) (hlen : 0 < l.len) (hfit : l.base + 4 * l.len ≤ l.top) : l.addr n < l.top := by
  have := Nat.mod_lt (n + Config.delayStart l.base) hlen
  unfold DlyBuf.addr
  omega

/-- Places less than one turn of the buffer apart do not overlap. -/
theorem DlyBuf.addr_apart {n m : Nat} (h : n < m) (hm : m < n + l.len) : l.addr n + 4 ≤ l.addr m ∨ l.addr m + 4 ≤ l.addr n := by
  have hne : (n + Config.delayStart l.base) % l.len ≠ (m + Config.delayStart l.base) % l.len := by
    intro he
    have hzero := Nat.sub_mod_eq_zero_of_mod_eq he.symm
    rw [Nat.add_sub_add_right, Nat.mod_eq_of_lt (by omega)] at hzero
    omega
  unfold DlyBuf.addr
  omega

theorem delayWords_succ (n len : Nat) (x : Nat → Int) :
    delayWords l n (len + 1) x = (l.addr n, Word.ofInt (x 0)) :: delayWords l (n + 1) len (fun j => x (j + 1)) := by
  simp [delayWords, List.range_succ_eq_map, Function.comp_def, Nat.add_assoc, Nat.add_comm 1]

/-- A block no longer than the buffer is stored at places that do not overlap. -/
theorem delayWords_apart (n len : Nat) (x : Nat → Int) (h : len ≤ l.len) :
    (delayWords l n len x).Pairwise WordsApart := by
  unfold delayWords
  rw [List.pairwise_map]
  refine List.pairwise_lt_range.imp_of_mem (fun {i j} _ hj hij => ?_)
  have := List.mem_range.1 hj
  exact DlyBuf.addr_apart (by omega) (by omega)

variable {d : Nat} (hd : d < l.len)

include hd

/-- Once sample 0 is stored, the rest of the block reads what the whole block reads one sample later. -/
theorem State.delayedBy_putWord (n fill : Nat) {x : Nat → Int} (hx : InS32 (x 0)) (j : Nat) :
    (s.putWord (l.addr n) (Word.ofInt (x 0))).delayedBy l d (n + 1) (min l.len (fill + 1)) (fun i => x (i + 1)) j =
      s.delayedBy l d n fill x (j + 1) := by
  have index : n + 1 + j + l.len - d = n + (j + 1) + l.len - d := by omega
  unfold State.delayedBy
  rw [index]
  rcases Nat.lt_trichotomy d (j + 1) with h | h | h
  · rw [if_pos (Nat.le_of_lt_succ h), if_pos (Nat.le_of_lt h), Nat.succ_sub (Nat.le_of_lt_succ h)]
  · subst h
    have turn : n + (j + 1) + l.len - (j + 1) = n + l.len := by omega
    rw [if_neg (Nat.not_succ_le_self j), if_neg (by omega), if_pos (Nat.le_refl _), turn, DlyBuf.addr_add_len,
      State.word_putWord, toInt_ofInt_of_inS32 hx, Nat.sub_self]
  · have old := State.word_putWord_ne s (l.addr n) (l.addr (n + (j + 1) + l.len - d)) (Word.ofInt (x 0))
      (DlyBuf.addr_apart (by omega) (by omega)).symm
    have written : min l.len (fill + 1) + j < d ↔ fill + (j + 1) < d := by omega
    rw [if_neg (show ¬ d ≤ j by omega), if_neg (show ¬ d ≤ j + 1 by omega), old]
    simp only [written]

variable (hfit : l.base + 4 * l.len ≤ l.top)

include hfit

/-- One sample through a delay buffer whose memory holds no ECC error: it is stored, and the one `d` back is read. -/
theorem dlyStep_eq (n fill : Nat) {x : Nat → Int} (hx : InS32 (x 0)) (hecc : s.memc.ecc = []) :
    dlyStep l d n fill (x 0) s = (s.delayedBy l d n fill x 0, s.putWord (l.addr n) (Word.ofInt (x 0))) := by
  have inTop := fun m => DlyBuf.addr_lt_top (l := l) m (by omega) hfit
  have clean : ∀ a, (s.putWord (l.addr n) (Word.ofInt (x 0))).eccAt a = none := fun a => by
    simp [State.eccAt, State.putWord, State.setWord, State.setByte, hecc, Tbl.del]
  unfold dlyStep
  simp only [inTop, if_true, State.eccBad, State.eccSeen, clean, Nat.not_le.2 (inTop _), or_false]
  rcases Nat.eq_zero_or_pos d with rfl | hpos
  · simp [State.delayedBy, DlyBuf.addr_add_len, sval, toInt_ofInt_of_inS32 hx]
  · have old : (s.putWord (l.addr n) (Word.ofInt (x 0))).word (l.addr (n + l.len - d)) = s.word (l.addr (n + l.len - d)) :=
      State.word_putWord_ne s _ _ _ ((DlyBuf.addr_apart (by omega) (by omega)).symm)
    by_cases hf : fill < d <;> simp [State.delayedBy, Nat.ne_of_gt hpos, hf, old, sval]

/-- A block through a delay buffer whose memory holds no ECC error. -/
theorem dlyBlock_samples (n fill len : Nat) {x : Nat → Int} (hx : ∀ j, j < len → InS32 (x j)) (hecc : s.memc.ecc = []) :
    dlyBlock l d n fill (samples len x) s = (samples len (s.delayedBy l d n fill x),
      if len = 0 then fill else min l.len (fill + len), s.putAll (delayWords l n len x)) := by
  induction len generalizing n fill s x with
  | zero => rfl
  | succ len ih =>
    have tail := ih (s := s.putWord (l.addr n) (Word.ofInt (x 0))) (n + 1) (min l.len (fill + 1))
      (fun j hj => hx (j + 1) (Nat.succ_lt_succ hj)) (by simp [State.putWord, State.setWord, State.setByte, hecc, Tbl.del])
    have fills : (if len = 0 then min l.len (fill + 1) else min l.len (min l.len (fill + 1) + len)) =
        min l.len (fill + (len + 1)) := by
      split <;> omega
    rw [samples_succ, dlyBlock, dlyStep_eq hd hfit n fill (hx 0 len.succ_pos) hecc, tail, fills, samples_succ,
      delayWords_succ, if_neg len.succ_ne_zero, samples_congr (fun j _ => State.delayedBy_putWord hd n fill (hx 0 len.succ_pos) j)]
    rfl

end

/-! ## Flags, chains and domains -/

/-- The state with another SYS_SAT_FLAGS. -/
def State.withSat (s : State) (w : Word) : State := { s with sat := w }

@[simp] theorem State.withSat_mem (s : State) (w : Word) : (s.withSat w).mem = s.mem := rfl

@[simp] theorem State.putSlot_mem (s : State) (n : Nat) (xs : List Int) : (s.putSlot n xs).mem = s.mem := rfl

theorem State.setSat_eq (s : State) (b : Bool) (k : Nat) :
    ∃ w, s.setSat b k = s.withSat w ∧ (w = s.sat ∨ w = s.sat ||| Word.ofNat (2 ^ k)) := by
  cases b
  · exact ⟨_, rfl, .inl rfl⟩
  · exact ⟨_, rfl, .inr rfl⟩

/-- A sticky flag that may rise twice rises once. -/
theorem flag_trans {old mid new flag : Word} (h₁ : mid = old ∨ mid = old ||| flag) (h₂ : new = mid ∨ new = mid ||| flag) :
    new = old ∨ new = old ||| flag := by
  rcases h₂ with rfl | rfl
  · exact h₁
  · rcases h₁ with rfl | rfl
    · exact .inr rfl
    · exact .inr (by rw [BitVec.or_assoc, BitVec.or_self])

@[simp] theorem chainRun_zero (ts : List Int) (base : Nat) (xs : List Int) (s : State) :
    chainRun ts base 0 xs s = (xs, [], s) := rfl

@[simp] theorem secSats_nil (s : State) : secSats [] s = s := rfl

theorem showDomErrIn_of_match {i : Nat} {s : State} (h : s.isDomErr s.eng i = false) : showDomErrIn i s = s := by
  simp [showDomErrIn, h]

/-! ## An input strip (R64) -/

/-- Sample `j` of a feed as a strip of domain `dom` reads it. -/
def State.feedAt (s : State) (f dom j : Nat) : Int := (s.readFeed f dom).1.getD j 0

theorem readFeed_samples (s : State) (f dom : Nat) : (s.readFeed f dom).1 = samples (s.blockLen dom) (s.feedAt f dom) :=
  (samples_getD (s.length_readFeed f dom)).symm

/-- The domain of input strip `i` in the processing stage. -/
def State.inDom (s : State) (i : Nat) : Nat := (s.enp (keyIS i 0)).fld 1 2

/-- Stage 1: the selector's block and its position after it. -/
def inSel (i : Nat) (s : State) : List Int × Nat :=
  selBlock ((s.enp (keyIS i 0)).fld 6 1) ((s.enp (keyIS i 0)).fld 16 16) ((s.enp (keyIS i 0)).bit 4) (s.inS i).c
    (s.readFeed ((s.enp (keyIS i 4)).fld 0 15) (s.inDom i)).1 (s.readFeed ((s.enp (keyIS i 4)).fld 16 15) (s.inDom i)).1

/-- Stages 1 and 2. -/
def inTrim (i : Nat) (s : State) : List Int := s.gainedBlock (s.inS i).trim (s.inDom i) (inSel i s).1

/-- Stages 1 to 3. -/
def inPolar (i : Nat) (s : State) : List Int :=
  if (s.enp (keyIS i 0)).bit 3 then (inTrim i s).map negSat else inTrim i s

theorem inSel_pos (i : Nat) (s : State) : (inSel i s).2 =
    selPos (s.inS i).c ((s.enp (keyIS i 0)).fld 16 16) ((s.enp (keyIS i 0)).bit 4) (s.blockLen (s.inDom i)) := by
  rw [inSel, readFeed_samples, readFeed_samples, selBlock_samples, if_neg (Nat.ne_of_gt (s.blockLen_pos _))]

theorem inPolar_samples (i : Nat) (s : State) : inPolar i s = samples (s.blockLen (s.inDom i)) (s.inputAt i) := by
  rw [inPolar, inTrim, inSel, readFeed_samples, readFeed_samples, selBlock_samples, gainedBlock_samples, map_samples]
  by_cases h : (s.enp (keyIS i 0)).bit 3 = true
  · exact (if_pos h).trans (samples_congr (fun j _ => (if_pos h).symm))
  · exact (if_neg h).trans (samples_congr (fun j _ => (if_neg h).symm))

theorem inputAt_inS32 (i j : Nat) (s : State) : InS32 (s.inputAt i j) := by
  unfold State.inputAt
  dsimp only
  split
  · exact sat32_inS32 _
  · exact gainMul_inS32 _ _

/-- Stages 4 to 6 without sections and task pass the block of stages 1 to 3 on (R67, R68). -/
theorem inFront_plain {i : Nat} {s : State} (hpf : (s.enp (keyIS i 0x18)).fld 16 2 = 0) (heq : (s.enp (keyIS i 0x18)).fld 20 4 = 0)
    (hdyn : s.enB (keyIS i 0x1C) 0 = false) (hdom : s.isDomErr s.eng i = false) :
    ∃ w st, inFront i s = inBack i (inPolar i s) ((s.withSat w).setInS i st) ∧ (w = s.sat ∨ w = s.sat ||| 2) ∧
      st.c = (inSel i s).2 ∧ st.fader = (s.inS i).fader ∧ st.mute = (s.inS i).mute ∧ st.fill = (s.inS i).fill := by
  have noTask : (s.enp (keyIS i 0x1C)).bit 0 = false := hdyn
  have pass : ∃ b st, inFront i s = inBack i (inPolar i s) (showDomErrIn i ((s.setSat b 1).setInS i st)) ∧
      st.c = (inSel i s).2 ∧ st.fader = (s.inS i).fader ∧ st.mute = (s.inS i).mute ∧ st.fill = (s.inS i).fill := by
    unfold inFront
    simp only [hpf, heq, noTask, chainRun_zero, List.append_nil, secSats_nil]
    exact ⟨_, _, rfl, rfl, rfl, rfl, rfl⟩
  obtain ⟨b, st, hfront, hst⟩ := pass
  obtain ⟨w, hset, hsat⟩ := s.setSat_eq b 1
  have calm : showDomErrIn i ((s.withSat w).setInS i st) = (s.withSat w).setInS i st := showDomErrIn_of_match hdom
  exact ⟨w, st, by rw [hfront, hset, calm], hsat, hst⟩

/-- DELAY of input strip `i`, and its buffer (R69). -/
def State.inDly (s : State) (i : Nat) : Nat := (s.enp (keyIS i 0x20)).fld 0 11
def State.inDlyBuf (s : State) (i : Nat) : DlyBuf := s.inBuf (s.enp (keyIS i 0x20)) (s.blockLen (s.inDom i))

/-- Stage 7: the delayed block, how many samples the buffer then holds, and the state with them stored. -/
def inDelay (i : Nat) (x6 : List Int) (s : State) : List Int × Nat × State :=
  if s.inDly i = 0 then (x6, 0, s)
  else dlyBlock (s.inDlyBuf i) (s.inDly i) (s.firstIndex (s.inDom i)) (s.inS i).fill x6 s

/-- Stages 8 and 9 follow on stage 7. -/
theorem inBack_eq (i : Nat) (x6 : List Int) (s : State) : ∃ st b,
    inBack i x6 s = (((inDelay i x6 s).2.2.setInS i st).setSat b 1).putSlot i
      (s.gainedBlock (s.inS i).mute (s.inDom i) (s.gainedBlock (s.inS i).fader (s.inDom i) (inDelay i x6 s).1)) ∧
    st.phase = .done ∧ st.fill = (inDelay i x6 s).2.1 ∧ st.c = (s.inS i).c :=
  ⟨_, _, rfl, rfl, rfl, rfl⟩

/-- R69: the granules of a delay hold it and a block. -/
theorem le_granules {d n : Nat} (hd : d ≠ 0) : d + n ≤ 64 * granules d n := by
  unfold granules
  rw [if_neg hd]
  omega

theorem State.inDly_add_le_len {s : State} {i : Nat} (hd : s.inDly i ≠ 0) :
    s.inDly i + s.blockLen (s.inDom i) ≤ (s.inDlyBuf i).len := le_granules hd

/-- Where a delay is used, its buffer ends with the pool and no ECC error waits. -/
def State.InDlyClean (s : State) (i : Nat) : Prop :=
  s.inDly i ≠ 0 → (s.inDlyBuf i).base + 4 * (s.inDlyBuf i).len ≤ (s.inDlyBuf i).top ∧ s.memc.ecc = []

/-- The words that stage 7 stores of a block `x`. -/
def State.inStores (s : State) (i : Nat) (x : Nat → Int) : List (Nat × Word) :=
  if s.inDly i = 0 then [] else delayWords (s.inDlyBuf i) (s.firstIndex (s.inDom i)) (s.blockLen (s.inDom i)) x

theorem State.inStores_apart (s : State) (i : Nat) (x : Nat → Int) :
    (s.inStores i x).Pairwise WordsApart := by
  unfold State.inStores
  split
  · exact List.Pairwise.nil
  · next hd => exact delayWords_apart _ _ x (by have := State.inDly_add_le_len hd; omega)

/-- Samples that the buffer holds after a block. -/
def State.inFill (s : State) (i : Nat) : Nat :=
  if s.inDly i = 0 then 0 else min (s.inDlyBuf i).len ((s.inS i).fill + s.blockLen (s.inDom i))

/-- Sample `j` after stage 7. -/
def State.inDelayed (s : State) (i : Nat) (x : Nat → Int) (j : Nat) : Int :=
  s.delayedBy (s.inDlyBuf i) (s.inDly i) (s.firstIndex (s.inDom i)) (s.inS i).fill x j

/-- The block after stages 7 to 9. -/
def State.inBlock (s : State) (i : Nat) (x : Nat → Int) : List Int :=
  samples (s.blockLen (s.inDom i)) (fun j =>
    s.gained (s.inS i).mute (s.inDom i) j (s.gained (s.inS i).fader (s.inDom i) j (s.inDelayed i x j)))

theorem inDelay_samples {i : Nat} {s : State} {x : Nat → Int} (hx : ∀ j, InS32 (x j)) (hclean : s.InDlyClean i) :
    inDelay i (samples (s.blockLen (s.inDom i)) x) s =
      (samples (s.blockLen (s.inDom i)) (s.inDelayed i x), s.inFill i, s.putAll (s.inStores i x)) := by
  have hn := s.blockLen_pos (s.inDom i)
  unfold inDelay State.inStores State.inDelayed State.inFill
  by_cases hd : s.inDly i = 0
  · simp [hd, State.delayedBy, State.putAll]
  · obtain ⟨hfit, hecc⟩ := hclean hd
    have hlen := State.inDly_add_le_len hd
    rw [if_neg hd, if_neg hd, if_neg hd, dlyBlock_samples (by omega) hfit _ _ _ (fun j _ => hx j) hecc, if_neg (Nat.ne_of_gt hn)]

/-- Stages 7 to 9 of a block `x`. -/
theorem inBack_samples {i : Nat} {s : State} {x : Nat → Int} (hx : ∀ j, InS32 (x j)) (hclean : s.InDlyClean i) :
    ∃ w st, inBack i (samples (s.blockLen (s.inDom i)) x) s =
        (((s.putAll (s.inStores i x)).withSat w).setInS i st).putSlot i (s.inBlock i x) ∧
      (w = s.sat ∨ w = s.sat ||| 2) ∧ st.phase = .done ∧ st.fill = s.inFill i ∧ st.c = (s.inS i).c := by
  obtain ⟨st, b, hback, hphase, hfill, hc⟩ := inBack_eq i (samples (s.blockLen (s.inDom i)) x) s
  rw [inDelay_samples hx hclean] at hback hfill
  obtain ⟨w, hset, hsat⟩ := State.setSat_eq ((s.putAll (s.inStores i x)).setInS i st) b 1
  refine ⟨w, st, ?_, ?_, hphase, hfill, hc⟩
  · rw [hback, hset, gainedBlock_samples, gainedBlock_samples]
    rfl
  · obtain ⟨m, c, h⟩ := s.putAll_only (s.inStores i x)
    rwa [State.setInS_sat, h] at hsat

/-- What an input strip `i` leaves: words stored, flags, its own state in two steps and its source slot. -/
def State.inAnswer (s : State) (i : Nat) (u w : Word) (a b : InStrip) (ws : List (Nat × Word)) (ys : List Int) : State :=
  (((((s.withSat u).setInS i a).putAll ws).withSat w).setInS i b).putSlot i ys

section
variable (s : State) (i : Nat) (u w : Word) (a b : InStrip) (ws : List (Nat × Word)) (ys : List Int)

theorem inAnswer_eq : ∃ m c, s.inAnswer i u w a b ws ys = { s with
    sat := w, mem := m, memc := c
    engine := { s.engine with ins := Tbl.set (Tbl.set s.engine.ins i a {}) i b {}, slots := Tbl.put s.engine.slots i ys } } := by
  obtain ⟨m, c, h⟩ := State.putAll_only ((s.withSat u).setInS i a) ws
  exact ⟨m, c, by rw [State.inAnswer, h]; rfl⟩

theorem inAnswer_frame :
    let t := s.inAnswer i u w a b ws ys
    { t with engine := { t.engine with ins := s.engine.ins, slots := s.engine.slots }, sat := s.sat, mem := s.mem, memc := s.memc } = s := by
  obtain ⟨m, c, h⟩ := inAnswer_eq s i u w a b ws ys
  rw [h]

theorem inAnswer_inS_ne {k : Nat} (hk : k ≠ i) : (s.inAnswer i u w a b ws ys).inS k = s.inS k := by
  obtain ⟨m, c, h⟩ := inAnswer_eq s i u w a b ws ys
  rw [h]
  exact (Tbl.getD_set_ne _ _ _ _ _ _ hk.symm).trans (Tbl.getD_set_ne _ _ _ _ _ _ hk.symm)

theorem inAnswer_slots (m : Nat) : Tbl.find (s.inAnswer i u w a b ws ys).engine.slots m =
    if m = i then some ys else Tbl.find s.engine.slots m := by
  obtain ⟨_, _, h⟩ := inAnswer_eq s i u w a b ws ys
  rw [h, Tbl.find_put]
  simp only [eq_comm]

theorem inAnswer_inS_same : (s.inAnswer i u w a b ws ys).inS i = b := State.inS_setInS_same _ i b

theorem inAnswer_onlyEccEnded : OnlyEccEnded s (s.inAnswer i u w a b ws ys) :=
  State.putAll_onlyEccEnded ((s.withSat u).setInS i a) ws

theorem inAnswer_stored (h : ws.Pairwise WordsApart) :
    Stored s (s.inAnswer i u w a b ws ys) ws :=
  (State.putAll_stored ((s.withSat u).setInS i a) ws h).of_mem rfl (by simp [State.inAnswer])

end

/-- The stages of an input strip that needs no section and no task, on every sample of the block. -/
theorem inFront_samples {i : Nat} {s : State} (hpf : (s.enp (keyIS i 0x18)).fld 16 2 = 0) (heq : (s.enp (keyIS i 0x18)).fld 20 4 = 0)
    (hdyn : s.enB (keyIS i 0x1C) 0 = false) (hdom : s.isDomErr s.eng i = false) (hclean : s.InDlyClean i) :
    ∃ u w a b, inFront i s = s.inAnswer i u w a b (s.inStores i (s.inputAt i)) (s.inBlock i (s.inputAt i)) ∧
      (w = s.sat ∨ w = s.sat ||| 2) ∧ b.phase = .done ∧ b.fill = s.inFill i ∧ b.c = (inSel i s).2 := by
  obtain ⟨u, a, hfront, hu, hc₁, hfader, hmute, hfill₁⟩ := inFront_plain hpf heq hdyn hdom
  have same : ((s.withSat u).setInS i a).inS i = a := State.inS_setInS_same _ i a
  obtain ⟨w, b, hback, hw, hphase, hfill₂, hc₂⟩ := inBack_samples (i := i) (s := (s.withSat u).setInS i a)
    (inputAt_inS32 i · s) hclean
  refine ⟨u, w, a, b, ?_, flag_trans hu hw, hphase, ?_, ?_⟩
  · rw [hfront, inPolar_samples]
    refine hback.trans ?_
    simp only [State.inBlock, State.inDelayed, same, hfader, hmute, hfill₁]
    rfl
  · rw [hfill₂]
    unfold State.inFill
    rw [same, hfill₁]
    rfl
  · rw [hc₂, same, hc₁]

theorem exec_inStrip {i : Fin 2048} {s : State} (hrel : s.engine.abx.released = false) (hen : (s.enp (keyIS i 0)).bit 0 = true)
    (hphase : (s.inS i).phase = .waiting) : exec (.stripProcess (.inStrip i)) s = .next (inFront i s) := by
  have hen' : s.enB (keyIS i 0) 0 = true := hen
  calc exec (.stripProcess (.inStrip i)) s
    _ = execStripProcess (.inStrip i) s := rfl
    _ = .next (inFront i s) := by simp [execStripProcess, inProcess, hrel, hen', hphase]

/-- Settles O17: the stages one after the other give each sample, and the answered state is read field by field. -/
theorem inputStripChain : Obligations.InputStripChain := by
  unfold Obligations.InputStripChain
  intro i s hrel w f sect st dom n dly d buf hen hphase hpf heq hdyn _ _ hdom hbuf
  have hclean : s.InDlyClean i := fun hd => hbuf (Nat.pos_of_ne_zero hd)
  obtain ⟨u, w', a, b, hfront, hsat, hdone, hfill, hc⟩ := inFront_samples hpf heq hdyn hdom hclean
  have own := inAnswer_inS_same s i u w' a b
  refine ⟨_, _, (exec_inStrip hrel hen hphase).trans (congrArg _ hfront), inAnswer_frame .., inAnswer_onlyEccEnded ..,
    inAnswer_stored _ _ _ _ _ _ _ _ (s.inStores_apart i _), hsat, fun _ hk => inAnswer_inS_ne _ _ _ _ _ _ _ _ hk,
    inAnswer_slots _ _ _ _ _ _ _ _, length_samples _ _, fun j hj => getD_samples _ hj, ?phase, ?fill, ?position⟩
  case phase => rw [own, hdone]
  case fill => exact (congrArg InStrip.fill (own ..)).trans hfill
  case position => rw [own, hc, inSel_pos]; rfl

/-! ## An output strip (R77, R79, R80) -/

theorem showDomErrOut_of_match {k : Nat} {s : State} (h : s.osDomErr s.eng s.engine.abx.amdEng k = false) : showDomErrOut k s = s := by
  simp [showDomErrOut, h]

/-- The domain of output strip `k` in the processing stage. -/
def State.outDom (s : State) (k : Nat) : Nat := (s.enp (keyOS k 0)).fld 1 2

/-- Stages 1 to 3 without sections and task pass a source of the strip's domain on. -/
theorem outFront_plain {k : Nat} {s : State} (hdom : (s.osSource k).2.2 = s.outDom k) (heq : (s.enp (keyOS k 4)).fld 16 5 = 0)
    (hdyn : s.enB (keyOS k 8) 0 = false) (herr : s.osDomErr s.eng s.engine.abx.amdEng k = false) :
    ∃ a, outFront k s = outBack k (s.osSource k).2.1 (s.setOuS k a) ∧
      a.gain = (s.ouS k).gain ∧ a.mute = (s.ouS k).mute ∧ a.fill = (s.ouS k).fill := by
  have noTask : (s.enp (keyOS k 8)).bit 0 = false := hdyn
  have inDomain : decide ((s.osSource k).2.2 ≠ (s.enp (keyOS k 0)).fld 1 2) = false := decide_eq_false (fun h => h hdom)
  have calm : ∀ a, showDomErrOut k (s.setOuS k a) = s.setOuS k a := fun _ => showDomErrOut_of_match herr
  unfold outFront
  simp only [inDomain, heq, noTask, chainRun_zero, secSats_nil, calm]
  exact ⟨_, rfl, rfl, rfl, rfl⟩

/-- DELAY of output strip `k` (R79). -/
def State.outDly (s : State) (k : Nat) : Nat := s.enF (keyOS k 0xC) 0 17

/-- Stage 4: the delayed block, how many samples the buffer then holds, and the state with them stored. -/
def outDelay (k : Nat) (x3 : List Int) (s : State) : List Int × Nat × State :=
  if s.odlyOn then dlyBlock (outBuf k) (s.outDly k) (s.firstIndex (s.outDom k)) (s.ouS k).fill x3 s
  else (x3, (s.ouS k).fill, s)

/-- Stage 7: the block to the destination that the strip names and drives. -/
def outSend (k dom : Nat) (ys : List Int) (s : State) : State :=
  match destOf s.eng k with
  | none => s
  | some dst =>
    if s.destDom dst = dom && !destConf s.eng k then
      { s with engine := { s.engine with outs := Tbl.put s.engine.outs (destKey dst) ys } }
    else s

/-- Stages 5 to 7 follow on stage 4. -/
theorem outBack_eq (k : Nat) (x3 : List Int) (s : State) : ∃ st b,
    outBack k x3 s = outSend k (s.outDom k)
      (s.gainedBlock (s.ouS k).mute (s.outDom k) (s.gainedBlock (s.ouS k).gain (s.outDom k) (outDelay k x3 s).1))
      (((outDelay k x3 s).2.2.setOuS k st).setSat b 1) ∧ st.phase = .done :=
  ⟨_, _, rfl, rfl⟩

/-- The state in which a destination has a block. -/
def State.putOut (s : State) (key : Nat) (ys : List Int) : State :=
  { s with engine := { s.engine with outs := Tbl.put s.engine.outs key ys } }

@[simp] theorem State.putOut_mem (s : State) (key : Nat) (ys : List Int) : (s.putOut key ys).mem = s.mem := rfl

theorem outSend_driven {k dom : Nat} {dst : Nat × Nat} {s : State} (ys : List Int) (hdst : destOf s.eng k = some dst)
    (hdom : s.destDom dst = dom) (hconf : destConf s.eng k = false) : outSend k dom ys s = s.putOut (destKey dst) ys := by
  simp [outSend, hdst, hdom, hconf, State.putOut]

/-- Sample `j` after stage 4. -/
def State.outDelayed (s : State) (k : Nat) (x : Nat → Int) (j : Nat) : Int :=
  if s.odlyOn then s.delayedBy (outBuf k) (s.outDly k) (s.firstIndex (s.outDom k)) (s.ouS k).fill x j else x j

/-- The block after stages 4 to 6. -/
def State.outBlock (s : State) (k : Nat) (x : Nat → Int) : List Int :=
  samples (s.blockLen (s.outDom k)) (fun j =>
    s.gained (s.ouS k).mute (s.outDom k) j (s.gained (s.ouS k).gain (s.outDom k) j (s.outDelayed k x j)))

/-- The words that stage 4 stores of a block `x`. -/
def State.outStores (s : State) (k : Nat) (x : Nat → Int) : List (Nat × Word) :=
  if s.odlyOn then delayWords (outBuf k) (s.firstIndex (s.outDom k)) (s.blockLen (s.outDom k)) x else []

/-- Where the output delays are in use, DELAY and a block fit the buffer, no ECC error waits, and the block can be stored. -/
def State.OutDlyClean (s : State) (k : Nat) (x : Nat → Int) : Prop :=
  s.odlyOn = true → s.outDly k + s.blockLen (s.outDom k) ≤ (outBuf k).len ∧ s.memc.ecc = [] ∧
    ∀ j, j < s.blockLen (s.outDom k) → InS32 (x j)

theorem State.outStores_apart {s : State} {k : Nat} {x : Nat → Int} (h : s.OutDlyClean k x) :
    (s.outStores k x).Pairwise WordsApart := by
  unfold State.outStores
  split
  · next hon => exact delayWords_apart _ _ x (by have := (h hon).1; omega)
  · exact List.Pairwise.nil

theorem outDelay_samples {k : Nat} {s : State} {x : Nat → Int} (hk : k < 1024) (hclean : s.OutDlyClean k x) :
    ∃ fill, outDelay k (samples (s.blockLen (s.outDom k)) x) s =
      (samples (s.blockLen (s.outDom k)) (s.outDelayed k x), fill, s.putAll (s.outStores k x)) := by
  have hn := s.blockLen_pos (s.outDom k)
  unfold outDelay State.outStores State.outDelayed
  by_cases hon : s.odlyOn = true
  · obtain ⟨hlen, hecc, hx⟩ := hclean hon
    have hfit : (outBuf k).base + 4 * (outBuf k).len ≤ (outBuf k).top := by simp only [outBuf]; omega
    simp only [hon, if_true]
    exact ⟨_, dlyBlock_samples (by omega) hfit _ _ _ hx hecc⟩
  · simp only [hon]
    exact ⟨_, rfl⟩

/-- What an output strip `k` leaves: words stored, flags, its own state in two steps and its destination's block. -/
def State.outAnswer (s : State) (k : Nat) (w : Word) (a b : OutStrip) (ws : List (Nat × Word)) (key : Nat) (ys : List Int) : State :=
  ((((s.setOuS k a).putAll ws).setOuS k b).withSat w).putOut key ys

section
variable (s : State) (k : Nat) (w : Word) (a b : OutStrip) (ws : List (Nat × Word)) (key : Nat) (ys : List Int)

theorem outAnswer_eq : ∃ m c, s.outAnswer k w a b ws key ys = { s with
    sat := w, mem := m, memc := c
    engine := { s.engine with ous := Tbl.set (Tbl.set s.engine.ous k a {}) k b {}, outs := Tbl.put s.engine.outs key ys } } := by
  obtain ⟨m, c, h⟩ := State.putAll_only (s.setOuS k a) ws
  exact ⟨m, c, by rw [State.outAnswer, h]; rfl⟩

theorem outAnswer_frame :
    let t := s.outAnswer k w a b ws key ys
    { t with engine := { t.engine with ous := s.engine.ous, outs := s.engine.outs }, sat := s.sat, mem := s.mem, memc := s.memc } = s := by
  obtain ⟨m, c, h⟩ := outAnswer_eq s k w a b ws key ys
  rw [h]

theorem outAnswer_ouS_ne {m : Nat} (hm : m ≠ k) : (s.outAnswer k w a b ws key ys).ouS m = s.ouS m := by
  obtain ⟨_, _, h⟩ := outAnswer_eq s k w a b ws key ys
  rw [h]
  exact (Tbl.getD_set_ne _ _ _ _ _ _ hm.symm).trans (Tbl.getD_set_ne _ _ _ _ _ _ hm.symm)

theorem outAnswer_ouS_same : (s.outAnswer k w a b ws key ys).ouS k = b := State.ouS_setOuS_same _ k b

theorem outAnswer_outs (m : Nat) : Tbl.find (s.outAnswer k w a b ws key ys).engine.outs m =
    if m = key then some ys else Tbl.find s.engine.outs m := by
  obtain ⟨_, _, h⟩ := outAnswer_eq s k w a b ws key ys
  rw [h, Tbl.find_put]
  simp only [eq_comm]

theorem outAnswer_onlyEccEnded : OnlyEccEnded s (s.outAnswer k w a b ws key ys) := State.putAll_onlyEccEnded (s.setOuS k a) ws

theorem outAnswer_stored (h : ws.Pairwise WordsApart) :
    Stored s (s.outAnswer k w a b ws key ys) ws :=
  (State.putAll_stored (s.setOuS k a) ws h).of_mem rfl (by simp [State.outAnswer])

theorem outAnswer_nil_mem : (s.outAnswer k w a b [] key ys).mem = s.mem := by
  simp [State.outAnswer, State.putAll]

end

/-- Stages 4 to 7 of a block `x` whose destination the strip drives. -/
theorem outBack_samples {k : Nat} {dst : Nat × Nat} {s : State} {x : Nat → Int} (hk : k < 1024) (hclean : s.OutDlyClean k x)
    (hdst : destOf s.eng k = some dst) (hdom : s.destDom dst = s.outDom k) (hconf : destConf s.eng k = false) :
    ∃ w b, outBack k (samples (s.blockLen (s.outDom k)) x) s =
        (((s.putAll (s.outStores k x)).setOuS k b).withSat w).putOut (destKey dst) (s.outBlock k x) ∧
      (w = s.sat ∨ w = s.sat ||| 2) ∧ b.phase = .done := by
  obtain ⟨fill, hdelay⟩ := outDelay_samples hk hclean
  obtain ⟨b, sats, hback, hphase⟩ := outBack_eq k (samples (s.blockLen (s.outDom k)) x) s
  rw [hdelay] at hback
  obtain ⟨w, hset, hsat⟩ := State.setSat_eq ((s.putAll (s.outStores k x)).setOuS k b) sats 1
  obtain ⟨m, c, hput⟩ := s.putAll_only (s.outStores k x)
  refine ⟨w, b, ?_, by rwa [State.setOuS_sat, hput] at hsat, hphase⟩
  rw [hback, hset, gainedBlock_samples, gainedBlock_samples, hput]
  exact outSend_driven _ hdst hdom hconf

/-- The stages of an output strip that needs no section and no task and drives its destination, on every sample of its
source. -/
theorem outFront_samples {k : Nat} {dst : Nat × Nat} {s : State} (hk : k < 1024) (hdom : (s.osSource k).2.2 = s.outDom k)
    (hlen : (s.osSource k).2.1.length = s.blockLen (s.outDom k)) (heq : (s.enp (keyOS k 4)).fld 16 5 = 0)
    (hdyn : s.enB (keyOS k 8) 0 = false) (herr : s.osDomErr s.eng s.engine.abx.amdEng k = false)
    (hclean : s.OutDlyClean k (fun j => (s.osSource k).2.1.getD j 0))
    (hdst : destOf s.eng k = some dst) (hdd : s.destDom dst = s.outDom k) (hconf : destConf s.eng k = false) :
    let x := fun j => (s.osSource k).2.1.getD j 0
    ∃ w a b, outFront k s = s.outAnswer k w a b (s.outStores k x) (destKey dst) (s.outBlock k x) ∧
      (w = s.sat ∨ w = s.sat ||| 2) ∧ b.phase = .done := by
  intro x
  obtain ⟨a, hfront, hgain, hmute, hfill⟩ := outFront_plain hdom heq hdyn herr
  have same : (s.setOuS k a).ouS k = a := State.ouS_setOuS_same s k a
  obtain ⟨w, b, hback, hsat, hphase⟩ := outBack_samples (s := s.setOuS k a) (x := x) hk hclean hdst hdd hconf
  refine ⟨w, a, b, ?_, hsat, hphase⟩
  rw [hfront, ← samples_getD hlen]
  refine hback.trans ?_
  simp only [State.outBlock, State.outDelayed, same, hgain, hmute, hfill]
  rfl

theorem exec_outStrip {k : Fin 1024} {s : State} (hrel : s.engine.abx.released = false) (hen : (s.enp (keyOS k 0)).bit 0 = true)
    (hphase : (s.ouS k).phase = .waiting) (hsrc : (s.osSource k).1 = true) :
    exec (.stripProcess (.outStrip k)) s = .next (outFront k s) := by
  have hen' : s.enB (keyOS k 0) 0 = true := hen
  calc exec (.stripProcess (.outStrip k)) s
    _ = execStripProcess (.outStrip k) s := rfl
    _ = .next (outFront k s) := by simp [execStripProcess, outProcess, hrel, hen', hphase, hsrc]

/-- Settles O18: as for an input strip, with the alignment delay in use or not. -/
theorem outputStripChain : Obligations.OutputStripChain := by
  unfold Obligations.OutputStripChain
  intro k dst s hrel w st dom d n on src x hen hphase heq hdyn hsrc hdom hlen hdst herr hdd hconf hbuf
  have hclean : s.OutDlyClean k x := hbuf
  obtain ⟨w', a, b, hfront, hsat, hdone⟩ := outFront_samples k.isLt hdom hlen heq hdyn herr hclean hdst hdd hconf
  refine ⟨_, _, (exec_outStrip hrel hen hphase hsrc).trans (congrArg _ hfront), outAnswer_frame .., outAnswer_onlyEccEnded ..,
    ?unstored, ?stored, hsat, fun _ hm => outAnswer_ouS_ne _ _ _ _ _ _ _ _ hm, outAnswer_outs _ _ _ _ _ _ _ _,
    length_samples _ _, ?delayed, ?direct, ?phase⟩
  case unstored =>
    intro hoff
    have noWords : s.outStores k x = [] := if_neg hoff
    rw [noWords]
    exact outAnswer_nil_mem ..
  case stored =>
    intro hon
    have words : s.outStores k x = delayWords (outBuf k) (s.firstIndex dom) n x := if_pos hon
    exact (congrArg (Stored s _) words).mp (outAnswer_stored _ _ _ _ _ _ _ _ (State.outStores_apart hclean))
  case delayed =>
    intro hon j hj
    have read : s.outDelayed k x j = s.delayedBy (outBuf k) d (s.firstIndex dom) st.fill x j := if_pos hon
    exact (getD_samples _ hj).trans (congrArg (fun y => s.gained st.mute dom j (s.gained st.gain dom j y)) read)
  case direct =>
    intro hoff j hj
    have pass : s.outDelayed k x j = x j := if_neg hoff
    exact (getD_samples _ hj).trans (congrArg (fun y => s.gained st.mute dom j (s.gained st.gain dom j y)) pass)
  case phase => exact (congrArg OutStrip.phase (outAnswer_ouS_same ..)).trans hdone

end Sys2Proof.Machine
end

section
/-!
PROOFS. A rod of the matrix (R95, R96, R102). A piece's sums are the block that the sum of its beads' products gives
(`State.pieceSums_samples`), and a rod's narrowing, by its lane or by the collector, is one lemma about `rodWrite`.
-/

namespace Sys2Proof.Machine

open Sys2Proof

/-! ## Reads of a memory without ECC errors -/

theorem State.eccBad_of_clean {s : State} (h : s.memc.ecc = []) (a : Nat) : s.eccBad a = false := by
  simp [State.eccBad, State.eccAt, h]

theorem State.eccSeen_of_clean {s : State} (h : s.memc.ecc = []) (a : Nat) : s.eccSeen a = s := by
  simp [State.eccSeen, State.eccAt, h]

theorem foldl_eccSeen_of_clean {s : State} (h : s.memc.ecc = []) (as : List Nat) : as.foldl State.eccSeen s = s := by
  induction as with
  | nil => rfl
  | cons a as ih => rwa [List.foldl_cons, State.eccSeen_of_clean h]

/-! ## Events and the engine

Raising an event neither reads nor changes the engine and SYS_SAT_FLAGS. -/

/-- The state with another engine and another SYS_SAT_FLAGS. -/
def State.withEngineSat (s : State) (e : Engine) (w : Word) : State := { s with engine := e, sat := w }

section
variable (s : State) (e : Engine) (w : Word) (c p : Nat)

theorem State.setAbx_eq_withEngineSat (a : Abacus) : s.setAbx a = s.withEngineSat { s.engine with abx := a } s.sat := rfl

theorem State.setAbx_withEngineSat (a : Abacus) : (s.withEngineSat e w).setAbx a = s.withEngineSat { e with abx := a } w := rfl

theorem State.putSlot_withEngineSat (n : Nat) (xs : List Int) :
    (s.withEngineSat e w).putSlot n xs = s.withEngineSat { e with slots := Tbl.put e.slots n xs } w := rfl

theorem State.setSat_withEngineSat : (s.withEngineSat e w).setSat true 0 = s.withEngineSat e (w ||| 1) := rfl

theorem State.deliver_withEngineSat (n l k : Nat) :
    (s.withEngineSat e w).deliver c n p l k = (s.deliver c n p l k).withEngineSat e w := by
  have sameOpen : (s.withEngineSat e w).evOpen k = s.evOpen k := rfl
  have sameMask : (s.withEngineSat e w).evMask = s.evMask := rfl
  unfold State.deliver
  rw [sameOpen, sameMask]
  split <;> rfl

theorem State.deliverAll_withEngineSat (n l : Nat) :
    (s.withEngineSat e w).deliverAll c n p l = (s.deliverAll c n p l).withEngineSat e w :=
  List.foldl_hom (f := fun t : State => t.withEngineSat e w) (fun t k => State.deliver_withEngineSat t e w c p n l k)

theorem State.raise_withEngineSat : (s.withEngineSat e w).raise c p = (s.raise c p).withEngineSat e w := by
  have delivered := s.deliverAll_withEngineSat e w c p s.node (s.sctr % 2 ^ 32)
  have sameNode : (s.withEngineSat e w).node = s.node := rfl
  have sameRole : (s.withEngineSat e w).fldN 0x100E0000 0 2 = s.fldN 0x100E0000 0 2 := rfl
  have sameSctr : (s.withEngineSat e w).sctr = s.sctr := rfl
  simp only [State.raise, sameNode, sameRole, sameSctr, delivered]
  generalize s.deliverAll c s.node p (s.sctr % 2 ^ 32) = t
  split <;> rfl

theorem State.raiseIf_withEngineSat (b : Bool) :
    (s.withEngineSat e w).raiseIf b c p = (s.raiseIf b c p).withEngineSat e w := by
  cases b
  · rfl
  · exact s.raise_withEngineSat e w c p

/-- Raising an event changes nothing but what events leave. -/
theorem State.raiseIf_eventsOf (b : Bool) : (s.raiseIf b c p).eventsOf s = s := by
  cases b
  · rfl
  · obtain ⟨q, l, f, m, h⟩ := s.raise_only c p
    simp only [State.raiseIf, if_true, h]
    rfl

end

/-! ## The sums of a piece (R95, R96) -/

theorem zipWith_samples (f : Int → Int → Int) (n : Nat) (x y : Nat → Int) :
    List.zipWith f (samples n x) (samples n y) = samples n (fun j => f (x j) (y j)) := by
  simp [samples, List.zipWith_map, List.zipWith_self]

/-- What a bead adds to sample `n` of a rod of domain `dom`. -/
def State.beadAt (s : State) (dom n : Nat) (b : Bead) : Int :=
  (s.slotBlock b.src).getD n 0 * rampGain b.frm b.tgt (rampVal s.engine.rampsEng b.ramp ((s.rampTimes dom).getD n 0))

theorem beadTerms_samples {s : State} {dom : Nat} {b : Bead} (h : s.slotDom b.src = dom) :
    s.beadTerms dom b = (samples (s.blockLen dom) (s.beadAt dom · b), false) := by
  have times := samples_getD (s.length_rampTimes dom)
  have source : samples (s.blockLen dom) (fun j => (s.slotBlock b.src).getD j 0) = s.slotBlock b.src :=
    samples_getD (by rw [State.slotBlock, length_fitBlock, h])
  rw [State.beadTerms, if_neg (fun differs => differs h), ← times, ← source, zipWith_samples]
  rfl

theorem foldl_beadTerms {s : State} {dom : Nat} {bs : List Bead} (h : ∀ b, b ∈ bs → s.slotDom b.src = dom) (x : Nat → Int) :
    bs.foldl (fun acc b =>
        let t := s.beadTerms dom b
        (List.zipWith (· + ·) acc.1 t.1, acc.2 || t.2)) (samples (s.blockLen dom) x, false) =
      (samples (s.blockLen dom) (fun j => x j + (bs.map (s.beadAt dom j)).sum), false) := by
  induction bs generalizing x with
  | nil => simp
  | cons b bs ih =>
    obtain ⟨first, rest⟩ := List.forall_mem_cons.1 h
    simpa [beadTerms_samples first, zipWith_samples, Int.add_assoc] using ih rest (fun j => x j + s.beadAt dom j b)

theorem State.cancels_iff (s : State) (e : RodEntry) (src : Nat) :
    s.cancels e src ↔ src ∈ s.cancelled s.engine.abx.amdEng e := by
  simp [State.cancels, State.cancelled]

/-- Entries left out of a sum count as zeros. -/
theorem sum_map_filter_not {α : Type} (cut : α → Bool) (f : α → Int) (xs : List α) :
    ((xs.filter (fun x => !cut x)).map f).sum = (xs.map (fun x => if cut x then 0 else f x)).sum := by
  induction xs with
  | nil => rfl
  | cons x xs ih => cases h : cut x <;> simp [h, ih]

/-- The statements' exact sum runs over the beads whose gain is applied. -/
theorem State.pieceAt_eq (s : State) (e : RodEntry) (p : Bool × Nat × Nat) (n : Nat) :
    s.pieceAt e p n = ((s.pieceBeads e p).map (s.beadAt e.dom n)).sum := by
  obtain ⟨amd, lo, hi⟩ := p
  cases amd
  case true => simp [State.pieceAt, State.pieceBeads, sumTo, State.beadAt, Function.comp_def]
  case false =>
    have applied := sum_map_filter_not (fun b => (s.cancelled s.engine.abx.amdEng e).contains b.src) (s.beadAt e.dom n)
      ((List.range (hi - lo)).map (fun i => s.bead s.engine.abx.mainEng false (lo + i)))
    refine Eq.trans ?_ applied.symm
    simp [State.pieceAt, sumTo, State.beadAt, State.cancels_iff, Function.comp_def]

theorem State.pieceSums_samples {s : State} {e : RodEntry} {p : Bool × Nat × Nat}
    (h : ∀ b, b ∈ s.pieceBeads e p → s.slotDom b.src = e.dom) :
    s.pieceSums e p = (samples (s.blockLen e.dom) (s.pieceAt e p), false) := by
  have start : zeros (s.blockLen e.dom) = samples (s.blockLen e.dom) (fun _ => 0) := by
    rw [zeros, samples, List.map_const', List.length_range]
  rw [State.pieceSums, start, foldl_beadTerms h]
  simp only [Int.zero_add, ← State.pieceAt_eq]

/-! ## The narrowing of a rod (R96, R98, R111) -/

/-- The sums that are narrowed: zeros for a rod in which an uncorrectable error was read. -/
def Abacus.givenSums (a : Abacus) (r : Nat) (sums : List Int) : List Int :=
  if a.badRods.contains r then sums.map (fun _ => 0) else sums

theorem wrapped_givenSums (a : Abacus) (r : Nat) (sums : List Int) :
    (if a.badRods.contains r then sums.map (fun _ => 0) else sums.map (wrapS 72)) = (a.givenSums r sums).map (wrapS 72) := by
  have zero : wrapS 72 0 = 0 := by decide
  unfold Abacus.givenSums
  split
  · simp [zero]
  · rfl

/-- The matrix's record after a saturation in rod `r`. -/
def Abacus.saturated (a : Abacus) (r : Nat) : Abacus :=
  { a with
    satmap := Tbl.set a.satmap (r / 32) (Tbl.getD a.satmap (r / 32) 0 ||| Word.ofNat (2 ^ (r % 32))) 0, satArmed := false }

theorem rodWrite_eq_ite (s : State) (r : Nat) (sums : List Int) :
    let xs := (s.engine.abx.givenSums r sums).map (wrapS 72)
    let t := s.putSlot (2048 + r) (xs.map (narrow · 27))
    rodWrite r sums s = if xs.any (narrowSats · 27) then
      ((t.setAbx (s.engine.abx.saturated r)).setSat true 0).raiseIf s.engine.abx.satArmed 0x0C12 (s.rodLedger r) else t := by
  rw [← wrapped_givenSums]
  rfl

/-- `rodWrite` in one state: the slot listed and, where a narrowing saturates, the flags and the event. -/
theorem rodWrite_eq (s : State) (a : Abacus) (r : Nat) (sums : List Int) :
    let xs := (a.givenSums r sums).map (wrapS 72)
    let sat := xs.any (narrowSats · 27)
    rodWrite r sums (s.setAbx a) =
      (s.raiseIf (sat && a.satArmed) 0x0C12 (s.rodLedger r)).withEngineSat
        { s.engine with
          slots := Tbl.put s.engine.slots (2048 + r) (xs.map (narrow · 27)), abx := if sat then a.saturated r else a }
        (if sat then s.sat ||| 1 else s.sat) := by
  intro xs sat
  refine (rodWrite_eq_ite (s.setAbx a) r sums).trans ?_
  change (if sat = true then _ else _) = _
  by_cases h : sat = true
  · simp only [h, if_true, Bool.true_and]
    rw [s.setAbx_eq_withEngineSat a, State.putSlot_withEngineSat, State.setAbx_withEngineSat, State.setSat_withEngineSat]
    exact State.raiseIf_withEngineSat ..
  · rw [if_neg h, Bool.eq_false_iff.2 h]
    rfl

/-- A rod's narrowing, whoever does it: `a` is the matrix's record to which the flags of a saturation are added. -/
theorem rodWrite_rodWritten {s : State} {a : Abacus} (r : Nat) (sums : List Int) (hmap : a.satmap = s.engine.abx.satmap)
    (harm : a.satArmed = s.engine.abx.satArmed) : RodWritten s (rodWrite r sums (s.setAbx a)) r (a.givenSums r sums) a := by
  rw [rodWrite_eq]
  unfold RodWritten
  dsimp only
  generalize (a.givenSums r sums).map (wrapS 72) = xs
  generalize hsat : xs.any (narrowSats · 27) = sat
  refine ⟨⟨?raised, ?frame⟩, rfl, ?slots, ?record, ?satmap, rfl⟩
  case raised => rw [harm]; exact ⟨rfl, rfl, rfl, rfl⟩
  case frame =>
    have events := s.raiseIf_eventsOf 0x0C12 (s.rodLedger r) (sat && a.satArmed)
    exact congrArg (fun u : State => { u with engine := s.engine, sat := s.sat }) events
  case slots =>
    intro m
    simp only [eq_comm (a := m)]
    exact Tbl.find_put s.engine.slots (2048 + r) m _
  case record => cases sat <;> simp [State.withEngineSat, Abacus.saturated, ← harm]
  case satmap =>
    intro n
    cases sat
    case false => simp [State.withEngineSat, hmap]
    case true =>
      have written := Tbl.getD_set a.satmap (r / 32) n (Tbl.getD a.satmap (r / 32) 0 ||| Word.ofNat (2 ^ (r % 32))) 0 0
        (fun _ => rfl)
      rw [← hmap]
      refine written.trans ?_
      by_cases h : r / 32 = n
      · simp [h]
      · simp [h, Ne.symm h]

/-! ## A lane's piece and the collector (R102) -/

/-- The matrix's record once a lane has done piece `j` of rod `r`. -/
def Abacus.pieceMarked (a : Abacus) (r j : Nat) : Abacus := { a with doneP := insertNat (r * 128 + j) a.doneP }

/-- A lane's piece of a rod with entry `e`: its sources stand in the rod's domain, and memory holds no ECC error. -/
theorem pieceDone_of_ready {s : State} {r j : Nat} {e : RodEntry} {p : Bool × Nat × Nat} (hecc : s.memc.ecc = [])
    (he : s.rod s.engine.abx.amdEng r = e) (hp : (rodPieces e)[j]? = some p) (hrel : s.engine.abx.released = false)
    (hen : e.en = true) (hnew : s.engine.abx.doneP.contains (r * 128 + j) = false) (htiers : s.tiersBelow e.tier = true)
    (hready : ∀ b, b ∈ s.pieceBeads e p → s.slotReady b.src = true ∧ s.slotDom b.src = e.dom) :
    let a := s.engine.abx.pieceMarked r j
    let sums := samples (s.blockLen e.dom) (s.pieceAt e p)
    pieceDone r j s = if (rodPieces e).length = 1 then rodWrite r sums (s.setAbx a)
      else s.setAbx { a with waiting := Tbl.put a.waiting (r * 128 + j) sums } := by
  intro a sums
  subst he
  have stand : (s.pieceBeads (s.rod s.engine.abx.amdEng r) p).all (fun b => s.slotReady b.src) = true :=
    List.all_eq_true.2 (fun b hb => (hready b hb).1)
  -- `pieceDone` is unfolded as a function: unfolded at its arguments, the kernel would evaluate the entry in memory
  suffices run : ∀ f, f = pieceDone → f r j s = _ from run _ rfl
  intro f hf
  delta pieceDone at hf
  subst hf
  dsimp -zeta only
  extract_lets _ _ ps
  have piece : ps[j]? = some p := hp
  rw [piece]
  dsimp -zeta only
  rw [hrel, hen, hnew, htiers, stand, if_neg (by decide)]
  extract_lets +onlyGivenNames addrs bad t gaveUp _ given formed inDomain
  have noError : bad = false := List.any_eq_false.2 (fun b _ => by simp [State.eccBad_of_clean hecc])
  have sameRead : t = s := foldl_eccSeen_of_clean hecc _
  have sameGiven : given = s := by simp [given, gaveUp, noError, sameRead]
  have exactSums : formed = (sums, false) := by
    simp only [formed, noError]
    exact State.pieceSums_samples (fun b hb => (hready b hb).2)
  have sameDomain : inDomain = s := by simp [inDomain, rodDomErr, exactSums, sameGiven]
  rw [sameDomain, exactSums]
  rfl

theorem collect_none {s : State} {r j : Nat} (h : Tbl.find s.engine.abx.waiting (r * 128 + j) = none) :
    collect r j s = s := by
  simp only [collect, h]

/-- The collector's sums of rod `r` once it has added the partial `xs`. -/
def Abacus.collected (a : Abacus) (r : Nat) (xs : List Int) : List Int :=
  (List.zipWith (· + ·) (Tbl.getD a.sums r (xs.map (fun _ => 0))) xs).map (wrapS 72)

/-- The matrix's record once the collector has added the partial `xs` of piece `j` of rod `r`. -/
def Abacus.partialAdded (a : Abacus) (r j : Nat) (xs : List Int) : Abacus :=
  { a with
    waiting := Tbl.del a.waiting (r * 128 + j), sums := Tbl.put a.sums r (a.collected r xs)
    added := Tbl.put a.added r (Tbl.getD a.added r 0 + 1) }

theorem collect_some {s : State} {r j : Nat} {xs : List Int} (h : Tbl.find s.engine.abx.waiting (r * 128 + j) = some xs) :
    collect r j s =
      let t := s.setAbx (s.engine.abx.partialAdded r j xs)
      if Tbl.getD s.engine.abx.added r 0 + 1 = (rodPieces (s.rod s.engine.abx.amdEng r)).length then
        rodWrite r (s.engine.abx.collected r xs) t
      else t := by
  simp only [collect, h]
  rfl

theorem length_collected_le (a : Abacus) (r : Nat) (xs : List Int) : (a.collected r xs).length ≤ xs.length := by
  rw [Abacus.collected, List.length_map, List.length_zipWith]
  exact Nat.min_le_right ..

/-- The collector adds modulo 2^72; before a rod's first partial its sums are zeros. -/
theorem getD_collected {a : Abacus} {r n : Nat} {xs : List Int} (hn : n < xs.length)
    (hlen : ∀ ys, Tbl.find a.sums r = some ys → ys.length = xs.length) :
    (a.collected r xs).getD n 0 = wrapS 72 ((Tbl.getD a.sums r []).getD n 0 + xs.getD n 0) := by
  unfold Abacus.collected Tbl.getD
  cases h : Tbl.find a.sums r with
  | none => simp [List.getD_eq_getElem?_getD, hn]
  | some ys => simp [List.getD_eq_getElem?_getD, hn, hlen ys h]

/-- Settles O20: a piece's sums are the exact ones, and both writers of a rod narrow by the same rule. -/
theorem rodSums : Obligations.RodSums := by
  unfold Obligations.RodSums
  intro r j s hecc a e given
  refine ⟨?lane, fun h => congrArg Host.Outcome.next (collect_none h), ?collector⟩
  case lane =>
    intro p hp hrel hen hnew htiers hready done
    have run := pieceDone_of_ready hecc rfl hp hrel hen hnew htiers hready
    refine ⟨_, _, congrArg Host.Outcome.next run, length_samples _ _, fun n hn => getD_samples _ hn,
      fun one => ?_, fun more => ?_⟩
    · rw [if_pos one]
      exact rodWrite_rodWritten r _ rfl rfl
    · rw [if_neg more]
      rfl
  case collector =>
    intro xs hxs
    refine ⟨_, _, congrArg Host.Outcome.next (collect_some hxs), length_collected_le a r xs,
      fun n hn hlen => getD_collected hn hlen, fun last => ?_, fun more => if_neg more⟩
    dsimp only
    rw [if_pos last]
    exact rodWrite_rodWritten r _ rfl rfl

end Sys2Proof.Machine
end

section
/-!
PROOFS. The tiers and the collector's release (R101, R103), the check of an image and its end (R105 to R107), and what the
checker finds first (R106). Whether a tier is complete and what the checker finds are said once, as the conditions that they
test; each statement reads its clauses off these.
-/

namespace Sys2Proof.Machine

open Sys2Proof

/-! ## Tiers and release (R101, R103) -/

theorem State.tiersBelow_iff (s : State) (k : Nat) : s.tiersBelow k = true ↔ ∀ r, r ∈ s.enabledRods s.engine.abx.amdEng →
    (s.rod s.engine.abx.amdEng r).tier < k → rodPieces (s.rod s.engine.abx.amdEng r) ≠ [] →
      (s.rod s.engine.abx.amdEng r).tier ∈ s.engine.abx.tiers := by
  simp [State.tiersBelow, Classical.or_iff_not_imp_left]

theorem State.tierDone_iff (s : State) (k : Nat) : s.tierDone k = true ↔ ∀ r, r ∈ s.enabledRods s.engine.abx.amdEng →
    ((s.rod s.engine.abx.amdEng r).tier < k → rodPieces (s.rod s.engine.abx.amdEng r) ≠ [] →
      (s.rod s.engine.abx.amdEng r).tier ∈ s.engine.abx.tiers) ∧
    ((s.rod s.engine.abx.amdEng r).tier = k → s.slotDone (2048 + r) = true) := by
  have standing : (s.enabledRods s.engine.abx.amdEng).all (fun r =>
      decide ((s.rod s.engine.abx.amdEng r).tier ≠ k) || s.slotDone (2048 + r)) = true ↔
      ∀ r, r ∈ s.enabledRods s.engine.abx.amdEng →
        (s.rod s.engine.abx.amdEng r).tier = k → s.slotDone (2048 + r) = true := by
    simp [Classical.or_iff_not_imp_left]
  simp only [State.tierDone, Bool.and_eq_true, State.tiersBelow_iff, standing, forall_and]

theorem State.canRelease_iff (s : State) : s.canRelease = true ↔ s.engine.abx.released = false ∧ s.stripsDone = true ∧
    (∀ c, c < 4 → s.tly.marks.contains c = true) ∧ s.tiersBelow 4 = true := by
  simp only [State.canRelease, Bool.and_eq_true, Bool.not_eq_true', List.all_eq_true, List.mem_range, and_assoc]

/-- Settles O21: both commands act only under their condition, which is the stated one. -/
theorem tiersAndRelease : Obligations.TiersAndRelease := by
  unfold Obligations.TiersAndRelease
  intro s a
  refine ⟨fun tier hrel => ⟨s.tierDone_iff tier, ?complete⟩, ?waits, ?releases⟩
  case complete =>
    calc exec (.tierComplete tier) s
      _ = .next (onlyIf (!a.released && s.tierDone tier) s (s.setAbx { a with tiers := insertNat tier a.tiers })) := rfl
      _ = _ := by rw [hrel, Bool.not_false, Bool.true_and]; rfl
  case waits =>
    intro lacks
    have blocked : ¬ s.canRelease = true := by
      rw [s.canRelease_iff]
      rintro ⟨hrel, hstrips, hmarks, htiers⟩
      rcases lacks with h | h | ⟨c, hc, h⟩ | h
      · exact Bool.false_ne_true (hrel.symm.trans h)
      · exact Bool.false_ne_true (h.symm.trans hstrips)
      · exact Bool.false_ne_true (h.symm.trans (hmarks c hc))
      · exact Bool.false_ne_true (h.symm.trans htiers)
    exact congrArg Host.Outcome.next (if_neg blocked)
  case releases =>
    intro hrel hstrips hmarks htiers free
    exact congrArg Host.Outcome.next (if_pos (s.canRelease_iff.2 ⟨hrel, hstrips, hmarks, htiers⟩))

/-! ## CHECK and ABORT (R105 to R107) -/

/-- A check waits or runs, or a half is FROZEN. -/
def Abacus.Held (a : Abacus) : Prop := a.chkBusy = true ∨ a.mainOther = .frozen ∨ a.amdOther = .frozen

theorem Abacus.held_iff (a : Abacus) : a.Held ↔ (a.chkBusy || a.mainOther == .frozen || a.amdOther == .frozen) = true := by
  simp [Abacus.Held, or_assoc]

theorem Abacus.not_held {a : Abacus} (hbusy : a.chkBusy = false) (hmain : a.mainOther ≠ .frozen) (hamd : a.amdOther ≠ .frozen) :
    ¬ a.Held := by
  simp [Abacus.Held, hbusy, hmain, hamd]

theorem abxCheck_of_held {s : State} (k : Nat) (h : s.engine.abx.Held) :
    abxCheck k s = s.setAbx { s.engine.abx with chkIgn := true } := if_pos ((Abacus.held_iff _).1 h)

theorem abxCheck_of_not_held {s : State} (k : Nat) (h : ¬ s.engine.abx.Held) : abxCheck k s =
    s.setAbx (Abacus.freeze { s.engine.abx with chkBusy := true, chkKind := k, accepted := false, done := false }) :=
  if_neg (mt (Abacus.held_iff _).2 h)

theorem abxAbort_of_held {s : State} (h : s.engine.abx.Held) :
    let back := fun (h : Half) => if h = .frozen then Half.building else h
    abxAbort s = s.setAbx { s.engine.abx with
      chkBusy := false, chkRun := false, accepted := false, done := true, status := 8, reason := 0, rod := 0, index := 0,
      area := 0, mainOther := back s.engine.abx.mainOther, amdOther := back s.engine.abx.amdOther } := by
  have acts : ¬ (!s.engine.abx.chkBusy && s.engine.abx.mainOther != .frozen && s.engine.abx.amdOther != .frozen) = true := by
    rcases h with h | h | h <;> simp [h]
  exact if_neg acts

theorem abxAbort_of_not_held {s : State} (h : ¬ s.engine.abx.Held) : abxAbort s = s := by
  have idle : (!s.engine.abx.chkBusy && s.engine.abx.mainOther != .frozen && s.engine.abx.amdOther != .frozen) = true := by
    simpa [Abacus.Held, and_assoc] using h
  exact if_pos idle

/-- The end of a check, in a memory without ECC errors. -/
theorem checkDone_of_running {s : State} (hbusy : s.engine.abx.chkBusy = true) (hrun : s.engine.abx.chkRun = true)
    (hecc : s.memc.ecc = []) :
    let a := s.engine.abx
    let pg := a.imagePages a.chkKind
    let f := s.checkImage pg.1 pg.2
    let sums := s.imageSums pg.2
    let ok := decide (f.status = 0)
    let back := fun (h : Half) => if h = .frozen then (if ok then Half.frozen else .building) else h
    checkDone s = (s.setAbx { a with
      chkBusy := false, chkRun := false, done := true, accepted := ok, status := f.status, reason := f.reason,
      rod := f.rod, index := f.index, area := f.area, units := min 0xFFFFFF sums.1, cycles := min 0xFFFFFF sums.2.1,
      pieces := sums.2.2.1, mainOther := back a.mainOther, amdOther := back a.amdOther }).raiseIf (!ok) 0x0C10
        (f.status + f.reason * 2 ^ 8 + f.rod * 2 ^ 16) := by
  simp only [checkDone, hbusy, hrun, hecc]
  rfl

/-- A frozen half after a check: an accepted image keeps it. -/
theorem frozen_after_check (ok : Bool) (h : Half) :
    (if h = .frozen then (if ok then Half.frozen else .building) else h) =
      if ok then h else (if h = .frozen then Half.building else h) := by
  cases ok <;> cases h <;> rfl

/-- Settles O22: each command acts on the matrix's record alone, by the halves it names. -/
theorem imageChecks : Obligations.ImageChecks := by
  unfold Obligations.ImageChecks
  intro s a frz back
  refine ⟨?check, ?start, ?done, ?abort, ?idle⟩
  case check =>
    intro kind k m u
    exact ⟨fun held => congrArg Host.Outcome.next (abxCheck_of_held (s := u) k held),
      fun hbusy hmain hamd => congrArg Host.Outcome.next (abxCheck_of_not_held (s := u) k (Abacus.not_held hbusy hmain hamd))⟩
  case start =>
    intro hbusy hwaits m
    have waits : (a.chkBusy && !a.chkRun) = true := by rw [hbusy, hwaits]; rfl
    exact congrArg Host.Outcome.next (if_pos waits)
  case done =>
    intro hbusy hrun hecc pm f sums ok
    have refused : decide (f.status ≠ 0) = !ok := decide_not
    have run := checkDone_of_running hbusy hrun hecc
    simp only [frozen_after_check] at run
    rw [refused]
    exact congrArg Host.Outcome.next run
  case abort => exact fun held => congrArg Host.Outcome.next (abxAbort_of_held held)
  case idle => exact fun hbusy hmain hamd => congrArg Host.Outcome.next (abxAbort_of_not_held (Abacus.not_held hbusy hmain hamd))

/-! ## The checker (R106) -/

/-- A test that refuses, then others: nothing is found exactly when it holds off and the others find nothing. -/
theorem ite_some_eq_none {α : Type} {c : Prop} [Decidable c] {x : α} {y : Option α} :
    (if c then some x else y) = none ↔ ¬ c ∧ y = none := by
  by_cases h : c <;> simp [h]

/-- Every finding of a rod is BAD_PARAM. -/
theorem checkRod_status {s : State} {main amd r : Nat} {rods : List (Nat × RodEntry)} {e : RodEntry} {f : Finding}
    (h : s.checkRod main amd rods r e = some f) : f.status = 3 := by
  unfold State.checkRod at h
  dsimp only at h
  repeat' split at h
  all_goals cases h <;> rfl

/-- The ranges and the fields of an entry in which no BAD_PARAM reason is found. -/
theorem entry_of_checkRod_eq_none {s : State} {main amd r : Nat} {rods : List (Nat × RodEntry)} {e : RodEntry}
    (h : s.checkRod main amd rods r e = none) :
    e.first + e.count ≤ 983040 ∧ e.afirst + e.acount ≤ 65536 ∧ e.count + e.acount ≤ 16384 ∧
      (0 < e.count → e.split + 1 ≤ e.count) ∧ (e.count = 0 → e.split = 0) ∧
      (∀ p, p ∈ rodPieces e → p.2.2 - p.2.1 ≤ 4096) ∧ e.dom ≠ 3 ∧ e.reservedBad = false := by
  simp only [State.checkRod, ite_some_eq_none] at h
  obtain ⟨-, hspans, hbeads, hsplit, hpieces, hdom, hreserved, -⟩ := h
  refine ⟨by omega, by omega, by omega, by omega, by omega, fun p hp => ?_, hdom, Bool.eq_false_iff.2 hreserved⟩
  have := (List.any_eq_false.1 (Bool.eq_false_iff.2 hpieces)) p hp
  simpa using this

/-- The running sum passes the capacity at some rod exactly when the whole sum does. -/
theorem overUnits_eq_none_iff {hr acc : Nat} {rods : List (Nat × RodEntry)} (hacc : acc ≤ 2097152) :
    overUnits hr acc rods = none ↔ acc + (rods.map (fun p => rodUnits hr p.2)).sum ≤ 2097152 := by
  induction rods generalizing acc with
  | nil => simp [overUnits, hacc]
  | cons p rods ih =>
    obtain ⟨r, e⟩ := p
    rw [overUnits, ite_some_eq_none]
    by_cases h : 2097152 < acc + rodUnits hr e
    · simp [h]; omega
    · simp [h, ih (Nat.le_of_not_lt h), Nat.add_assoc]

/-- No BAD_PARAM reason is found in an image. -/
def State.ImageClean (s : State) (main amd : Nat) : Prop :=
  ∀ p, p ∈ s.imageRods amd → s.checkRod main amd (s.imageRods amd) p.1 p.2 = none

theorem checkImage_of_units {s : State} {main amd r : Nat} (h : s.ImageClean main amd)
    (hover : overUnits s.hRatio 0 (s.imageRods amd) = some r) : s.checkImage main amd = ⟨5, 1, r, 0, 0⟩ := by
  have nothing := List.findSome?_eq_none_iff.2 h
  simp only [State.checkImage, nothing, hover]

theorem checkImage_of_fits {s : State} {main amd : Nat} (h : s.ImageClean main amd)
    (hover : overUnits s.hRatio 0 (s.imageRods amd) = none) : s.checkImage main amd =
      if 499500 < (s.imageSums amd).2.1 then ⟨5, 2, (s.imageSums amd).2.2.2.getD 0, 0, 0⟩ else ⟨0, 0, 0, 0, 0⟩ := by
  have nothing := List.findSome?_eq_none_iff.2 h
  simp only [State.checkImage, nothing, hover]

/-- The checker's answer is one of these four, each with the condition under which it is given. -/
theorem checkImage_cases (s : State) (main amd : Nat) :
    let f := s.checkImage main amd
    let units := ((s.imageRods amd).map (fun p => rodUnits s.hRatio p.2)).sum
    (¬ s.ImageClean main amd ∧ f.status = 3) ∨ (s.ImageClean main amd ∧ 2097152 < units ∧ f.status = 5 ∧ f.reason = 1) ∨
      (s.ImageClean main amd ∧ units ≤ 2097152 ∧ f.status = 5 ∧ f.reason = 2) ∨
      (s.ImageClean main amd ∧ units ≤ 2097152 ∧ (s.imageSums amd).2.1 ≤ 499500 ∧ f.status = 0) := by
  intro f units
  cases hfound : (s.imageRods amd).findSome? (fun p => s.checkRod main amd (s.imageRods amd) p.1 p.2) with
  | some g =>
    obtain ⟨p, hp, hg⟩ := List.exists_of_findSome?_eq_some hfound
    have answer : f = g := by simp only [f, State.checkImage, hfound]
    exact .inl ⟨fun hclean => Option.some_ne_none g (hg.symm.trans (hclean p hp)), answer ▸ checkRod_status hg⟩
  | none =>
    have hclean : s.ImageClean main amd := List.findSome?_eq_none_iff.1 hfound
    have capacity := overUnits_eq_none_iff (hr := s.hRatio) (rods := s.imageRods amd) (Nat.zero_le 2097152)
    rw [Nat.zero_add] at capacity
    cases hover : overUnits s.hRatio 0 (s.imageRods amd) with
    | some r =>
      rw [hover] at capacity
      have beyond : 2097152 < units := Nat.lt_of_not_le (fun h => Option.some_ne_none r (capacity.2 h))
      have answer : f = _ := checkImage_of_units hclean hover
      exact .inr (.inl ⟨hclean, beyond, by rw [answer], by rw [answer]⟩)
    | none =>
      have fits : units ≤ 2097152 := capacity.1 hover
      have answer : f = _ := checkImage_of_fits hclean hover
      by_cases late : 499500 < (s.imageSums amd).2.1
      · rw [if_pos late] at answer
        exact .inr (.inr (.inl ⟨hclean, fits, by rw [answer], by rw [answer]⟩))
      · rw [if_neg late] at answer
        exact .inr (.inr (.inr ⟨hclean, fits, Nat.le_of_not_lt late, by rw [answer]⟩))

/-- Settles O23: each of the four answers is told from the others by its status and reason. -/
theorem checkerVerdict : Obligations.CheckerVerdict := by
  unfold Obligations.CheckerVerdict
  intro main amd s rods f
  have refused : (∃ p, p ∈ rods ∧ (s.checkRod main amd rods p.1 p.2).isSome) ↔ ¬ s.ImageClean main amd := by
    simp [State.ImageClean, Option.isSome_iff_ne_none, rods]
  rw [refused]
  change _ ∧ _ ∧ (_ ↔ s.ImageClean main amd ∧ _) ∧ _
  rcases checkImage_cases s main amd with
    ⟨bad, h3⟩ | ⟨clean, beyond, h5, h1⟩ | ⟨clean, fits, h5, h2⟩ | ⟨clean, fits, inTime, h0⟩
  · exact ⟨.inr (.inl h3), by simp [f, h3, bad], by simp [f, h3, bad], by simp [f, h3]⟩
  · exact ⟨.inr (.inr h5), by simp [f, h5, clean], by simp [f, h5, h1, rods, clean, beyond], by simp [f, h5]⟩
  · exact ⟨.inr (.inr h5), by simp [f, h5, clean], by simp [f, h5, h2, rods, fits], by simp [f, h5]⟩
  · refine ⟨.inl h0, by simp [f, h0, clean], by simp [f, h0, rods, fits], fun _ => ⟨fun r e he => ?_, inTime⟩⟩
    exact entry_of_checkRod_eq_none (clean (r, e) he)

end Sys2Proof.Machine
end

section
/-!
PROOFS. Writes of the Abacus pages (R93, R94) and of NEXT parameters (R121, R122). A page write is stored or dropped by one
condition on the address and the halves (`Abacus.PageOpen`); a parameter's address gives its key, and a key that no entry of the
Tally's instances shares, so that the written word is taken as it is.
-/

namespace Sys2Proof.Machine

open Sys2Proof

/-! ## Page writes (R94) -/

/-- The half in which the address lies takes writes: it is not LIVE and is BUILDING. -/
def Abacus.PageOpen (a : Abacus) (x : Nat) : Prop :=
  (x % 0x01100000 < 0x00F00000 ∧ x / 0x01100000 ≠ a.mainLive ∧ a.mainOther = .building) ∨
    (0x00F00000 ≤ x % 0x01100000 ∧ x % 0x01100000 < 0x01010000 ∧ x / 0x01100000 ≠ a.amdLive ∧ a.amdOther = .building)

/-- The areas of a page, and the half that each belongs to. -/
theorem pageArea_cases (x : Nat) :
    (x % 0x01100000 < 0x00F00000 ∧ pageArea x = some false) ∨
      (0x00F00000 ≤ x % 0x01100000 ∧ x % 0x01100000 < 0x01010000 ∧ pageArea x = some true) ∨
      (0x01010000 ≤ x % 0x01100000 ∧ pageArea x = none) := by
  unfold pageArea
  dsimp only
  split
  · next h => exact .inl ⟨h, rfl⟩
  · next h =>
    split
    · next h2 => exact .inr (.inl ⟨Nat.le_of_not_lt h, h2, rfl⟩)
    · next h2 => exact .inr (.inr ⟨Nat.le_of_not_lt h2, rfl⟩)

theorem Abacus.pageOpen_iff (a : Abacus) (x : Nat) :
    a.PageOpen x ↔ ∃ amd, pageArea x = some amd ∧ a.writable (x / 0x01100000) amd = true := by
  unfold Abacus.PageOpen
  rcases pageArea_cases x with ⟨h, area⟩ | ⟨h, h2, area⟩ | ⟨h, area⟩
  · have outside : ¬ 0x00F00000 ≤ x % 0x01100000 := Nat.not_le.2 h
    simp [area, Abacus.writable, h, outside]
  · have outside : ¬ x % 0x01100000 < 0x00F00000 := Nat.not_lt.2 h
    simp [area, Abacus.writable, h, h2, outside]
  · simp [area]; omega

theorem pageWrite_of_open {s : State} {x : Nat} (w : Word) (h : s.engine.abx.PageOpen x) :
    pageWrite x w s = (s.putWord x w, false) := by
  obtain ⟨amd, area, writable⟩ := (Abacus.pageOpen_iff _ x).1 h
  simp only [pageWrite, area, writable, if_true]

theorem pageWrite_of_closed {s : State} {x : Nat} (w : Word) (h : ¬ s.engine.abx.PageOpen x) :
    pageWrite x w s = (pageDrop x s, true) := by
  rw [Abacus.pageOpen_iff] at h
  cases area : pageArea x with
  | none => simp only [pageWrite, area]
  | some amd =>
    have closed : ¬ s.engine.abx.writable (x / 0x01100000) amd = true := fun writable => h ⟨amd, area, writable⟩
    simp only [pageWrite, area, if_neg closed]

theorem exec_pageWrite (i : Init) (addr val : Word) (s : State) (h : addr.toNat / 4 * 4 < 0x02200000) :
    exec (.pageWrite i addr val) s = .next (pageWrite (addr.toNat / 4 * 4) (s.lanes i addr.toNat val) s).1 :=
  congrArg Host.Outcome.next (if_pos (decide_eq_true h))

/-! ## Parameters (R85, R121, R153) -/

theorem mem_insertNat (k j : Nat) (js : List Nat) : j ∈ insertNat k js ↔ j = k ∨ j ∈ js := by
  induction js with
  | nil => simp [insertNat]
  | cons m js ih =>
    unfold insertNat
    split
    · simp
    · split
      · next h => simp [h]
      · simp [ih, or_left_comm]

theorem Word.fld_lt (w : Word) (lo len : Nat) : Word.fld w lo len < 2 ^ len := Nat.mod_lt _ (Nat.two_pow_pos len)

section
variable {s : State} {i : Init} {a key : Nat} (h : ParamAt s i a key)

include h

/-- A parameter's address is a word address in the blocks SYS to SEC. -/
theorem ParamAt.address : a / 4 * 4 = a ∧ 0x10001000 ≤ a ∧ a < 0x10040000 := by
  rcases h with ⟨n, hn, ha, -⟩ | ⟨n, hn, ha, -⟩ | ⟨n, h1, hn, ha, -⟩ | ⟨n, -, place⟩
  · omega
  · omega
  · omega
  · omega

/-- No parameter here is a word of the Tally's instances. -/
theorem ParamAt.key_lt : key < 0x400000000 := by
  have input := Word.fld_lt (s.iniReg 0x10038000 i) 0 11
  have output := Word.fld_lt (s.iniReg 0x10038000 i) 16 10
  have sec := Word.fld_lt (s.iniReg 0x10030000 i) 0 16
  have address := h.address
  rcases h with ⟨n, hn, ha, hk⟩ | ⟨n, hn, ha, hk⟩ | ⟨n, h1, hn, ha, hk⟩ | ⟨n, hk, -⟩
  · simp only [keyIS] at hk; omega
  · simp only [keyOS] at hk; omega
  · simp only [keySec] at hk; omega
  · omega

theorem ParamAt.paramKey_eq : s.paramKey i a = some (key, regMask a) := by
  unfold State.paramKey
  dsimp only
  rcases h with ⟨n, hn, ha, hk⟩ | ⟨n, hn, ha, hk⟩ | ⟨n, h1, hn, ha, hk⟩ | ⟨n, hk, place⟩
  · have off : a % 0x40 = 4 * n := by omega
    rw [if_pos (by omega), off, hk]
  · have off : a % 0x40 = 4 * n := by omega
    rw [if_neg (by omega), if_pos (by omega), off, hk]
  · have off : a % 0x20 = 4 * n := by omega
    rw [if_neg (by omega), if_neg (by omega), if_pos (by omega), off, hk]
  · rw [if_neg (by omega), if_neg (by omega), if_neg (by omega), if_pos (by omega), hk]

/-- Outside the banked memories no access is rotated (R518). -/
theorem ParamAt.lanes_eq (v : Word) : s.lanes i a v = v := by
  have address := h.address
  have outside : inBanks a = false := decide_eq_false (by omega)
  simp [State.lanes, State.rotOf, outside, rotl8, BitVec.rotateLeft_def, BitVec.ushiftRight_eq_zero]

theorem ParamAt.nextWrite_eq (v : Word) : nextWrite i a v s =
    (s.setNxt key (mergeMask (s.nxt key) v (Word.ofNat (regMask a)))).setIniReg keyWepoch i (Word.ofNat s.engine.cmt.epoch) := by
  have noInstance : ¬ (key = keyTly a ∧ (a - 0x02400000) % 0x20000 < 0x1C400 ∧ a % 8 = 0) := by
    have := h.key_lt
    simp only [keyTly]
    omega
  simp only [nextWrite, h.paramKey_eq, if_neg noInstance]

end

/-- A register kept per initiator, after a write of one initiator's. -/
theorem State.iniReg_setIniReg_ne (s : State) {k j : Nat} {i m : Init} (v : Word) (h : j ≠ k ∨ m ≠ i) :
    (s.setIniReg k i v).iniReg j m = s.iniReg j m := by
  have apart : k * 16 + i.val ≠ j * 16 + m.val := by
    rcases h with h | h
    · omega
    · have := Fin.val_ne_of_ne h
      omega
  exact Tbl.getD_set_ne _ _ _ _ _ _ apart

/-- Settles O25: a page write is stored or dropped by its half, and a parameter's address gives the one key that is written. -/
theorem pageAndNextWrites : Obligations.PageAndNextWrites := by
  unfold Obligations.PageAndNextWrites
  refine ⟨?pages, ?next⟩
  case pages =>
    intro s a
    refine ⟨?_, rfl⟩
    intro i addr val x page off hx open_
    have write := exec_pageWrite i addr val s hx
    refine ⟨fun h => ?_, fun h => ?_⟩
    · rw [pageWrite_of_open _ h] at write
      have stored := State.putAll_stored s [(x, s.lanes i addr.toNat val)] (List.pairwise_singleton ..)
      exact ⟨_, write, stored, State.putAll_onlyEccEnded s [(x, s.lanes i addr.toNat val)], rfl⟩
    · rw [pageWrite_of_closed _ h] at write
      exact write
  case next =>
    intro i addr val key s h
    have run : exec (.nextWrite i addr val) s = .next (nextWrite i addr.toNat val s) := by
      calc exec (.nextWrite i addr val) s
        _ = .next (nextWrite i (addr.toNat / 4 * 4) (s.lanes i addr.toNat val) s) := rfl
        _ = _ := by rw [h.address.1, h.lanes_eq]
    refine ⟨_, run.trans (congrArg _ (h.nextWrite_eq val)), rfl, fun k => ?_, fun k => mem_insertNat key k s.marks, ?_,
      fun k j hkj => State.iniReg_setIniReg_ne _ _ hkj⟩
    · refine (State.nxt_setNxt s key k _).trans ?_
      by_cases hk : k = key
      · subst hk; simp [rwTakes, mergeMask]
      · simp [hk, Ne.symm hk]
    · exact (State.iniReg_setIniReg _ _ _ _ _).trans (if_pos rfl)

end Sys2Proof.Machine
end

section
/-!
PROOFS. A section as the chain of an output strip (R137 to R140, R148). One sample through a section is the statements'
`SectionStep`, and a block is its samples one after the other. What the strip leaves is one state (`State.sectionAnswer`), of
which each clause is read off.

R149 keeps a crossfade's partner apart from its section, and then every clause of O19 holds
(`sectionResults_of_partner_ne`). The statement asks this of a state only after it has spoken of the section's own histories: a
state whose crossfade names the section itself as partner refutes it, since the old coefficients write those histories last.
-/

namespace Sys2Proof.Machine

open Sys2Proof

/-! ## Rounding (R35) -/

/-- A quotient rounded half to even lies within half of the divisor, and is even where it lies at the half. -/
theorem roundDiv_nearest (x : Int) {d : Nat} (hd : 0 < d) :
    2 * (roundDiv x d * d - x).natAbs < d ∨ (2 * (roundDiv x d * d - x).natAbs = d ∧ roundDiv x d % 2 = 0) := by
  have hpos : (0 : Int) < d := Int.natCast_pos.2 hd
  have hdiv : x / d * d + x % d = x := Int.mul_comm d _ ▸ Int.mul_ediv_add_emod x d
  have hlo := Int.emod_nonneg x (Int.ne_of_gt hpos)
  have hhi := Int.emod_lt_of_pos x hpos
  have hnext : (x / d + 1) * d = x / d * d + d := by rw [Int.add_mul, Int.one_mul]
  unfold roundDiv
  by_cases above : 2 * (x % d) > d
  · rw [if_pos above]
    exact .inl (by omega)
  · rw [if_neg above]
    by_cases below : 2 * (x % d) < d
    · rw [if_pos below]
      exact .inl (by omega)
    · rw [if_neg below]
      by_cases even : x / d % 2 = 0
      · rw [if_pos even]
        exact .inr (by omega)
      · rw [if_neg even]
        exact .inr (by omega)

theorem nearest_narrowRound (x : Int) (k : Nat) : nearest x k (narrowRound x k) := by
  unfold nearest narrowRound
  by_cases hk : k = 0
  · subst hk
    omega
  · rw [if_neg hk]
    simpa only [Int.natCast_pow, Int.cast_ofNat_Int] using roundDiv_nearest x (Nat.two_pow_pos k)

/-! ## A sample and a block through a section (R137 to R140) -/

theorem sectionStep_biquad (c : Coefs) (h : SecHist) (x : Int) :
    SectionStep c h (biquad c h x).2.1 x (biquad c h x).1 ((biquad c h x).2.2 = true) := by
  refine ⟨_, _, _, nearest_narrowRound _ 29, nearest_narrowRound _ 29, rfl, rfl, rfl, rfl, nearest_narrowRound _ 29, rfl, ?_⟩
  simp only [biquad, narrow, narrowSats, sats32, Bool.or_eq_true, decide_eq_true_eq]
  rfl

theorem SectionBlock.nil (c : Coefs) (h : SecHist) : SectionBlock c h h [] [] False :=
  ⟨fun _ => h, fun _ => False, rfl, rfl, rfl, fun _ hj => absurd hj (Nat.not_lt_zero _), by simp⟩

theorem SectionBlock.cons {c : Coefs} {h h1 h2 : SecHist} {x y : Int} {xs ys : List Int} {first rest : Prop}
    (step : SectionStep c h h1 x y first) (block : SectionBlock c h1 h2 xs ys rest) :
    SectionBlock c h h2 (x :: xs) (y :: ys) (first ∨ rest) := by
  obtain ⟨hs, beyond, start, stop, len, steps, sat⟩ := block
  refine ⟨fun j => j.casesOn h hs, fun j => j.casesOn first beyond, rfl, stop, congrArg (· + 1) len, ?_, ?_⟩
  · rintro (_ | j) hj
    · subst start
      exact step
    · exact steps j (Nat.lt_of_succ_lt_succ hj)
  · rw [sat]
    constructor
    · rintro (now | ⟨j, hj, later⟩)
      · exact ⟨0, Nat.succ_pos _, now⟩
      · exact ⟨j + 1, Nat.succ_lt_succ hj, later⟩
    · rintro ⟨_ | j, hj, at'⟩
      · exact .inl at'
      · exact .inr ⟨j, Nat.lt_of_succ_lt_succ hj, at'⟩

theorem SectionBlock.length {c : Coefs} {h h2 : SecHist} {xs ys : List Int} {sat : Prop} (block : SectionBlock c h h2 xs ys sat) :
    ys.length = xs.length := by
  obtain ⟨_, _, _, _, len, _, _⟩ := block
  exact len

theorem sectionBlock_biquadBlock (c : Coefs) (h : SecHist) (xs : List Int) :
    SectionBlock c h (biquadBlock c h xs).2.1 xs (biquadBlock c h xs).1 ((biquadBlock c h xs).2.2.isSome = true) := by
  induction xs generalizing h with
  | nil => simpa [biquadBlock] using SectionBlock.nil c h
  | cons x xs ih =>
    have block := SectionBlock.cons (sectionStep_biquad c h x) (ih (biquad c h x).2.1)
    have sat : (biquadBlock c h (x :: xs)).2.2.isSome = true ↔
        (biquad c h x).2.2 = true ∨ (biquadBlock c (biquad c h x).2.1 xs).2.2.isSome = true := by
      by_cases now : (biquad c h x).2.2 = true
      · simp [biquadBlock, now]
      · simp [biquadBlock, now]
    rwa [sat]

/-! ## The saturations of a chain (R139) -/

/-- The pool's record once a chain with these saturations has run. -/
def Sections.saturated (q : Sections) (es : List (Nat × Nat)) : Sections :=
  if es.isEmpty then q else { q with satmap := es.foldl (fun m x => satMark m x.2) q.satmap, satArmed := false }

@[simp] theorem Sections.saturated_hist (q : Sections) (es : List (Nat × Nat)) : (q.saturated es).hist = q.hist := by
  unfold Sections.saturated
  split <;> rfl

@[simp] theorem Sections.saturated_fades (q : Sections) (es : List (Nat × Nat)) : (q.saturated es).fades = q.fades := by
  unfold Sections.saturated
  split <;> rfl

/-- The section that event 0x0C30 names. -/
def firstSatSection (es : List (Nat × Nat)) : Nat := ((firstSat es).map Prod.snd).getD 0

theorem firstSat_cons (e : Nat × Nat) (es : List (Nat × Nat)) : ∃ f, firstSat (e :: es) = some f := by
  unfold firstSat
  split <;> exact ⟨_, rfl⟩

/-- SYS_SAT_FLAGS once a chain with these saturations has run. -/
def State.chainSat (s : State) (es : List (Nat × Nat)) : Word := if es.isEmpty then s.sat else s.sat ||| 2

theorem State.chainSat_flag (s : State) (es : List (Nat × Nat)) : s.chainSat es = s.sat ∨ s.chainSat es = s.sat ||| 2 := by
  unfold State.chainSat
  split
  · exact .inl rfl
  · exact .inr rfl

theorem State.setSat_one_withEngineSat (s : State) (e : Engine) (w : Word) :
    (s.withEngineSat e w).setSat true 1 = s.withEngineSat e (w ||| 2) := rfl

/-- The state with another record of the pool, other output strips and another SYS_SAT_FLAGS. -/
def State.withPool (s : State) (o : Tbl OutStrip) (q : Sections) (w : Word) : State :=
  s.withEngineSat { s.engine with ous := o, secs := q } w

/-- `secSats` in one state: the flags, the pool's record and the event. -/
theorem secSats_setSecs (es : List (Nat × Nat)) (q : Sections) (s : State) : secSats es (s.setSecs q) =
    (s.raiseIf (!es.isEmpty && q.satArmed) 0x0C30 (firstSatSection es)).withEngineSat
      { s.engine with secs := q.saturated es } (s.chainSat es) := by
  cases es with
  | nil => rfl
  | cons e es =>
    obtain ⟨f, hf⟩ := firstSat_cons e es
    unfold secSats firstSatSection
    rw [hf]
    exact State.raiseIf_withEngineSat s { s.engine with secs := q.saturated (e :: es) } (s.sat ||| 2) 0x0C30 f.2 q.satArmed

/-! ## What a section's block leaves in the pool (R137, R148) -/

/-- The histories of the pool after a block through section `n`. -/
def State.histsAfter (s : State) (n : Nat) (xs : List Int) : Tbl SecHist :=
  let own := Tbl.set s.engine.secs.hist n (biquadBlock (coefsOf s.eng n) (s.hist n) xs).2.1 {}
  match Tbl.find s.engine.secs.fades n with
  | none => own
  | some f => Tbl.set own f.partner (biquadBlock f.coefs (s.hist f.partner) xs).2.1 {}

theorem secRun_state (n : Nat) (ts xs : List Int) (s : State) :
    (secRun n ts xs s).2.2 = s.setSecs { s.engine.secs with hist := s.histsAfter n xs } := by
  cases h : Tbl.find s.engine.secs.fades n <;> simp only [secRun, State.histsAfter, h]

section
variable {s : State} {n : Nat} (xs : List Int)

theorem histsAfter_own (apart : ∀ f, Tbl.find s.engine.secs.fades n = some f → f.partner ≠ n) :
    Tbl.getD (s.histsAfter n xs) n {} = (biquadBlock (coefsOf s.eng n) (s.hist n) xs).2.1 := by
  unfold State.histsAfter
  cases h : Tbl.find s.engine.secs.fades n with
  | none => exact Tbl.getD_set_same ..
  | some f => exact (Tbl.getD_set_ne _ _ _ _ _ _ (apart f h)).trans (Tbl.getD_set_same ..)

theorem histsAfter_other {m : Nat} (own : m ≠ n) (old : ∀ f, Tbl.find s.engine.secs.fades n = some f → m ≠ f.partner) :
    Tbl.getD (s.histsAfter n xs) m {} = s.hist m := by
  unfold State.histsAfter
  cases h : Tbl.find s.engine.secs.fades n with
  | none => exact Tbl.getD_set_ne _ _ _ _ _ _ own.symm
  | some f => exact (Tbl.getD_set_ne _ _ _ _ _ _ (old f h).symm).trans (Tbl.getD_set_ne _ _ _ _ _ _ own.symm)

theorem histsAfter_partner {f : Fade} (h : Tbl.find s.engine.secs.fades n = some f) :
    Tbl.getD (s.histsAfter n xs) f.partner {} = (biquadBlock f.coefs (s.hist f.partner) xs).2.1 := by
  simp [State.histsAfter, h]

end

/-- A block of the mix with the crossfade's partner (R148). -/
theorem getD_fadeMix {ts old new : List Int} (g : Int → Int) {j : Nat} (ht : j < ts.length) (ho : j < old.length)
    (hn : j < new.length) : (List.zipWith (fun t p => fadeMix p.1 p.2 (g t)) ts (old.zip new)).getD j 0 =
      fadeMix (old.getD j 0) (new.getD j 0) (g (ts.getD j 0)) := by
  have paired : j < (old.zip new).length := by rw [List.length_zip]; omega
  have mixed : j < (List.zipWith (fun t p => fadeMix p.1 p.2 (g t)) ts (old.zip new)).length := by
    rw [List.length_zipWith]; omega
  rw [← List.getElem_eq_getD (h := mixed) 0, ← List.getElem_eq_getD (h := ht) 0, ← List.getElem_eq_getD (h := ho) 0,
    ← List.getElem_eq_getD (h := hn) 0, List.getElem_zipWith, List.getElem_zip]

/-! ## The strip -/

/-- Output strip `k` waits and its source, of its own domain, stands; its chain is section `n` alone; it has no task, no
destination and no delay. -/
structure LoneSection (k n : Nat) (s : State) : Prop where
  enabled : (s.enp (keyOS k 0)).bit 0 = true
  waiting : (s.ouS k).phase = .waiting
  first : (s.enp (keyOS k 4)).fld 0 16 = n
  count : (s.enp (keyOS k 4)).fld 16 5 = 1
  noTask : s.enB (keyOS k 8) 0 = false
  ready : (s.osSource k).1 = true
  domain : (s.osSource k).2.2 = s.outDom k
  length : (s.osSource k).2.1.length = s.blockLen (s.outDom k)
  noDest : destOf s.eng k = none
  matched : s.osDomErr s.eng s.engine.abx.amdEng k = false
  noDelay : s.odlyOn = false

/-- The section's run in strip `k`: outputs and saturations. -/
def State.loneRun (s : State) (k n : Nat) : List Int × List (Nat × Nat) × State :=
  secRun n (s.rampTimes (s.outDom k)) (s.osSource k).2.1 s

/-- The pool's record after it. -/
def State.loneSecs (s : State) (k n : Nat) : Sections :=
  Sections.saturated { s.engine.secs with hist := s.histsAfter n (s.osSource k).2.1 } (s.loneRun k n).2.1

/-- The state after the section's event. -/
def State.loneRaised (s : State) (k n : Nat) : State :=
  s.raiseIf (!(s.loneRun k n).2.1.isEmpty && s.engine.secs.satArmed) 0x0C30 (firstSatSection (s.loneRun k n).2.1)

/-- What the strip leaves: the pool's record, its own state in two steps, flags and the event. -/
def State.sectionAnswer (s : State) (k n : Nat) (a b : OutStrip) (w : Word) : State :=
  (s.loneRaised k n).withEngineSat
    { s.engine with ous := Tbl.set (Tbl.set s.engine.ous k a {}) k b {}, secs := s.loneSecs k n } w

theorem State.withEngineSat_eventsOf_loneRaised (s : State) (k n : Nat) (e : Engine) (w : Word) :
    ((s.loneRaised k n).withEngineSat e w).eventsOf s = s.withEngineSat e w :=
  congrArg (fun u : State => u.withEngineSat e w) (s.raiseIf_eventsOf ..)

theorem secSats_loneRun (k n : Nat) (s : State) : secSats (s.loneRun k n).2.1 (s.loneRun k n).2.2 =
    (s.loneRaised k n).withEngineSat { s.engine with secs := s.loneSecs k n } (s.chainSat (s.loneRun k n).2.1) := by
  rw [State.loneRun, secRun_state]
  exact secSats_setSecs ..

/-- Stages 4 to 7 without delay and destination. -/
theorem outBack_plain {k : Nat} {s : State} (x : List Int) (hdst : destOf s.eng k = none) (hoff : s.odlyOn = false) :
    ∃ st b, outBack k x s = (s.setOuS k st).setSat b 1 ∧ st.phase = .done ∧ st.given = (s.ouS k).given := by
  unfold outBack
  simp only [hoff]
  split
  · exact ⟨_, _, rfl, rfl, rfl⟩
  · next dst driven =>
    have noDest : destOf s.eng k = some dst := by simpa using driven
    exact absurd (hdst.symm.trans noDest) nofun

section
variable {k n : Nat} {s u : State} {o : Tbl OutStrip} {q : Sections} {w : Word} (l : LoneSection k n s)

include l

/-- Sections and events bring no mismatch of domains. -/
theorem LoneSection.showDomErrOut_eq (hu : u.eventsOf s = s.withPool o q w) : showDomErrOut k u = u := by
  have calm : (u.eventsOf s).osDomErr (u.eventsOf s).eng (u.eventsOf s).engine.abx.amdEng k = false := by
    rw [hu]
    exact l.matched
  exact showDomErrOut_of_match calm

/-- Sections and events bring neither a destination nor a delay. -/
theorem LoneSection.outBack_eq (x : List Int) (hu : u.eventsOf s = s.withPool o q w) :
    ∃ st b, outBack k x u = (u.setOuS k st).setSat b 1 ∧ st.phase = .done ∧ st.given = (u.ouS k).given := by
  have noDest : destOf (u.eventsOf s).eng k = none := by
    rw [hu]
    exact l.noDest
  have noDelay : (u.eventsOf s).odlyOn = false := by
    rw [hu]
    exact l.noDelay
  exact outBack_plain x noDest noDelay

theorem LoneSection.outFront_eq : ∃ a b w, outFront k s = s.sectionAnswer k n a b w ∧
    b.phase = .done ∧ b.given = (s.loneRun k n).1 ∧
      (w = s.chainSat (s.loneRun k n).2.1 ∨ w = s.chainSat (s.loneRun k n).2.1 ||| 2) := by
  have noTask : (s.enp (keyOS k 8)).bit 0 = false := l.noTask
  have inDomain : decide ((s.osSource k).2.2 ≠ (s.enp (keyOS k 0)).fld 1 2) = false := decide_eq_false (fun h => h l.domain)
  have chain : chainRun (s.rampTimes (s.outDom k)) n 1 (s.osSource k).2.1 s = s.loneRun k n := by
    simp [chainRun, State.loneRun]
  have front : ∃ a, outFront k s =
      outBack k (s.loneRun k n).1 (showDomErrOut k ((secSats (s.loneRun k n).2.1 (s.loneRun k n).2.2).setOuS k a)) ∧
      a.given = (s.loneRun k n).1 := by
    rw [← chain]
    unfold outFront
    simp only [inDomain, l.first, l.count, noTask]
    exact ⟨_, rfl, rfl⟩
  obtain ⟨a, front, given⟩ := front
  have events : ((secSats (s.loneRun k n).2.1 (s.loneRun k n).2.2).setOuS k a).eventsOf s =
      s.withPool (Tbl.set s.engine.ous k a {}) (s.loneSecs k n) (s.chainSat (s.loneRun k n).2.1) := by
    rw [secSats_loneRun]
    exact State.withEngineSat_eventsOf_loneRaised ..
  rw [l.showDomErrOut_eq events] at front
  obtain ⟨b, sats, back, done, kept⟩ := l.outBack_eq (s.loneRun k n).1 events
  obtain ⟨w, flags, hw⟩ := State.setSat_eq (((secSats (s.loneRun k n).2.1 (s.loneRun k n).2.2).setOuS k a).setOuS k b) sats 1
  rw [secSats_loneRun] at *
  refine ⟨a, b, w, (front.trans back).trans flags, done, ?_, hw⟩
  rw [kept, State.ouS_setOuS_same, given]

end

/-! ## The clauses of the statement -/

section
variable (s : State) (k n : Nat) (a b : OutStrip) (w : Word)

theorem sectionAnswer_hist (m : Nat) :
    (s.sectionAnswer k n a b w).hist m = Tbl.getD (s.histsAfter n (s.osSource k).2.1) m {} :=
  congrArg (fun h : Tbl SecHist => Tbl.getD h m {}) (Sections.saturated_hist ..)

theorem sectionAnswer_ouS_same : (s.sectionAnswer k n a b w).ouS k = b := Tbl.getD_set_same ..

theorem sectionAnswer_ouS_ne {m : Nat} (hm : m ≠ k) : (s.sectionAnswer k n a b w).ouS m = s.ouS m :=
  (Tbl.getD_set_ne _ _ _ _ _ _ hm.symm).trans (Tbl.getD_set_ne _ _ _ _ _ _ hm.symm)

theorem sectionAnswer_frame :
    let t := s.sectionAnswer k n a b w
    { t.eventsOf s with engine := { t.engine with ous := s.engine.ous, secs := s.engine.secs }, sat := s.sat } = s :=
  congrArg (fun u : State => { u with engine := s.engine, sat := s.sat })
    (State.withEngineSat_eventsOf_loneRaised s k n s.engine s.sat)

theorem sectionAnswer_sameEvents : SameEvents (s.loneRaised k n) (s.sectionAnswer k n a b w) := ⟨rfl, rfl, rfl, rfl⟩

end

/-- The block through section `n` alone, with its own coefficients. -/
def State.ownBlock (s : State) (k n : Nat) : List Int × SecHist × Option Nat :=
  biquadBlock (coefsOf s.eng n) (s.hist n) (s.osSource k).2.1

/-- The block through the partner of a crossfade, with the old coefficients. -/
def State.oldBlock (s : State) (k : Nat) (f : Fade) : List Int × SecHist × Option Nat :=
  biquadBlock f.coefs (s.hist f.partner) (s.osSource k).2.1

section
variable {s : State} {k n : Nat}

theorem loneRun_unfaded (h : Tbl.find s.engine.secs.fades n = none) :
    (s.loneRun k n).1 = (s.ownBlock k n).1 ∧ (s.loneRun k n).2.1 = satEntry n (s.ownBlock k n).2.2 := by
  simp only [State.loneRun, secRun, h]
  exact ⟨rfl, rfl⟩

theorem loneRun_faded {f : Fade} (h : Tbl.find s.engine.secs.fades n = some f) : (s.loneRun k n).1 =
    List.zipWith (fun t p => fadeMix p.1 p.2 (rampVal s.engine.rampsEng f.ramp t)) (s.rampTimes (s.outDom k))
      ((s.oldBlock k f).1.zip (s.ownBlock k n).1) := by
  simp only [State.loneRun, secRun, h]
  rfl

/-- Without a crossfade, a block that saturates sets the section's bit and ends the arming, with its event (R139). -/
theorem loneSecs_of_sat (h : Tbl.find s.engine.secs.fades n = none) (sat : (s.ownBlock k n).2.2.isSome = true) :
    (s.loneSecs k n).satmap = satMark s.engine.secs.satmap n ∧ (s.loneSecs k n).satArmed = false ∧
      s.chainSat (s.loneRun k n).2.1 = s.sat ||| 2 ∧ s.loneRaised k n = s.raiseIf s.engine.secs.satArmed 0x0C30 n := by
  obtain ⟨j, hj⟩ := Option.isSome_iff_exists.1 sat
  unfold State.loneSecs State.loneRaised
  rw [(loneRun_unfaded h).2, hj]
  exact ⟨rfl, rfl, rfl, rfl⟩

theorem loneSecs_of_not_sat (h : Tbl.find s.engine.secs.fades n = none) (sat : ¬ (s.ownBlock k n).2.2.isSome = true) :
    (s.loneSecs k n).satmap = s.engine.secs.satmap ∧ (s.loneSecs k n).satArmed = s.engine.secs.satArmed ∧
      s.loneRaised k n = s := by
  unfold State.loneSecs State.loneRaised
  rw [(loneRun_unfaded h).2, Option.not_isSome_iff_eq_none.1 sat]
  exact ⟨rfl, rfl, rfl⟩

end

/-- O19 with R149's partner: wherever a crossfade of the section has another section as partner, or none runs, the block
leaves what the statement says. -/
theorem sectionResults_of_partner_ne (k : Fin 1024) (n : Nat) (s : State) (hrel : s.engine.abx.released = false)
    (l : LoneSection k n s) (apart : ∀ f, Tbl.find s.engine.secs.fades n = some f → f.partner ≠ n) :
    let src := (s.osSource k).2.1
    let q := s.engine.secs
    ∃ t ys sat, exec (.stripProcess (.outStrip k)) s = .next t ∧ SectionBlock (coefsOf s.eng n) (s.hist n) (t.hist n) src ys sat ∧
      (t.sat = s.sat ∨ t.sat = s.sat ||| 2) ∧ (t.ouS k).phase = .done ∧ (∀ m, m ≠ k.val → t.ouS m = s.ouS m) ∧
      { t.eventsOf s with engine := { t.engine with ous := s.engine.ous, secs := q }, sat := s.sat } = s ∧
      t.engine.secs.fades = q.fades ∧
      (Tbl.find q.fades n = none → (t.ouS k).given = ys ∧ (∀ m, m ≠ n → t.hist m = s.hist m) ∧
        (sat → t.sat = s.sat ||| 2 ∧ t.engine.secs.satArmed = false ∧
          Tbl.getD t.engine.secs.satmap (n / 32) 0 = Tbl.getD q.satmap (n / 32) 0 ||| Word.ofNat (2 ^ (n % 32)) ∧
          SameEvents (s.raiseIf q.satArmed 0x0C30 n) t) ∧
        (¬sat → t.engine.secs.satmap = q.satmap ∧ t.engine.secs.satArmed = q.satArmed ∧ SameEvents s t)) ∧
      (∀ f, Tbl.find q.fades n = some f → (∀ m, m ≠ n → m ≠ f.partner → t.hist m = s.hist m) ∧
        ∃ old sat2, SectionBlock f.coefs (s.hist f.partner) (t.hist f.partner) src old sat2 ∧
          (t.ouS k).given.length = src.length ∧ ∀ j, j < src.length →
            let r := rampVal s.engine.rampsEng f.ramp ((s.rampTimes (s.outDom k)).getD j 0)
            nearest (old.getD j 0 * (2 ^ 30 - r) + ys.getD j 0 * r) 30 ((t.ouS k).given.getD j 0)) := by
  intro src q
  obtain ⟨a, b, w, front, done, given, flags⟩ := l.outFront_eq
  have hist := sectionAnswer_hist s k n a b w
  have own := sectionAnswer_ouS_same s k n a b w
  have run := (exec_outStrip hrel l.enabled l.waiting l.ready).trans (congrArg Host.Outcome.next front)
  have block : SectionBlock (coefsOf s.eng n) (s.hist n) ((s.sectionAnswer k n a b w).hist n) src (s.ownBlock k n).1
      ((s.ownBlock k n).2.2.isSome = true) := by
    rw [hist, histsAfter_own _ apart]
    exact sectionBlock_biquadBlock ..
  have length : ∀ c h, (biquadBlock c h src).1.length = src.length := fun c h => (sectionBlock_biquadBlock c h src).length
  refine ⟨_, _, _, run, block, flag_trans (s.chainSat_flag _) flags, (congrArg OutStrip.phase own).trans done,
    fun m hm => sectionAnswer_ouS_ne _ _ _ _ _ _ hm, sectionAnswer_frame .., Sections.saturated_fades .., ?unfaded, ?faded⟩
  case unfaded =>
    intro none
    have others : ∀ m, m ≠ n → (s.sectionAnswer k n a b w).hist m = s.hist m := fun m hm =>
      (hist m).trans (histsAfter_other _ hm (fun f hf => by simp [q, hf] at none))
    refine ⟨?_, others, fun sat => ?_, fun sat => ?_⟩
    · rw [own, given, (loneRun_unfaded none).1]
    · obtain ⟨satmap, armed, flag, raised⟩ := loneSecs_of_sat none sat
      refine ⟨?_, armed, ?_, raised ▸ sectionAnswer_sameEvents ..⟩
      · rw [flag, BitVec.or_assoc, BitVec.or_self, or_self] at flags
        exact flags
      · exact (congrArg (Tbl.getD · (n / 32) 0) satmap).trans (Tbl.getD_set_same ..)
    · obtain ⟨satmap, armed, raised⟩ := loneSecs_of_not_sat none sat
      have events := sectionAnswer_sameEvents s k n a b w
      rw [raised] at events
      exact ⟨satmap, armed, events⟩
  case faded =>
    intro f hf
    have others : ∀ m, m ≠ n → m ≠ f.partner → (s.sectionAnswer k n a b w).hist m = s.hist m := fun m hm hp =>
      (hist m).trans (histsAfter_other _ hm (fun g hg => by rwa [← Option.some.inj (hf.symm.trans hg)]))
    have old : SectionBlock f.coefs (s.hist f.partner) ((s.sectionAnswer k n a b w).hist f.partner) src (s.oldBlock k f).1
        ((s.oldBlock k f).2.2.isSome = true) := by
      rw [hist, histsAfter_partner _ hf]
      exact sectionBlock_biquadBlock ..
    have times : (s.rampTimes (s.outDom k)).length = src.length := (s.length_rampTimes _).trans l.length.symm
    have mixed := given.trans (loneRun_faded hf)
    refine ⟨others, _, _, old, ?_, fun j hj => ?_⟩
    · rw [own, mixed]
      simp [times, State.oldBlock, State.ownBlock, length, src]
    · rw [own, mixed, getD_fadeMix _ (times ▸ hj) ((length _ _).symm ▸ hj) ((length _ _).symm ▸ hj)]
      exact nearest_narrowRound _ 30

/-! ## A crossfade whose partner is the section itself -/

theorem eq_zero_of_nearest_zero {p : Int} (h : nearest 0 29 p) : p = 0 := by
  unfold nearest at h
  omega

/-- Output strip 1 on rod 0's slot with section 9 as its chain, whose b0 is 0.5; the section's crossfade runs with the section
itself as partner and with old coefficients of b0 = 1. -/
def selfPartnered : State :=
  let s := State.running 480 [] [] false
  { s with
    eng := [(keyOS 1 0, 1), (keyOS 1 4, 0x00010009), (keySec 9 4, 0x10000000)]
    engine := { s.engine with slots := [(2048, List.replicate 24 8)], secs := { fades := [(9, ⟨9, {}, 0⟩)] } } }

theorem selfPartnered_lone : LoneSection 1 9 selfPartnered :=
  ⟨rfl, rfl, rfl, rfl, rfl, rfl, rfl, rfl, rfl, by decide, rfl⟩

theorem selfPartnered_coefs : coefsOf selfPartnered.eng 9 = { b0 := 2 ^ 28 } := by decide

/-- The old coefficients write the histories: y1 is 8 · 2^29. -/
theorem selfPartnered_runs : ∃ t, exec (.stripProcess (.outStrip 1)) selfPartnered = .next t ∧ (t.hist 9).y1 = 2 ^ 32 :=
  ⟨_, rfl, rfl⟩

/-- Refutes O19: its statement takes the section's histories from its own coefficients before it asks that the crossfade's
partner be another section. Where the partner is the section itself, the old coefficients write them last. -/
theorem not_sectionResults : ¬ Obligations.SectionResults := by
  unfold Obligations.SectionResults
  intro h
  have l := selfPartnered_lone
  obtain ⟨t, ys, sat, run, block, -⟩ := h 1 9 selfPartnered rfl l.enabled l.waiting l.first l.count l.noTask l.ready l.domain
    l.length l.noDest l.matched l.noDelay
  obtain ⟨u, runs, y1⟩ := selfPartnered_runs
  obtain rfl : t = u := Host.Outcome.next.inj (run.symm.trans runs)
  obtain ⟨hs, beyond, -, stop, -, steps, -⟩ := block
  have last : hs 24 = t.hist 9 := stop
  obtain ⟨p1, p2, q, near1, near2, -, -, -, own, -⟩ := steps 23 (by decide)
  rw [selfPartnered_coefs] at near1 near2 own
  simp only [Int.zero_mul] at near1 near2 own
  obtain rfl := eq_zero_of_nearest_zero near1
  obtain rfl := eq_zero_of_nearest_zero near2
  have sample : (selfPartnered.osSource (1 : Fin 1024)).2.1.getD 23 0 = 8 := rfl
  rw [last, y1, sample] at own
  exact absurd own (by decide)

end Sys2Proof.Machine
end
